-- ==== Sys2Proof/Word.lean ====
section
/-! DEFINITION. The word of the exchange bus and the byte of the exchange RAM (00, "Data"; R164, R183). -/

namespace Sys2Proof

/-- A word is 16 bits (00_scope.md, "Data"). -/
abbrev Word := BitVec 16

/-- A byte of the exchange RAM. -/
abbrev Byte := BitVec 8

end Sys2Proof
end

