-- ==== Sys2Proof/Syntax.lean ====
section
/-! DEFINITION. The commands: one constructor per row of spec/opcode_table.json, in the table's order. -/

namespace Sys2Proof

/-- The four field links (R21). -/
inductive LinkId where
  | drive
  | engine
  | brake
  | pack
deriving DecidableEq, Repr

/-- The six wheels, named by axle and side (00, "Names"). -/
inductive WheelId where
  | a1l
  | a1r
  | a2l
  | a2r
  | a3l
  | a3r
deriving DecidableEq, Repr

/-- One word the vehicle controller writes into the exchange RAM (R164): the word address on XA1..XA13, and the value.
The byte address is twice the word address. -/
structure VcWrite where
  addr : BitVec 13
  value : Word
deriving DecidableEq, Repr

/-- The moment of a channel's turn at which a late write lands (log 4). In the turn of an order channel: `early`, after the
pending word and before the header is read; `mid`, between header and payload (R170, R171); `end_`, after the examination
and before the pending word is cleared (R169). In the turn of a report channel: `early`, before a cell is chosen (R177);
`mid`, between payload and length word (R178); `end_`, after the outgoing decision. -/
inductive Moment where
  | early
  | mid
  | end_
deriving DecidableEq, Repr

/-- A word the vehicle controller writes WHILE the part is in the turn of one channel of a sweep or of a report frame
(R164, R169, R178). Log 4. -/
structure LateWrite where
  channel : Nat
  moment : Moment
  write : VcWrite
deriving DecidableEq, Repr

/-- The commands of the block. The table gives its rows no operands; the operands are what the rules the row names take
from outside the part (log 3, 4, 9, 11, 12, 34). -/
inductive Instr where
  /-- KEEP_POWER_UP: main power is applied and the keep-store marker fails (R19). `vkeep`: the level of VKEEP (log 9). -/
  | keepPowerUp (vkeep : Bool)
  /-- MAIN_POWER_UP: main power is applied and the marker holds (R19). -/
  | mainPowerUp (vkeep : Bool)
  /-- PIN_RESET: RESET is released while main power is present (R19). -/
  | pinReset
  /-- RESET_ASSERTED (R19). -/
  | resetAsserted
  /-- MAIN_SUPPLY_LOSS (R18). -/
  | mainSupplyLoss (vkeep : Bool)
  /-- INTAKE_SWEEP (R169): the words the vehicle controller wrote since the last event that reads the RAM, and the words it
  writes during the turns of order channels 0 to 7. -/
  | intakeSweep (writes : List VcWrite) (late : List LateWrite)
  /-- REPORT_FRAME (R175): as INTAKE_SWEEP, with the turns of report channels 8 to 15. -/
  | reportFrame (writes : List VcWrite) (late : List LateWrite)
  /-- SPLIT_FRAME (R64). -/
  | splitFrame
  /-- OUTPUT_STEP (R75). `blendFirst`: a blend frame falls together with the step and completes before its complement
  (R115); a BLEND_FRAME that completes after the complement is queued after the step (log 34). -/
  | outputStep (blendFirst : Bool := false)
  /-- BLEND_FRAME (R106). -/
  | blendFrame
  /-- CPL_FRAME (R83). -/
  | cplFrame
  /-- DSV_SECOND_TIMER (R17). -/
  | dsvSecondTimer
  /-- CPL_SECOND_TIMER (R86). -/
  | cplSecondTimer
  /-- ENA_SECOND_TIMER (R46, R54). -/
  | enaSecondTimer
  /-- PRECHARGE_TIMEOUT (R6). -/
  | prechargeTimeout
  /-- SETTLE_TIMER_EXPIRY (R5). -/
  | settleTimerExpiry
  /-- COOLDOWN_TIMER_EXPIRY (R4). -/
  | cooldownTimerExpiry
  /-- POWER_DOWN_TIMER_EXPIRY (R11). -/
  | powerDownTimerExpiry
  /-- SAFE_STOP_TIMER_EXPIRY (R10). -/
  | safeStopTimerExpiry
  /-- LINK_MONITOR_EXPIRY (R21). -/
  | linkMonitorExpiry (link : LinkId)
  /-- INVERTER_STATUS (R24), with the outcome of the link's frame check (R22). -/
  | inverterStatus (frameOk : Bool) (shaftSpeed linkVoltage motorLimit generatorLimit : Int)
  /-- ENGINE_STATUS (R26). -/
  | engineStatus (frameOk : Bool) (speed torque : Int) (running : Bool)
  /-- BRAKE_STATUS (R28). -/
  | brakeStatus (frameOk : Bool) (available absActive : Bool)
  /-- PACK_SAMPLE (R29). `elapsedMs`: the time since the last PACK_SAMPLE, from which SNS forms the outage. -/
  | packSample (frameOk : Bool) (count : Byte) (current voltage minTemp maxTemp : Int) (elapsedMs : Nat)
  /-- WHEEL_EDGE (R32): a rising edge, with the timer value captured. -/
  | wheelEdge (wheel : WheelId) (capture : Word)
  /-- WHEEL_TIMER_WRAP (R32). -/
  | wheelTimerWrap (wheel : WheelId)
  /-- SILENCE_TIMER_EXPIRY (R35): the silence timer reaches 500 ms. -/
  | silenceTimerExpiry (wheel : WheelId)
  /-- ATTN_WRITE (R181). -/
  | attnWrite (value : Word)
  /-- ATTN_EN_WRITE (R181). -/
  | attnEnWrite (value : Word)
  /-- LOG_TAKE_WRITE (R149). -/
  | logTakeWrite (value : Word)
  /-- REGISTER_WRITE_IGNORED: a write to ID (R181), with the words the vehicle controller writes into the exchange RAM before
  it (R164, log 3). The write to ID has no effect, so this command is also how words are written between any two others. -/
  | registerWriteIgnored (value : Word) (writes : List VcWrite := [])
  /-- KEEP_SUPPLY_LOSS (R18). -/
  | keepSupplyLoss
deriving DecidableEq, Repr

end Sys2Proof
end

