-- ==== Sys2Proof/Config.lean ====
section
/-! DEFINITION. The free values the spec leaves open: the content of the exchange RAM after a power-up. -/

namespace Sys2Proof

/-- The content of a byte of the exchange RAM that nothing has written since the last power-up, in the regions the spec
says are "not defined" then (R142: the log slots; R164: the data area). A free value: it depends on which power-up it was
and on the byte address, and on nothing a proof can see (log 5). -/
opaque Config.freeRamByte : Nat → Nat → Byte

end Sys2Proof
end

