-- ==== Sys2Proof/Machine/State.lean ====
section
/-! DEFINITION. Everything the spec gives the part, as plain data, and the state right after a reset. -/

namespace Sys2Proof.Machine

/-! ## Names (R183 lists the enumerations; their codes are in Operands.lean) -/

/-- Driveline states (section 1.1). -/
inductive DrivelineState where
  | standby
  | precharge
  | ready
  | drive
  | limp
  | safeStop
  | powerDown
  | faulted
deriving DecidableEq, Repr

/-- Fault kinds, in the order of their numbers (R153). -/
inductive FaultKind where
  | demandStale
  | demandLost
  | packLinkLost
  | inverterLinkLost
  | engineLinkLost
  | brakeLinkLost
  | prechargeTimeout
  | packOvertemp
  | socUnknown
  | engineStartFailed
  | engineStall
  | syncTimeout
  | wheelSensor
  | configMissing
deriving DecidableEq, Repr

/-- Reaction classes, lowest first (R153). -/
inductive ReactionClass where
  | info
  | derate
  | limp
  | safeStop
  | shutdown
deriving DecidableEq, Repr

/-- The stop cause: NONE, KEY_OFF, or FAULT with the kind that set it (R1). -/
inductive StopCause where
  | none
  | keyOff
  | fault (kind : FaultKind)
deriving DecidableEq, Repr

/-- The state of a fault record (R152). -/
inductive RecordState where
  | inactive
  | active
  | latched
deriving DecidableEq, Repr

/-- The engine permission of MODE (section 1.7). -/
inductive Permission where
  | allowed
  | quiet
  | forceRun
deriving DecidableEq, Repr

/-- The kinds of reset (R19). -/
inductive ResetCause where
  | keepPowerUp
  | mainPowerUp
  | pin
deriving DecidableEq, Repr

/-- The direction of DEMAND (section 4.1). -/
inductive Direction where
  | neutral
  | forward
  | reverse
deriving DecidableEq, Repr

/-- The last moving direction (R58). -/
inductive MovingDirection where
  | none
  | forward
  | reverse
deriving DecidableEq, Repr

/-- The split mode (R68). -/
inductive SplitMode where
  | electric
  | hybrid
deriving DecidableEq, Repr

/-- The step mode of the torque arbiter (R75). -/
inductive StepMode where
  | disabled
  | propulsion
  | recovery
  | slipRelease
deriving DecidableEq, Repr

/-- Engine states (section 5.1). -/
inductive EngineState where
  | off
  | cranking
  | running
  | stopping
  | lockedOut
deriving DecidableEq, Repr

/-- Coupling states (section 5.1); `opened` is OPEN. -/
inductive CouplingState where
  | opened
  | syncing
  | closing
  | coupled
  | opening
deriving DecidableEq, Repr

/-- Sync sub-modes, and none outside SYNCING (section 5.1). -/
inductive SyncMode where
  | none
  | acquire
  | track
  | locked
deriving DecidableEq, Repr

/-- The modes of ENGINE_REQUEST (R25). -/
inductive EngineMode where
  | start
  | stop
  | idle
  | speed
  | torque
deriving DecidableEq, Repr

/-- The warned level of a wear counter (R126). -/
inductive WarnLevel where
  | none
  | advise
  | urgent
deriving DecidableEq, Repr

/-- The severity of a log entry (R143), lowest first. -/
inductive Severity where
  | note
  | advise
  | urgent
deriving DecidableEq, Repr

/-- The outcome of an intake examination (R173). -/
inductive OutcomeCode where
  | accepted
  | adjusted
  | notFilled
  | badCell
  | cellClass
  | short
  | range
  | state
  | notAtRest
  | notInService
  | windowClosed
deriving DecidableEq, Repr

/-- The detail flags of an examination (R173, R183). -/
structure DetailFlags where
  length : Bool
  channel : Bool
  clamped : Bool
  held : Bool
deriving DecidableEq, Repr

/-- A wear counter W0 to W9 (section 7.1). -/
abbrev Counter := Fin 10

/-- A cell of the exchange RAM, 0 to 95 (R165). -/
abbrev CellIndex := Fin 96

/-! ## Supplies and resets (sections 1.11, 1.12) -/

/-- The two supplies, the keep-store marker and the RESET pin (R18, R19). -/
structure Supply where
  /-- Main supply on VMAIN present. -/
  main : Bool
  /-- Keep supply on VKEEP present. -/
  keep : Bool
  /-- The keep store's integrity marker holds; it fails when both supplies have been absent together. -/
  markerHolds : Bool
  /-- The RESET pin is asserted. -/
  resetAsserted : Bool
  /-- The power-up kind that a RESET held across a main power-up will record when it is released (R19). -/
  heldPowerUp : Option ResetCause
deriving DecidableEq, Repr

/-! ## Driveline supervisor -/

/-- The MODE image (section 1.7). -/
structure ModeImage where
  /-- The key: true for ON. -/
  keyOn : Bool
  permission : Permission
  /-- S_t, in 0.01 %. -/
  socTarget : Nat
  service : Bool
  /-- Never kept (R14): always clear. -/
  acknowledge : Bool
deriving DecidableEq, Repr

/-- The LIMITS image: 25 fields (section 1.8). -/
structure Limits where
  motorCeiling : Nat
  regenCeiling : Nat
  tPeak : Nat
  pPeak : Nat
  torqueStep : Nat
  ratio100 : Nat
  wheelRadius : Nat
  wheelTeeth : Nat
  phi1 : Nat
  phi2 : Nat
  phi3 : Nat
  gain1 : Nat
  gain2 : Nat
  gain3 : Nat
  capacity : Nat
  sMin : Nat
  sMax : Nat
  kSoc : Nat
  idleStop : Nat
  clutchFill : Nat
  slipLimit : Nat
  maxRoadSpeed : Nat
  limpFraction : Nat
  packHot : Nat
  packAbsMax : Nat
deriving DecidableEq, Repr

/-- The driveline supervisor. A timer is none when stopped, and some d when it was started at d ms (log 11). -/
structure Dsv where
  state : DrivelineState
  stopCause : StopCause
  prechargeTimer : Option Nat
  settleTimer : Option Nat
  cooldownTimer : Option Nat
  powerDownTimer : Option Nat
  safeStopTimer : Option Nat
  /-- Contactors as DSV last commanded them: true for CLOSED (R2). -/
  negClosed : Bool
  preClosed : Bool
  posClosed : Bool
  /-- The POS-closed flag of the keep store (R2). -/
  posFlag : Bool
  /-- An INVERTER_STATUS has arrived since PRECHARGE was entered (R5, R144). -/
  inverterSincePrecharge : Bool
  mode : ModeImage
  serviceMode : Bool
  limits : Limits
  /-- Operating seconds, 32 bits, retained (R17). -/
  operatingSeconds : Nat
  /-- Keep-store state, retained (R18): true for VALID, false for LOST. -/
  keepStoreValid : Bool
  resetCause : ResetCause
deriving DecidableEq, Repr

/-! ## Fault table -/

/-- A fault record (R152); an absent stamp is none. The reaction class is fixed by the kind. -/
structure FaultRecord where
  state : RecordState
  count : Nat
  first : Option Nat
  last : Option Nat
deriving DecidableEq, Repr

/-- The fourteen records and the detail cursor (R152, R162); the cursor is 2 × kind for a first stamp, and one more for a
last stamp. -/
structure FaultTable where
  records : Vector FaultRecord 14
  cursor : Fin 28
deriving DecidableEq, Repr

/-! ## Sensing unit -/

/-- One link (R21): UP or LOST, seen, and its loss monitor. -/
structure Link where
  up : Bool
  seen : Bool
  monitor : Option Nat
deriving DecidableEq, Repr

/-- One wheel channel (R32, R33, R35). -/
structure Wheel where
  /-- The 16-bit timer, as the latest event of the channel showed it (log 11). -/
  timer : Word
  previous : Word
  havePrevious : Bool
  /-- 0..2. -/
  overflow : Nat
  /-- The silence timer has run 500 ms. -/
  silent : Bool
  speed : Nat
  valid : Bool
  sensorFault : Bool
deriving DecidableEq, Repr

/-- A speed with its validity (v_ref and v3, R34). -/
structure AxleSpeed where
  speed : Nat
  valid : Bool
deriving DecidableEq, Repr

/-- The sensing unit. -/
structure Sns where
  driveLink : Link
  engineLink : Link
  brakeLink : Link
  packLink : Link
  shaftSpeed : Int
  linkVoltage : Nat
  motorLimit : Nat
  generatorLimit : Nat
  engineSpeed : Nat
  engineTorque : Int
  engineRunning : Bool
  brakeAvailable : Bool
  absActive : Bool
  packCount : Byte
  packCurrent : Int
  packVoltage : Nat
  packMinTemp : Int
  packMaxTemp : Int
  roadSpeed : Nat
  /-- circ_mm (R30). -/
  circ : Nat
  /-- K_w (R33). -/
  toothConstant : Nat
  /-- 0.1 km, 32 bits, retained (R31). -/
  odometer : Nat
  odometerRemainder : Nat
  wheels : Vector Wheel 6
  vRef : AxleSpeed
  v3 : AxleSpeed
deriving DecidableEq, Repr

/-! ## Energy account -/

/-- One entry of the acceptance table, in whole A (R49). -/
structure AcceptanceEntry where
  discharge : Nat
  charge : Nat
deriving DecidableEq, Repr

/-- The acceptance table (R49); the temperature band is the major index of the entries. -/
structure AcceptanceTable where
  tempEdges : Vector Int 4
  socEdges : Vector Nat 3
  entries : Vector AcceptanceEntry 20
deriving DecidableEq, Repr

/-- The energy account (section 3.1). The SOC is derived (R42). -/
structure Ena where
  offset : Int
  gain : Int
  lastCount : Option Byte
  /-- I_c, 0.1 A. -/
  current : Int
  voltage : Nat
  minTemp : Int
  maxTemp : Int
  /-- Qc, 0.1 mA·s, retained. -/
  charge : Nat
  /-- Capacity in force, 0.1 Ah, retained. -/
  capacity : Nat
  /-- SOC validity, retained: true for VALID. -/
  socValid : Bool
  restTimer : Nat
  unaccounted : Nat
  table : AcceptanceTable
  iDis : Nat
  iChg : Nat
  pDis : Nat
  pChg : Nat
  /-- Throughput remainders, retained (R55). -/
  dischargeRemainder : Nat
  chargeRemainder : Nat
  /-- Session energy (R56). -/
  spentEnergy : Nat
  recoveredEnergy : Nat
  spentRemainder : Nat
  recoveredRemainder : Nat
deriving DecidableEq, Repr

/-! ## Propulsion split and torque arbiter -/

/-- The DEMAND image (R58). -/
structure DemandImage where
  accelerator : Nat
  brake : Nat
  direction : Direction
  doorsOpen : Bool
  mass : Nat
deriving DecidableEq, Repr

/-- One point of the engine map (R73). -/
structure MapPoint where
  speed : Nat
  tOpt : Nat
  tMax : Nat
deriving DecidableEq, Repr

/-- The propulsion split (R58, R62, R64, R72, R73). -/
structure Spl where
  demand : DemandImage
  lastMoving : MovingDirection
  demandSequence : Word
  demandAge : Nat
  mapPoints : List MapPoint
  mapValid : Bool
  tMax : Nat
  tDem : Int
  tMotAvail : Nat
  tGenAvail : Nat
  mode : SplitMode
  shortfall : Nat
  shortfallRun : Nat
  propulsionRequest : Int
  engineRequest : Int
  /-- n, road speed, SOC, P_dis and P_chg of the latest frame's snapshot (R72; log 14). -/
  frameN : Nat
  frameRoadSpeed : Nat
  frameSoc : Nat
  framePDis : Nat
  framePChg : Nat
deriving DecidableEq, Repr

/-- The torque arbiter (R75). -/
structure Tqa where
  issued : Int
  stepMode : StepMode
deriving DecidableEq, Repr

/-! ## Coupling sequencer and brake blender -/

/-- The coupling sequencer (section 5.1). -/
structure Cpl where
  engine : EngineState
  /-- The engine want: true for ON. -/
  wantOn : Bool
  coupling : CouplingState
  sync : SyncMode
  position : Nat
  crankCount : Nat
  crankTimer : Nat
  failureWait : Nat
  stallBlock : Nat
  syncTimer : Nat
  lockRun : Nat
  retryDelay : Nat
  stopTimer : Nat
  surplusRun : Nat
  countdown : Nat
  speedRequest : Nat
  lastMode : EngineMode
  /-- Slip remainder, retained (R82). -/
  slipRemainder : Nat
  /-- n_eng and e of the latest frame (R104; log 14). -/
  frameEngineSpeed : Nat
  frameSpeedError : Int
deriving DecidableEq, Repr

/-- The brake blender (section 6.1). -/
structure Bbl where
  force : Nat
  force1 : Nat
  force2 : Nat
  force3 : Nat
  aReq : Nat
  /-- Recovery permission: true for GRANTED. -/
  permission : Bool
  recoveryActive : Bool
  tRa : Nat
  regenForce : Nat
  regenRequest : Nat
  p1 : Nat
  p2 : Nat
  motorForce : Int
  friction3 : Nat
  p3 : Nat
  /-- λ in ‰ and its formed flag; 0 while unformed. -/
  slip : Int
  slipFormed : Bool
  slipHold : Bool
  entryRun : Nat
  releaseRun : Nat
  /-- The return ramp: none, or running with its cap in Nm. -/
  ramp : Option Nat
  /-- Friction remainders of A1, A2 and A3, retained (R105). -/
  remainder1 : Nat
  remainder2 : Nat
  remainder3 : Nat
  /-- The issued torque of the latest complement (R125; log 14). -/
  complementTorque : Int
deriving DecidableEq, Repr

/-! ## Wear monitor and warning log -/

/-- A counter record (R126), all of it retained. -/
structure WearRecord where
  value : Nat
  advise : Nat
  urgent : Nat
  warned : WarnLevel
  thresholdsSet : Bool
  stampOdometer : Nat
  stampSeconds : Nat
deriving DecidableEq, Repr

/-- The ten records and the reseed window, retained (R126). -/
structure Wear where
  counters : Vector WearRecord 10
  windowOpen : Bool
deriving DecidableEq, Repr

/-- The LOG_FILTER image (R145). -/
structure LogFilter where
  mask : Word
  minimum : Severity
deriving DecidableEq, Repr

/-- The ring records and the filter (R142, R145). -/
structure LogRing where
  readPos : Nat
  writePos : Nat
  occupancy : Nat
  nextSequence : Word
  drops : Nat
  filter : LogFilter
deriving DecidableEq, Repr

/-! ## Exchange controller -/

/-- One entry of the ORDER_RESULT report (R174). -/
structure ResultEntry where
  cell : Nat
  sequence : Word
  code : OutcomeCode
  flags : DetailFlags
deriving DecidableEq, Repr

/-- An order channel's row of the internal channel table (R168). -/
structure OrderRow where
  current : Option CellIndex
  takeCount : Word
  lastCode : OutcomeCode
  lastFlags : DetailFlags
  result : ResultEntry
deriving DecidableEq, Repr

/-- A report channel's row of the internal channel table (R168). -/
structure ReportRow where
  published : Option CellIndex
  held : Option CellIndex
  sequence : Word
  skips : Nat
  changePending : Bool
deriving DecidableEq, Repr

/-- The exchange controller's own records. Report channel 8 + i is row i of `reports`. -/
structure Exc where
  frameNumber : Word
  sweepCount : Word
  orders : Vector OrderRow 8
  reports : Vector ReportRow 8
deriving DecidableEq, Repr

/-- The exchange RAM: bytes by address, in the canonical form of Memory.wf (Ops.lean). -/
abbrev Memory := List Host.Cell

/-- The exchange RAM and the registers of section 10.7 that hold state. -/
structure Port where
  ram : Memory
  /-- The eight latched causes of ATTN. -/
  attn : BitVec 8
  /-- The eight enables of ATTN_EN. -/
  attnEn : BitVec 8
  /-- The MODEL's own: which power-up the unwritten bytes belong to (log 5). -/
  powerUps : Nat
deriving DecidableEq, Repr

/-! ## Messages to the field -/

/-- A message SNS sends (R23, R25, R27). -/
inductive FieldMessage where
  | torqueCommand (torque : Int) (enable : Bool)
  | engineRequest (mode : EngineMode) (torque speed : Nat)
  | blendRequest (p1 p2 p3 : Nat) (regenActive : Bool)
deriving DecidableEq, Repr

/-! ## The state -/

/-- The whole part. -/
structure State where
  supply : Supply
  dsv : Dsv
  faults : FaultTable
  sns : Sns
  ena : Ena
  spl : Spl
  tqa : Tqa
  cpl : Cpl
  bbl : Bbl
  wear : Wear
  log : LogRing
  exc : Exc
  port : Port
  /-- The MODEL's own: the messages handed to the links since the last reset, newest first (log 13). -/
  sent : List FieldMessage
  /-- The commands that are waiting, first in, first out. -/
  pending : List Instr
deriving DecidableEq, Repr

/-- The reasons a step can stop the block: none. The spec gives the part no behaviour that stops it, and every access it
describes lies inside the exchange RAM, so no meaning raises one (INVENTORY.md, "Faults"). Safe. -/
inductive Fault where
deriving DecidableEq, Repr

/-- The reasons a command has no meaning. -/
inductive Refusal where
  /-- Raised by Dispatch.lean for a command whose meaning is not written; no arm raises it. Safe: the model stops. -/
  | notModelled (mnemonic : String)
deriving DecidableEq, Repr

/-! ## Reset values -/

/-- The default LIMITS record (section 1.8). -/
def Limits.default : Limits :=
  { motorCeiling := 2000, regenCeiling := 1800, tPeak := 2800, pPeak := 300, torqueStep := 30, ratio100 := 800,
    wheelRadius := 480, wheelTeeth := 80, phi1 := 300, phi2 := 250, phi3 := 450, gain1 := 30, gain2 := 30, gain3 := 35,
    capacity := 600, sMin := 2000, sMax := 8500, kSoc := 20, idleStop := 20, clutchFill := 300, slipLimit := 80,
    maxRoadSpeed := 600, limpFraction := 400, packHot := 45, packAbsMax := 60 }

/-- DSV after a keep power-up (R1, R2, R14 to R19). -/
def Dsv.reset : Dsv :=
  { state := .standby, stopCause := .none, prechargeTimer := none, settleTimer := none, cooldownTimer := none,
    powerDownTimer := none, safeStopTimer := none, negClosed := false, preClosed := false, posClosed := false,
    posFlag := false, inverterSincePrecharge := false,
    mode := { keyOn := false, permission := .allowed, socTarget := 5500, service := false, acknowledge := false },
    serviceMode := false, limits := Limits.default, operatingSeconds := 0, keepStoreValid := false,
    resetCause := .keepPowerUp }

/-- A record before any raising (R152). -/
def FaultRecord.empty : FaultRecord := { state := .inactive, count := 0, first := none, last := none }

/-- The emptied fault table (R152, R162). -/
def FaultTable.empty : FaultTable := { records := Vector.replicate 14 FaultRecord.empty, cursor := 27 }

/-- A link after a reset (R21). -/
def Link.reset : Link := { up := false, seen := false, monitor := none }

/-- A wheel channel after a reset (R32, R33, R35). -/
def Wheel.reset : Wheel :=
  { timer := 0, previous := 0, havePrevious := false, overflow := 0, silent := false, speed := 0, valid := false,
    sensorFault := false }

/-- SNS after a keep power-up (R21, R22, R30 to R35). -/
def Sns.reset : Sns :=
  { driveLink := Link.reset, engineLink := Link.reset, brakeLink := Link.reset, packLink := Link.reset,
    shaftSpeed := 0, linkVoltage := 0, motorLimit := 0, generatorLimit := 0,
    engineSpeed := 0, engineTorque := 0, engineRunning := false, brakeAvailable := false, absActive := false,
    packCount := 0, packCurrent := 0, packVoltage := 0, packMinTemp := 0, packMaxTemp := 0,
    roadSpeed := 0, circ := 3015, toothConstant := 1356750, odometer := 0, odometerRemainder := 0,
    wheels := Vector.replicate 6 Wheel.reset, vRef := { speed := 0, valid := false }, v3 := { speed := 0, valid := false } }

/-- The default acceptance table (R49). -/
def AcceptanceTable.default : AcceptanceTable :=
  { tempEdges := #v[-10, 10, 35, 50], socEdges := #v[2000, 5000, 8000],
    entries := Vector.replicate 20 { discharge := 100, charge := 50 } }

/-- ENA after a keep power-up (section 3.1, R38). -/
def Ena.reset : Ena :=
  { offset := 0, gain := 0, lastCount := none, current := 0, voltage := 0, minTemp := 0, maxTemp := 0,
    charge := 1080000000, capacity := 600, socValid := false, restTimer := 0, unaccounted := 0,
    table := AcceptanceTable.default, iDis := 0, iChg := 0, pDis := 0, pChg := 0, dischargeRemainder := 0,
    chargeRemainder := 0, spentEnergy := 0, recoveredEnergy := 0, spentRemainder := 0, recoveredRemainder := 0 }

/-- SPL after every reset (R58, R62, R64, R73; log 14 for the snapshot values). -/
def Spl.reset : Spl :=
  { demand := { accelerator := 0, brake := 0, direction := .neutral, doorsOpen := false, mass := 18000 },
    lastMoving := .none, demandSequence := 0, demandAge := 255, mapPoints := [], mapValid := false, tMax := 0, tDem := 0,
    tMotAvail := 0, tGenAvail := 0, mode := .electric, shortfall := 0, shortfallRun := 0, propulsionRequest := 0,
    engineRequest := 0, frameN := 0, frameRoadSpeed := 0, frameSoc := 0, framePDis := 0, framePChg := 0 }

/-- TQA after every reset (R75). -/
def Tqa.reset : Tqa := { issued := 0, stepMode := .disabled }

/-- CPL after a keep power-up (section 5.1; log 14 for the frame values). -/
def Cpl.reset : Cpl :=
  { engine := .off, wantOn := false, coupling := .opened, sync := .none, position := 0, crankCount := 0, crankTimer := 0,
    failureWait := 0, stallBlock := 0, syncTimer := 0, lockRun := 0, retryDelay := 0, stopTimer := 0, surplusRun := 0,
    countdown := 20, speedRequest := 0, lastMode := .stop, slipRemainder := 0, frameEngineSpeed := 0,
    frameSpeedError := 0 }

/-- BBL after a keep power-up (section 6.1; log 14 for the complement's torque). -/
def Bbl.reset : Bbl :=
  { force := 0, force1 := 0, force2 := 0, force3 := 0, aReq := 0, permission := false, recoveryActive := false, tRa := 0,
    regenForce := 0, regenRequest := 0, p1 := 0, p2 := 0, motorForce := 0, friction3 := 0, p3 := 0, slip := 0,
    slipFormed := false, slipHold := false, entryRun := 0, releaseRun := 0, ramp := none, remainder1 := 0,
    remainder2 := 0, remainder3 := 0, complementTorque := 0 }

/-- A counter record after a keep power-up (R126). -/
def WearRecord.reset : WearRecord :=
  { value := 0, advise := 0, urgent := 0, warned := .none, thresholdsSet := false, stampOdometer := 0, stampSeconds := 0 }

/-- WRM's retained records after a keep power-up (R126). -/
def Wear.reset : Wear := { counters := Vector.replicate 10 WearRecord.reset, windowOpen := true }

/-- The emptied log with the default filter (R142, R145). -/
def LogRing.empty : LogRing :=
  { readPos := 0, writePos := 0, occupancy := 0, nextSequence := 0, drops := 0,
    filter := { mask := 0xFFFF, minimum := .note } }

/-- No detail flag. -/
def DetailFlags.none : DetailFlags := { length := false, channel := false, clamped := false, held := false }

/-- EXC after every reset (R168, R169, R174, R175). -/
def Exc.reset : Exc :=
  { frameNumber := 0, sweepCount := 0,
    orders := Vector.replicate 8
      { current := none, takeCount := 0, lastCode := .accepted, lastFlags := DetailFlags.none,
        result := { cell := 255, sequence := 0, code := .accepted, flags := DetailFlags.none } },
    reports := Vector.replicate 8
      { published := none, held := none, sequence := 0, skips := 0, changePending := false } }

/-- The fault table right after a keep power-up: SOC_UNKNOWN and CONFIG_MISSING have been raised at operating seconds 0
(R158). -/
def FaultTable.reset : FaultTable :=
  { records :=
      ((Vector.replicate 14 FaultRecord.empty).set 8 { state := .active, count := 1, first := some 0, last := some 0 }).set
        13 { state := .active, count := 1, first := some 0, last := some 0 },
    cursor := 27 }

/-- What the exchange RAM holds right after a keep power-up beside its reset contents: the status block's reseed window,
write position, occupancy and attention mirror (R180), and the RETAINED_LOST entry in slot 0 (R19, R143, R144). -/
def Memory.reset : Memory :=
  [(138, 1), (144, 1), (146, 1), (150, 0x80)] ++
  [(0x580, 0), (0x581, 0), (0x582, 4), (0x583, 0), (0x584, 2), (0x585, 0), (0x586, 0xFF), (0x587, 0xFF)] ++
  [(0x588, 0xFF), (0x589, 0xFF), (0x58A, 0xFF), (0x58B, 0xFF), (0x58C, 0xFF), (0x58D, 0xFF), (0x58E, 0xFF), (0x58F, 0xFF)] ++
  [(0x590, 0), (0x591, 0), (0x592, 0), (0x593, 0), (0x594, 0), (0x595, 0), (0x596, 0), (0x597, 0)] ++
  [(0x598, 0), (0x599, 0), (0x59A, 0), (0x59B, 0), (0x59C, 0), (0x59D, 0), (0x59E, 0), (0x59F, 0)]

/-- The machine right after a reset: the keep power-up that the first application of both supplies is (R19; log 1). -/
def State.reset : State :=
  { supply := { main := true, keep := true, markerHolds := true, resetAsserted := false, heldPowerUp := none },
    dsv := Dsv.reset, faults := FaultTable.reset, sns := Sns.reset, ena := Ena.reset, spl := Spl.reset, tqa := Tqa.reset,
    cpl := Cpl.reset, bbl := Bbl.reset, wear := Wear.reset,
    log := { LogRing.empty with writePos := 1, occupancy := 1, nextSequence := 1 },
    exc := Exc.reset,
    port := { ram := Memory.reset, attn := 0x80, attnEn := 0, powerUps := 1 },
    sent := [], pending := [] }

end Sys2Proof.Machine
end

