-- ==== Sys2Proof/Machine/Arith.lean ====
section
/-! DEFINITION. The manual's arithmetic (00, "Data"): truncation, saturation, rounding, and the words of a field (R183, R185). -/

namespace Sys2Proof.Machine

/-- clamp(x, a, b): x limited to the closed interval from a to b (00, "Data"). -/
def clamp (x a b : Int) : Int := max a (min x b)

/-- A non-negative field taken in from a message: saturated into 0..hi (R22). -/
def satField (x : Int) (hi : Nat) : Nat := (clamp x 0 hi).toNat

/-- ceil(a / b) (00, "Data"). -/
def ceilDiv (a b : Nat) : Nat := (a + b - 1) / b

/-- The quotient of num by den rounded to the nearest integer, a half away from zero (R40). -/
def roundHalfAway (num : Int) (den : Nat) : Int :=
  if num < 0 then -(((2 * num.natAbs + den) / (2 * den) : Nat) : Int) else (((2 * num.natAbs + den) / (2 * den) : Nat) : Int)

/-- x moved toward 0 by s, stopping at 0 (R63). -/
def towardZero (x : Int) (s : Nat) : Int :=
  if 0 < x then max 0 (x - s) else min 0 (x + s)

/-- The value nearest to x in the closed interval between 0 and r (R63). -/
def betweenZeroAnd (x r : Int) : Int := clamp x (min 0 r) (max 0 r)

/-- The largest 32-bit count (R17, R31, R56, R127). -/
def max32 : Nat := 4294967295

/-- A non-negative value as a word; a value that exceeds the field saturates (R185). -/
def natWord (n : Nat) : Word := BitVec.ofNat 16 (min n 65535)

/-- A signed value as a two's-complement word; it saturates at the field's ends (R183, R185). -/
def intWord (i : Int) : Word := BitVec.ofInt 16 (clamp i (-32768) 32767)

/-- A flag as a word (R183). -/
def flagWord (b : Bool) : Word := if b then 1 else 0

/-- A 32-bit value as two words, the less significant first (R183). -/
def wideWords (n : Nat) : List Word :=
  [BitVec.ofNat 16 (min n max32 % 65536), BitVec.ofNat 16 (min n max32 / 65536)]

/-- A 32-bit value that may be negative, as two words (R144). -/
def wideIntWords (i : Int) : List Word :=
  if i < 0 then [BitVec.ofInt 16 i, 0xFFFF] else wideWords i.toNat

/-- An absent two-word field reads 0xFFFF in both words (R143, R152). -/
def absentWide : List Word := [0xFFFF, 0xFFFF]

/-- Two words read as one 32-bit value (R183). -/
def wideOf (lo hi : Word) : Nat := lo.toNat + 65536 * hi.toNat

/-- Two bytes packed into a word (section 11.4). -/
def packBytes (lo hi : Nat) : Word := BitVec.ofNat 16 (min lo 255 + 256 * min hi 255)

/-- Entry i of a record of a fixed number of like things, replaced. -/
def putAt {α : Type} {n : Nat} (v : Vector α n) (i : Fin n) (x : α) : Vector α n := v.set i.val x i.isLt

end Sys2Proof.Machine
end

