-- ==== Sys2Proof/Machine/Flags.lean ====
section
/-! DEFINITION. Attention causes, detail flags, outcome codes and the classes of the fault kinds. -/

namespace Sys2Proof.Machine

/-- The attention causes, in the order of their bits (R182, section 11.5). -/
inductive Cause where
  | orderDone
  | faultChange
  | stateChange
  | warningAdded
  | logFull
  | reportSkipped
  | demandStale
  | retainedLost
deriving DecidableEq, Repr

/-- The bit of a cause in ATTN and ATTN_EN (section 11.5). -/
def Cause.bit : Cause → BitVec 8
  | .orderDone => 0x01
  | .faultChange => 0x02
  | .stateChange => 0x04
  | .warningAdded => 0x08
  | .logFull => 0x10
  | .reportSkipped => 0x20
  | .demandStale => 0x40
  | .retainedLost => 0x80

/-- The outcome codes (R173). -/
def OutcomeCode.code : OutcomeCode → Nat
  | .accepted => 0
  | .adjusted => 1
  | .notFilled => 2
  | .badCell => 3
  | .cellClass => 4
  | .short => 5
  | .range => 6
  | .state => 7
  | .notAtRest => 8
  | .notInService => 9
  | .windowClosed => 10

/-- Flags of both. -/
def DetailFlags.join (a b : DetailFlags) : DetailFlags :=
  { length := a.length || b.length, channel := a.channel || b.channel, clamped := a.clamped || b.clamped,
    held := a.held || b.held }

/-- Whether any flag was added (R172). -/
def DetailFlags.any (f : DetailFlags) : Bool := f.length || f.channel || f.clamped || f.held

/-- The flag field: LENGTH bit 0, CHANNEL bit 1, CLAMPED bit 2, HELD bit 3 (R183). -/
def DetailFlags.nibble (f : DetailFlags) : Nat :=
  (if f.length then 1 else 0) + (if f.channel then 2 else 0) + (if f.clamped then 4 else 0) + (if f.held then 8 else 0)

/-- The number of a fault kind (R153). -/
def FaultKind.number : FaultKind → Fin 14
  | .demandStale => 0
  | .demandLost => 1
  | .packLinkLost => 2
  | .inverterLinkLost => 3
  | .engineLinkLost => 4
  | .brakeLinkLost => 5
  | .prechargeTimeout => 6
  | .packOvertemp => 7
  | .socUnknown => 8
  | .engineStartFailed => 9
  | .engineStall => 10
  | .syncTimeout => 11
  | .wheelSensor => 12
  | .configMissing => 13

/-- Every kind, in number order (R153). -/
def FaultKind.all : List FaultKind :=
  [.demandStale, .demandLost, .packLinkLost, .inverterLinkLost, .engineLinkLost, .brakeLinkLost, .prechargeTimeout,
    .packOvertemp, .socUnknown, .engineStartFailed, .engineStall, .syncTimeout, .wheelSensor, .configMissing]

/-- The reaction class of a kind (R153). -/
def FaultKind.reactionClass : FaultKind → ReactionClass
  | .demandStale => .derate
  | .demandLost => .safeStop
  | .packLinkLost => .safeStop
  | .inverterLinkLost => .shutdown
  | .engineLinkLost => .limp
  | .brakeLinkLost => .limp
  | .prechargeTimeout => .info
  | .packOvertemp => .safeStop
  | .socUnknown => .derate
  | .engineStartFailed => .info
  | .engineStall => .info
  | .syncTimeout => .info
  | .wheelSensor => .info
  | .configMissing => .info

/-- The rank of a class, which is also its code (R153, R183). -/
def ReactionClass.rank : ReactionClass → Nat
  | .info => 0
  | .derate => 1
  | .limp => 2
  | .safeStop => 3
  | .shutdown => 4

/-- The record of a kind. -/
def FaultTable.record (t : FaultTable) (k : FaultKind) : FaultRecord := t.records.get k.number

/-- Whether the record of a kind is ACTIVE (R152). -/
def FaultTable.isActive (t : FaultTable) (k : FaultKind) : Bool := decide ((t.record k).state = .active)

/-- Whether some record of a class is ACTIVE. -/
def FaultTable.anyActive (t : FaultTable) (c : ReactionClass) : Bool :=
  FaultKind.all.any fun k => decide (k.reactionClass = c) && t.isActive k

/-- The highest active class; INFO when no record is ACTIVE (R159). -/
def FaultTable.highest (t : FaultTable) : ReactionClass :=
  if t.anyActive .shutdown then .shutdown
  else if t.anyActive .safeStop then .safeStop
  else if t.anyActive .limp then .limp
  else if t.anyActive .derate then .derate
  else .info

end Sys2Proof.Machine
end

