-- ==== Sys2Proof/Machine/Operands.lean ====
section
/-! DEFINITION. The codes of the enumerations (R183), and how a code in an order's payload is read (R184). -/

namespace Sys2Proof.Machine

/-- R183. -/
def DrivelineState.code : DrivelineState → Nat
  | .standby => 0
  | .precharge => 1
  | .ready => 2
  | .drive => 3
  | .limp => 4
  | .safeStop => 5
  | .powerDown => 6
  | .faulted => 7

/-- R183. -/
def Direction.code : Direction → Nat
  | .neutral => 0
  | .forward => 1
  | .reverse => 2

/-- R183. -/
def SplitMode.code : SplitMode → Nat
  | .electric => 0
  | .hybrid => 1

/-- R183. -/
def StepMode.code : StepMode → Nat
  | .disabled => 0
  | .propulsion => 1
  | .recovery => 2
  | .slipRelease => 3

/-- R183. -/
def EngineState.code : EngineState → Nat
  | .off => 0
  | .cranking => 1
  | .running => 2
  | .stopping => 3
  | .lockedOut => 4

/-- R183. -/
def CouplingState.code : CouplingState → Nat
  | .opened => 0
  | .syncing => 1
  | .closing => 2
  | .coupled => 3
  | .opening => 4

/-- R183. -/
def SyncMode.code : SyncMode → Nat
  | .none => 0
  | .acquire => 1
  | .track => 2
  | .locked => 3

/-- R183. -/
def EngineMode.code : EngineMode → Nat
  | .start => 0
  | .stop => 1
  | .idle => 2
  | .speed => 3
  | .torque => 4

/-- R183. -/
def StopCause.code : StopCause → Nat
  | .none => 0
  | .keyOff => 1
  | .fault _ => 2

/-- R183. -/
def ResetCause.code : ResetCause → Nat
  | .keepPowerUp => 0
  | .mainPowerUp => 1
  | .pin => 2

/-- R183. -/
def WarnLevel.code : WarnLevel → Nat
  | .none => 0
  | .advise => 1
  | .urgent => 2

/-- R183; also the rank of a severity (R145). -/
def Severity.code : Severity → Nat
  | .note => 0
  | .advise => 1
  | .urgent => 2

/-- The direction word of DEMAND (R59, R183). -/
def Direction.ofWord (w : Word) : Option Direction :=
  match w.toNat with
  | 0 => some .neutral
  | 1 => some .forward
  | 2 => some .reverse
  | _ => none

/-- The permission word of MODE (R14, R183). -/
def Permission.ofWord (w : Word) : Option Permission :=
  match w.toNat with
  | 0 => some .allowed
  | 1 => some .quiet
  | 2 => some .forceRun
  | _ => none

/-- A word that must be 0 or 1: key, service, acknowledge (R14), the present flag (R47). -/
def bitOfWord (w : Word) : Option Bool :=
  match w.toNat with
  | 0 => some false
  | 1 => some true
  | _ => none

/-- The minimum severity word of LOG_FILTER (R145, R183). -/
def Severity.ofWord (w : Word) : Option Severity :=
  match w.toNat with
  | 0 => some .note
  | 1 => some .advise
  | 2 => some .urgent
  | _ => none

/-- The operations of WEAR_SET (section 7.4). -/
inductive WearOp where
  | setThresholds
  | reseed
  | clear
deriving DecidableEq, Repr

/-- The operation word of WEAR_SET (R133, R183). -/
def WearOp.ofWord (w : Word) : Option WearOp :=
  match w.toNat with
  | 0 => some .setThresholds
  | 1 => some .reseed
  | 2 => some .clear
  | _ => none

/-- Word i of a payload as an unsigned number (R183). -/
def word (p : List Word) (i : Nat) : Nat := (p.getD i 0).toNat

/-- Word i of a payload as a signed number (R183). -/
def signedWord (p : List Word) (i : Nat) : Int := (p.getD i 0).toInt

/-- Words i and i + 1 of a payload as one 32-bit number (R183). -/
def wideWord (p : List Word) (i : Nat) : Nat := wideOf (p.getD i 0) (p.getD (i + 1) 0)

/-- The number of a wheel: A1L, A1R, A2L, A2R, A3L, A3R (R37). -/
def wheelNumber : WheelId → Fin 6
  | .a1l => 0
  | .a1r => 1
  | .a2l => 2
  | .a2r => 3
  | .a3l => 4
  | .a3r => 5

end Sys2Proof.Machine
end

