-- ==== Sys2Proof/Machine/Ops.lean ====
section
/-! DEFINITION. The exchange RAM, the directory, the cell headers, the status block and the attention causes: the
operations every meaning goes through. -/

namespace Sys2Proof.Machine

/-! ## The exchange RAM -/

/-- The size of the exchange RAM in bytes (section 10.1). -/
def ramBytes : Nat := 0x4000

/-- What an unlisted address reads as. The reset contents where the spec gives them: directory entries 0xFFFF 0xFFFF 0 0
(R167), status block 0 (rewritten by the reset, R180), headers 0x00FF 0 0 0 0 0 (R165). In the log slots (R142) and the
data area (R164) nothing: the content there is not defined after a power-up (log 5). -/
def unlistedByte (a : Nat) : Option Byte :=
  if a < 0x80 then some (if a % 8 < 4 then 0xFF else 0)
  else if a < 0x100 then some 0
  else if a < 0x580 then some (if (a - 0x100) % 12 = 0 then 0xFF else 0)
  else none

/-- The entry of an address. -/
def Memory.find : Memory → Nat → Option Byte
  | [], _ => none
  | (k, b) :: m, a => if k = a then some b else Memory.find m a

/-- An entry put in its place by address. -/
def Memory.put (a : Nat) (b : Byte) : Memory → Memory
  | [] => [(a, b)]
  | (k, v) :: m => if a < k then (a, b) :: (k, v) :: m else if a = k then (a, b) :: m else (k, v) :: Memory.put a b m

/-- The entry of an address taken out. -/
def Memory.drop (a : Nat) : Memory → Memory
  | [] => []
  | (k, v) :: m => if a = k then m else (k, v) :: Memory.drop a m

/-- A byte written. Writing what an unlisted address reads as takes the entry out, so the form stays canonical. There is no
address beyond the exchange RAM (XA1..XA13). -/
def Memory.store (m : Memory) (a : Nat) (b : Byte) : Memory :=
  if a < ramBytes then (if unlistedByte a = some b then Memory.drop a m else Memory.put a b m) else m

/-- Addresses strictly rising. -/
def Memory.rising : Memory → Bool
  | [] => true
  | [_] => true
  | (a, _) :: (b, v) :: m => decide (a < b) && Memory.rising ((b, v) :: m)

/-- The canonical form: addresses strictly rising and inside the RAM, and no entry equal to what an unlisted address reads
as. -/
def Memory.wf (m : Memory) : Bool :=
  Memory.rising m && m.all fun c => decide (c.1 < ramBytes) && decide (unlistedByte c.1 ≠ some c.2)

/-- A byte of the exchange RAM as either side reads it. -/
def Port.byteAt (p : Port) (a : Nat) : Byte :=
  match Memory.find p.ram a with
  | some b => b
  | none => (unlistedByte a).getD (Config.freeRamByte p.powerUps a)

/-- The word at a byte address (R164), its less significant byte at the lower address (log 6). -/
def Port.wordAt (p : Port) (a : Nat) : Word := p.byteAt (a + 1) ++ p.byteAt a

/-- A byte written. -/
def Port.setByte (p : Port) (a : Nat) (b : Byte) : Port := { p with ram := Memory.store p.ram a b }

/-- A word written whole (R164). -/
def Port.setWord (p : Port) (a : Nat) (w : Word) : Port :=
  (p.setByte a (w.setWidth 8)).setByte (a + 1) ((w >>> 8).setWidth 8)

/-- Consecutive words written from a byte address up. -/
def Port.setWords (p : Port) (a : Nat) : List Word → Port
  | [] => p
  | w :: ws => (p.setWord a w).setWords (a + 2) ws

/-- n consecutive words read from a byte address up. -/
def Port.wordsAt (p : Port) (a : Nat) : Nat → List Word
  | 0 => []
  | n + 1 => p.wordAt a :: p.wordsAt (a + 2) n

/-- The words the vehicle controller writes, in order (R164). -/
def Port.vcWrites (p : Port) : List VcWrite → Port
  | [] => p
  | v :: vs => (p.setWord (2 * v.addr.toNat) v.value).vcWrites vs

/-! ## Directory, headers, status block, log slots -/

/-- Word k of directory entry c (R167). -/
def dirAddr (c k : Nat) : Nat := 8 * c + 2 * k

/-- Word j of the header of cell k (R165). -/
def headerAddr (k : CellIndex) (j : Nat) : Nat := 0x100 + 12 * k.val + 2 * j

/-- Word i of the status block (R180). -/
def statusAddr (i : Nat) : Nat := 0x80 + 2 * i

/-- The first byte of log slot k (R142). -/
def slotAddr (k : Nat) : Nat := 0x580 + 32 * k

/-- Word w of the data area (R164). -/
def dataAddr (w : Nat) : Nat := 0xD80 + 2 * w

/-- An item of the status block written (R180). -/
def Port.setStatus (p : Port) (i : Nat) (w : Word) : Port := p.setWord (statusAddr i) w

/-- Cell states in a header's low byte (R183). -/
def cellFree : Nat := 0
/-- FILLED. -/
def cellFilled : Nat := 1
/-- RETURNED. -/
def cellReturned : Nat := 2
/-- TAKEN. -/
def cellTaken : Nat := 3
/-- SPARE. -/
def cellSpare : Nat := 4
/-- FILLING. -/
def cellFilling : Nat := 5
/-- PUBLISHED. -/
def cellPublished : Nat := 6
/-- HELD. -/
def cellHeld : Nat := 7

/-- The state of a cell, as its header reads (R165). -/
def Port.cellState (p : Port) (k : CellIndex) : Nat := (p.wordAt (headerAddr k 1)).toNat % 256

/-- The state and the outcome code of a cell written together (R165). -/
def Port.setCell (p : Port) (k : CellIndex) (state outcome : Nat) : Port :=
  p.setWord (headerAddr k 1) (packBytes state outcome)

/-- The state of a cell changed, its outcome code left as it was (R172; log 21). -/
def Port.setCellState (p : Port) (k : CellIndex) (state : Nat) : Port :=
  p.setCell k state ((p.wordAt (headerAddr k 1)).toNat / 256)

/-- Whether a cell is of long class (R165). -/
def isLong (k : CellIndex) : Bool := decide (64 ≤ k.val)

/-- The block of a cell lies inside the data area (R165). -/
def blockInside (k : CellIndex) (offset : Nat) : Bool := decide (offset + (if isLong k then 64 else 16) ≤ 6464)

/-- An index word of the directory: 0xFFFF means none (00, "Data"). -/
def indexWord : Option CellIndex → Word
  | none => 0xFFFF
  | some k => BitVec.ofNat 16 k.val

/-- Words the vehicle controller writes, in a state (R164). -/
def vcWrites (ws : List VcWrite) (s : State) : State := { s with port := s.port.vcWrites ws }

/-- What the vehicle controller writes reaches the RAM while the main supply is present (R164, R18; log 10). -/
def vcWritesPowered (ws : List VcWrite) (s : State) : State := if s.supply.main then vcWrites ws s else s

/-! ## Attention -/

/-- ATTN replaced; the attention mirror is written at each change (R182, R186). -/
def Port.setAttn (p : Port) (a : BitVec 8) : Port :=
  if a = p.attn then p else ({ p with attn := a } : Port).setStatus 11 (a.setWidth 16)

/-- A cause set; a cause already set stays set (R182). -/
def Port.setCause (p : Port) (c : Cause) : Port := p.setAttn (p.attn ||| c.bit)

/-- A cause set, in a state. -/
def setCause (c : Cause) (s : State) : State := { s with port := s.port.setCause c }

/-- An item of the status block written, in a state. -/
def setStatus (i : Nat) (w : Word) (s : State) : State := { s with port := s.port.setStatus i w }

/-- A change publication of report channel 8 + i requested (R176). -/
def requestReport (i : Fin 8) (s : State) : State :=
  { s with exc := { s.exc with reports := putAt s.exc.reports i { s.exc.reports.get i with changePending := true } } }

/-- A message handed to its link (R23, R25, R27; log 13). -/
def send (m : FieldMessage) (s : State) : State := { s with sent := m :: s.sent }

/-- Events of the part run only with main power present and RESET not asserted (R18, R19). -/
def State.running (s : State) : Bool := s.supply.main && !s.supply.resetAsserted

/-- An event of the part: it acts while the part runs, and does not run otherwise (R18, R19; log 10). -/
def whileRunning (f : State → State) (s : State) : State := if s.running then f s else s

/-- A meaning's answer. -/
abbrev Result := Host.Outcome State Fault Refusal

end Sys2Proof.Machine
end

