-- ==== Sys2Proof/Machine/Wear.lean ====
section
/-! DEFINITION. The warning log's append and take (chapter 8), and the wear counters with their threshold check (chapter 7). -/

namespace Sys2Proof.Machine

/-! ## Log entries -/

/-- The kinds of log entry, in the order of their numbers (R144). -/
inductive LogKind where
  | wearAdvise
  | wearUrgent
  | serviceClear
  | reseed
  | retainedLost
  | startFailed
  | engineStall
  | syncTimeout
  | slipHold
  | hotOpen
  | uncontrolledOpen
  | prechargeTimeout
  | safeStopEntered
  | shutdown
deriving DecidableEq, Repr

/-- The number of a kind (R144). -/
def LogKind.number : LogKind → Nat
  | .wearAdvise => 0
  | .wearUrgent => 1
  | .serviceClear => 2
  | .reseed => 3
  | .retainedLost => 4
  | .startFailed => 5
  | .engineStall => 6
  | .syncTimeout => 7
  | .slipHold => 8
  | .hotOpen => 9
  | .uncontrolledOpen => 10
  | .prechargeTimeout => 11
  | .safeStopEntered => 12
  | .shutdown => 13

/-- The severity of a kind (R144). -/
def LogKind.severity : LogKind → Severity
  | .wearAdvise => .advise
  | .wearUrgent => .urgent
  | .serviceClear => .note
  | .reseed => .note
  | .retainedLost => .urgent
  | .startFailed => .advise
  | .engineStall => .note
  | .syncTimeout => .note
  | .slipHold => .note
  | .hotOpen => .advise
  | .uncontrolledOpen => .advise
  | .prechargeTimeout => .note
  | .safeStopEntered => .advise
  | .shutdown => .urgent

/-- An entry before its append gives it a sequence number (R143). -/
structure LogEntry where
  kind : LogKind
  source : Option Counter
  value : Option Int
  threshold : Option Nat
  odometer : Nat
  seconds : Nat
  frame : Word
deriving DecidableEq, Repr

/-- The sixteen words of an entry (R143, section 11.2). -/
def LogEntry.words (e : LogEntry) (sequence : Word) : List Word :=
  [sequence, natWord e.kind.number, natWord e.kind.severity.code,
    match e.source with
    | some c => natWord c.val
    | none => 0xFFFF] ++
  (match e.value with
    | some v => wideIntWords v
    | none => absentWide) ++
  (match e.threshold with
    | some t => wideWords t
    | none => absentWide) ++
  wideWords e.odometer ++ wideWords e.seconds ++ [e.frame, 0, 0, 0]

/-- Whether an entry passes the filter (R145). -/
def LogEntry.passes (e : LogEntry) (f : LogFilter) : Bool :=
  f.mask.getLsbD e.kind.number && decide (f.minimum.code ≤ e.kind.severity.code)

/-- An entry stamped with the odometer, operating seconds and frame number in force (R143). -/
def entryNow (s : State) (kind : LogKind) (source : Option Counter) (value : Option Int) (threshold : Option Nat) :
    LogEntry :=
  { kind := kind, source := source, value := value, threshold := threshold, odometer := s.sns.odometer,
    seconds := s.dsv.operatingSeconds, frame := s.exc.frameNumber }

/-! ## The ring -/

/-- The ring records after an entry was handed to the append (R146, R147). -/
def LogRing.afterAppend (r : LogRing) (e : LogEntry) : LogRing :=
  if e.passes r.filter then
    if r.occupancy < 64 then
      { r with writePos := (r.writePos + 1) % 64, occupancy := r.occupancy + 1, nextSequence := r.nextSequence + 1 }
    else { r with drops := min (r.drops + 1) 65535 }
  else r

/-- The status block's copies of the ring records (R151). -/
def Port.setLogStatus (p : Port) (r : LogRing) : Port :=
  (((p.setStatus 7 (natWord r.readPos)).setStatus 8 (natWord r.writePos)).setStatus 9 (natWord r.occupancy)).setStatus 10
    (natWord r.drops)

/-- The exchange RAM and ATTN after an entry was handed to the append (R146, R147, R151). `quiet`: the append is made at the
end of a reset and sets no cause (R19, R146). -/
def Port.afterAppend (p : Port) (quiet : Bool) (r : LogRing) (e : LogEntry) : Port :=
  if e.passes r.filter then
    if r.occupancy < 64 then
      let p1 := (p.setWords (slotAddr r.writePos) (e.words r.nextSequence)).setLogStatus (r.afterAppend e)
      if quiet then p1 else p1.setCause .warningAdded
    else
      let p1 := p.setLogStatus (r.afterAppend e)
      if quiet then p1 else p1.setCause .logFull
  else p

/-- The append (R146 to R148). -/
def logAppend (quiet : Bool) (e : LogEntry) (s : State) : State :=
  { s with log := s.log.afterAppend e, port := s.port.afterAppend quiet s.log e }

/-- An entry of a running part, stamped now (R143, R148). -/
def logNow (kind : LogKind) (source : Option Counter) (value : Option Int) (s : State) : State :=
  logAppend false (entryNow s kind source value none) s

/-- The oldest unread entry freed (R149); the status block's copies follow (R151). -/
def logTake (s : State) : State :=
  if s.log.occupancy = 0 then s
  else
    let r : LogRing := { s.log with readPos := (s.log.readPos + 1) % 64, occupancy := s.log.occupancy - 1 }
    { s with log := r, port := s.port.setLogStatus r }

/-! ## Wear counters -/

/-- W0 FRICTION_A1 (section 7.1). -/
def w0 : Counter := 0
/-- W1 FRICTION_A2. -/
def w1 : Counter := 1
/-- W2 FRICTION_A3. -/
def w2 : Counter := 2
/-- W3 CLUTCH_SLIP. -/
def w3 : Counter := 3
/-- W4 ENGINE_CRANKS. -/
def w4 : Counter := 4
/-- W5 PACK_DISCHARGE. -/
def w5 : Counter := 5
/-- W6 PACK_CHARGE. -/
def w6 : Counter := 6
/-- W7 CONTACTOR_HOT_OPENS. -/
def w7 : Counter := 7
/-- W8 SLIP_HOLDS. -/
def w8 : Counter := 8
/-- W9 PACK_HOT_TIME. -/
def w9 : Counter := 9

/-- The record of a counter replaced. -/
def setCounter (c : Counter) (r : WearRecord) (s : State) : State :=
  { s with wear := { s.wear with counters := putAt s.wear.counters c r } }

/-- The record of a counter. -/
def State.counter (s : State) (c : Counter) : WearRecord := s.wear.counters.get c

/-- The level a record's value and thresholds warrant (R129). -/
def WearRecord.warranted (r : WearRecord) : WarnLevel :=
  if r.urgent ≠ 0 ∧ r.urgent ≤ r.value then .urgent
  else if r.advise ≠ 0 ∧ r.advise ≤ r.value then .advise
  else .none

/-- The level the threshold check gives now, if any (R130). -/
def WearRecord.due (r : WearRecord) : Option WarnLevel :=
  if r.urgent ≠ 0 ∧ r.urgent ≤ r.value ∧ r.warned ≠ .urgent then some .urgent
  else if r.advise ≠ 0 ∧ r.advise ≤ r.value ∧ r.warned = .none then some .advise
  else none

/-- The kind of entry that gives a level. -/
def WarnLevel.kind : WarnLevel → LogKind
  | .urgent => .wearUrgent
  | .advise => .wearAdvise
  | .none => .wearAdvise

/-- The threshold of a level. -/
def WearRecord.thresholdOf (r : WearRecord) : WarnLevel → Nat
  | .urgent => r.urgent
  | .advise => r.advise
  | .none => r.advise

/-- The threshold check of one counter (R130): the level, the stamps and the entry (R131). -/
def thresholdCheck (quiet : Bool) (c : Counter) (s : State) : State :=
  match (s.counter c).due with
  | none => s
  | some level =>
    let r := s.counter c
    logAppend quiet (entryNow s level.kind (some c) (some (r.value : Int)) (some (r.thresholdOf level)))
      (setCounter c { r with warned := level, stampOdometer := s.sns.odometer, stampSeconds := s.dsv.operatingSeconds } s)

/-- An increment request (R127). -/
def wearIncrement (quiet : Bool) (c : Counter) (s : State) : State :=
  thresholdCheck quiet c (setCounter c { s.counter c with value := min ((s.counter c).value + 1) max32 } s)

/-- Several increment requests for one counter, one after the other (R127). -/
def wearIncrements (c : Counter) : Nat → State → State
  | 0, s => s
  | n + 1, s => wearIncrements c n (wearIncrement false c s)

/-! ## WEAR_SET operations -/

/-- SET_THRESHOLDS for one counter (R135). -/
def setThresholds (c : Counter) (advise urgent : Nat) (s : State) : State :=
  thresholdCheck false c
    (setCounter c { s.counter c with advise := advise, urgent := urgent, thresholdsSet := true, warned := .none } s)

/-- RESEED for one counter (R136). -/
def reseedCounter (c : Counter) (value : Nat) (s : State) : State :=
  thresholdCheck false c
    (logNow .reseed (some c) (some (value : Int)) (setCounter c { s.counter c with value := value, warned := .none } s))

/-- The requesting block's remainder for a counter set to 0 (R137, R103, R117, R55). -/
def clearRemainder (c : Counter) (s : State) : State :=
  match c.val with
  | 0 => { s with bbl := { s.bbl with remainder1 := 0 } }
  | 1 => { s with bbl := { s.bbl with remainder2 := 0 } }
  | 2 => { s with bbl := { s.bbl with remainder3 := 0 } }
  | 3 => { s with cpl := { s.cpl with slipRemainder := 0 } }
  | 5 => { s with ena := { s.ena with dischargeRemainder := 0 } }
  | 6 => { s with ena := { s.ena with chargeRemainder := 0 } }
  | _ => s

/-- CLEAR for one counter (R137). -/
def clearCounter (c : Counter) (s : State) : State :=
  let s1 := logNow .serviceClear (some c) (some ((s.counter c).value : Int)) s
  let s2 := clearRemainder c (setCounter c { s1.counter c with value := 0, warned := .none } s1)
  thresholdCheck false c s2

/-- The reseed window closes at the first entry to DRIVE, and the keep store is VALID again (R132, R18). -/
def closeWindow (s : State) : State :=
  if s.wear.windowOpen then
    setStatus 4 1 (setStatus 5 0
      { s with wear := { s.wear with windowOpen := false }, dsv := { s.dsv with keepStoreValid := true } })
  else s

end Sys2Proof.Machine
end

