-- ==== Sys2Proof/Machine/Driveline.lean ====
section
/-! DEFINITION. The driveline supervisor's transitions (chapter 1), the life of a fault record (chapter 9), and the
commands of DSV's own timers. -/

namespace Sys2Proof.Machine

/-! ## State changes -/

/-- DSV's records changed. -/
def State.withDsv (s : State) (d : Dsv) : State := { s with dsv := d }

/-- A change of driveline state: the state, ATTN.STATE_CHANGE and the status block's word (R1). -/
def setDrivelineState (st : DrivelineState) (s : State) : State :=
  setCause .stateChange (setStatus 1 (natWord st.code) (s.withDsv { s.dsv with state := st }))

/-- The stop cause changed (R1). -/
def setStopCause (c : StopCause) (s : State) : State := s.withDsv { s.dsv with stopCause := c }

/-- Every DSV timer stopped (R12). -/
def stopTimers (s : State) : State :=
  s.withDsv { s.dsv with
    prechargeTimer := none, settleTimer := none, cooldownTimer := none, powerDownTimer := none, safeStopTimer := none }

/-- |I_c| of the latest compensated current (R3, R11). -/
def State.packCurrentMagnitude (s : State) : Nat := s.ena.current.natAbs

/-- An opening of POS is hot (R3). -/
def hotOpening (s : State) : Bool := decide (500 < s.packCurrentMagnitude) || !s.sns.packLink.up

/-- DSV judges an opening of POS: a hot one is logged, then counted in W7 (R3). -/
def judgeOpening (s : State) : State :=
  if hotOpening s then
    wearIncrement false w7
      (logNow .hotOpen none (if s.sns.packLink.up then some (s.packCurrentMagnitude : Int) else none) s)
  else s

/-- DSV opens POS: the judgment of R3, then the contactor and the POS-closed flag (R2). A POS already OPEN stays as it is. -/
def openPos (s : State) : State :=
  if s.dsv.posClosed then
    let s1 := judgeOpening s
    s1.withDsv { s1.dsv with posClosed := false, posFlag := false }
  else s

/-- DSV opens all contactors: POS, then PRE, then NEG (R2). -/
def openAll (s : State) : State :=
  let s1 := openPos s
  s1.withDsv { s1.dsv with preClosed := false, negClosed := false }

/-- Entry to STANDBY: the stop cause returns to NONE (R1). -/
def enterStandby (s : State) : State := setDrivelineState .standby (setStopCause .none s)

/-- Entry to PRECHARGE: NEG, then PRE closed, and the precharge timer at 3.0 s (R4). -/
def enterPrecharge (s : State) : State :=
  setDrivelineState .precharge
    (s.withDsv { s.dsv with
      negClosed := true, preClosed := true, prechargeTimer := some 3000, inverterSincePrecharge := false })

/-- Entry to DRIVE; the first one closes the reseed window (R9, R132). -/
def enterDrive (s : State) : State := closeWindow (setDrivelineState .drive s)

/-- Entry to SAFE_STOP: the safe-stop timer at 30 s (R10). -/
def enterSafeStop (s : State) : State :=
  setDrivelineState .safeStop (s.withDsv { s.dsv with safeStopTimer := some 30000 })

/-- Entry to POWER_DOWN: the safe-stop timer stopped (R10), the power-down timer at 500 ms (R11). -/
def enterPowerDown (s : State) : State :=
  setDrivelineState .powerDown (s.withDsv { s.dsv with safeStopTimer := none, powerDownTimer := some 500 })

/-- PRECHARGE left by a key OFF or a SAFE_STOP-class fault (R7). -/
def abortPrecharge (s : State) : State :=
  let s1 := openAll s
  enterStandby (s1.withDsv { s1.dsv with prechargeTimer := none, settleTimer := none })

/-- The reaction to the highest class becoming SHUTDOWN (R12). -/
def shutdown (k : FaultKind) (s : State) : State :=
  setDrivelineState .faulted
    (logNow .shutdown none (some (k.number.val : Int)) (openAll (setStopCause (.fault k) (stopTimers s))))

/-! ## The tests of R1 that need no event of their own -/

/-- One transition whose cause holds now (R4, R8, R9, R10). -/
def dsvTest (s : State) : State :=
  let rank := s.faults.highest.rank
  match s.dsv.state with
  | .standby =>
    if s.dsv.mode.keyOn ∧ s.dsv.cooldownTimer = none ∧ rank < 3 then enterPrecharge s else s
  | .ready =>
    if s.spl.demand.direction ≠ .neutral ∧ s.faults.isActive .configMissing = false then
      (if rank < 2 then enterDrive s else if rank = 2 then setDrivelineState .limp s else s)
    else s
  | .drive =>
    if rank = 2 then setDrivelineState .limp s
    else if s.spl.demand.direction = .neutral ∧ s.sns.roadSpeed < 10 then setDrivelineState .ready s
    else s
  | .limp => if rank < 2 ∧ s.spl.demand.accelerator = 0 then enterDrive s else s
  | .safeStop => if s.sns.roadSpeed < 10 then enterPowerDown s else s
  | .precharge => s
  | .powerDown => s
  | .faulted => s

/-- DSV's tests in an event, with the further transition that the entry of a new state may cause (R1). No chain is longer
than two: LIMP to DRIVE to READY (log 15). -/
def dsvSettle (s : State) : State := dsvTest (dsvTest s)

/-! ## The fault table -/

/-- A record changed. -/
def setRecord (k : FaultKind) (r : FaultRecord) (s : State) : State :=
  { s with faults := { s.faults with records := putAt s.faults.records k.number r } }

/-- A raising (R154). -/
def FaultRecord.raise (r : FaultRecord) (now : Nat) : FaultRecord :=
  { state := .active, count := min (r.count + 1) 255, first := if r.count = 0 then some now else r.first, last := some now }

/-- The attention cause and the publication request of a change of records (R160). -/
def notifyFaults (s : State) : State := requestReport 4 (setCause .faultChange s)

/-- DSV's reaction to a SAFE_STOP-class kind: when it brought the class to SAFE_STOP (R7, R8, R9), and when it finds a stop
cause of KEY_OFF (R10, R11). -/
def safeStopReaction (k : FaultKind) (became : Bool) (s : State) : State :=
  match s.dsv.state with
  | .precharge => if became then abortPrecharge s else s
  | .ready => if became then enterPowerDown (setStopCause (.fault k) s) else s
  | .drive | .limp =>
    if became then
      enterSafeStop (logNow .safeStopEntered none (some (k.number.val : Int)) (setStopCause (.fault k) s))
    else s
  | .safeStop =>
    if s.dsv.stopCause = .keyOff then
      logNow .safeStopEntered none (some (k.number.val : Int)) (setStopCause (.fault k) s)
    else s
  | .powerDown => if s.dsv.stopCause = .keyOff then setStopCause (.fault k) s else s
  | .standby => s
  | .faulted => s

/-- DSV's reaction to a SHUTDOWN-class kind (R12): STANDBY and FAULTED are left as they are. -/
def shutdownReaction (k : FaultKind) (became : Bool) (s : State) : State :=
  match s.dsv.state with
  | .standby => s
  | .faulted => s
  | .precharge | .ready | .drive | .limp | .safeStop | .powerDown => if became then shutdown k s else s

/-- DSV's reaction to a raising: the kind, and whether the highest active class changed (R159). -/
def dsvOnRaise (k : FaultKind) (became : Bool) (s : State) : State :=
  dsvSettle
    (match k.reactionClass with
    | .shutdown => shutdownReaction k became s
    | .safeStop => safeStopReaction k became s
    | .limp => s
    | .derate => s
    | .info => s)

/-- A block raises a kind (R154, R159, R160). -/
def raiseFault (k : FaultKind) (s : State) : State :=
  let s1 := notifyFaults (setRecord k ((s.faults.record k).raise s.dsv.operatingSeconds) s)
  dsvOnRaise k (decide (s1.faults.highest ≠ s.faults.highest)) s1

/-- A block reports the clearing condition of a kind (R155, R159, R160). -/
def clearFault (k : FaultKind) (s : State) : State :=
  if s.faults.isActive k then dsvSettle (notifyFaults (setRecord k { s.faults.record k with state := .latched } s)) else s

/-- A momentary kind is raised: R154 and then R155 in one event (R156). -/
def momentaryFault (k : FaultKind) (s : State) : State :=
  notifyFaults (setRecord k { (s.faults.record k).raise s.dsv.operatingSeconds with state := .latched } s)

/-- A record after an acknowledgement (R157). -/
def FaultRecord.acknowledge (r : FaultRecord) : FaultRecord :=
  if r.state = .latched then { r with state := .inactive } else r

/-- Whether an acknowledgement finds a LATCHED record (R157). -/
def FaultTable.anyLatched (t : FaultTable) : Bool := FaultKind.all.any fun k => decide ((t.record k).state = .latched)

/-- The acknowledgement of a MODE take (R157, R160). -/
def acknowledgeFaults (s : State) : State :=
  if s.faults.anyLatched then
    notifyFaults { s with faults := { s.faults with records := s.faults.records.map FaultRecord.acknowledge } }
  else s

/-! ## Key, voltage condition, power-down -/

/-- DSV acts on the key of a MODE take (R7, R8, R9, R13), then tests its causes (R4, R1). -/
def dsvKey (s : State) : State :=
  dsvSettle
    (if s.dsv.mode.keyOn then s
    else
      match s.dsv.state with
      | .precharge => abortPrecharge s
      | .ready => enterPowerDown (setStopCause .keyOff s)
      | .drive | .limp => enterSafeStop (setStopCause .keyOff s)
      | .faulted => if s.faults.highest.rank < 3 then enterStandby s else s
      | .standby => s
      | .safeStop => s
      | .powerDown => s)

/-- The voltage condition (R5). -/
def voltageCondition (s : State) : Bool :=
  s.sns.driveLink.up && s.sns.packLink.up && s.dsv.inverterSincePrecharge &&
    decide (s.ena.voltage * 950 ≤ s.sns.linkVoltage * 1000)

/-- The settle time: 500 ms with a minimum cell temperature of 0 °C or lower, else 100 ms (R5). -/
def settleTime (s : State) : Nat := if s.ena.minTemp ≤ 0 then 500 else 100

/-- DSV tests the voltage condition while the precharge timer runs (R5). -/
def voltageTest (s : State) : State :=
  if s.dsv.prechargeTimer.isSome && voltageCondition s then
    s.withDsv { s.dsv with
      prechargeTimer := none, posClosed := true, posFlag := true, settleTimer := some (settleTime s) }
  else s

/-- The end of POWER_DOWN (R11): POS, then NEG opened, the timer stopped, then STANDBY or FAULTED by the stop cause. -/
def completePowerDown (s : State) : State :=
  let s1 := openPos s
  let s2 := s1.withDsv { s1.dsv with negClosed := false, powerDownTimer := none }
  dsvSettle
    (match s2.dsv.stopCause with
    | .fault k => setDrivelineState .faulted (logNow .shutdown none (some (k.number.val : Int)) s2)
    | .keyOff => enterStandby s2
    | .none => enterStandby s2)

/-! ## The commands of DSV's timers -/

/-- The precharge timer expires (R6). -/
def prechargeExpiry (s : State) : State :=
  if s.dsv.prechargeTimer.isSome then
    let s1 := openAll (s.withDsv { s.dsv with prechargeTimer := none })
    let s2 := momentaryFault .prechargeTimeout s1
    let s3 := logNow .prechargeTimeout none
      (if s2.dsv.inverterSincePrecharge then some (s2.sns.linkVoltage : Int) else none) s2
    dsvSettle (enterStandby (s3.withDsv { s3.dsv with cooldownTimer := some 10000 }))
  else s

/-- The settle timer expires: PRE opens and the driveline enters READY (R5). -/
def settleExpiry (s : State) : State :=
  if s.dsv.settleTimer.isSome then
    dsvSettle (setDrivelineState .ready (s.withDsv { s.dsv with settleTimer := none, preClosed := false }))
  else s

/-- The cooldown timer expires (R4, R6). -/
def cooldownExpiry (s : State) : State :=
  if s.dsv.cooldownTimer.isSome then dsvSettle (s.withDsv { s.dsv with cooldownTimer := none }) else s

/-- The power-down timer expires (R11). -/
def powerDownExpiry (s : State) : State :=
  if s.dsv.powerDownTimer.isSome then completePowerDown (s.withDsv { s.dsv with powerDownTimer := none }) else s

/-- The safe-stop timer expires (R10). -/
def safeStopExpiry (s : State) : State :=
  if s.dsv.safeStopTimer.isSome then dsvSettle (enterPowerDown (s.withDsv { s.dsv with safeStopTimer := none })) else s

/-- DSV's second timer (R17). -/
def dsvSecond (s : State) : State :=
  if s.dsv.state = .standby then s
  else s.withDsv { s.dsv with operatingSeconds := min (s.dsv.operatingSeconds + 1) max32 }

/-- PRECHARGE_TIMEOUT. -/
def execPrechargeTimeout (s : State) : Result := .next (whileRunning prechargeExpiry s)

/-- SETTLE_TIMER_EXPIRY. -/
def execSettleTimerExpiry (s : State) : Result := .next (whileRunning settleExpiry s)

/-- COOLDOWN_TIMER_EXPIRY. -/
def execCooldownTimerExpiry (s : State) : Result := .next (whileRunning cooldownExpiry s)

/-- POWER_DOWN_TIMER_EXPIRY. -/
def execPowerDownTimerExpiry (s : State) : Result := .next (whileRunning powerDownExpiry s)

/-- SAFE_STOP_TIMER_EXPIRY. -/
def execSafeStopTimerExpiry (s : State) : Result := .next (whileRunning safeStopExpiry s)

/-- DSV_SECOND_TIMER. -/
def execDsvSecondTimer (s : State) : Result := .next (whileRunning dsvSecond s)

end Sys2Proof.Machine
end

