-- ==== Sys2Proof/Machine/Sensing.lean ====
section
/-! DEFINITION. The sensing unit (chapter 2): links and monitors, the messages that concern SNS alone, road speed, odometer
and wheel speeds. PACK_SAMPLE stands in Energy.lean. -/

namespace Sys2Proof.Machine

/-- SNS's records changed. -/
def State.withSns (s : State) (n : Sns) : State := { s with sns := n }

/-! ## Links (R21) -/

/-- The record of a link. -/
def Sns.link (n : Sns) : LinkId → Link
  | .drive => n.driveLink
  | .engine => n.engineLink
  | .brake => n.brakeLink
  | .pack => n.packLink

/-- The record of a link replaced. -/
def Sns.setLink (n : Sns) (i : LinkId) (l : Link) : Sns :=
  match i with
  | .drive => { n with driveLink := l }
  | .engine => { n with engineLink := l }
  | .brake => { n with brakeLink := l }
  | .pack => { n with packLink := l }

/-- The loss time of a link, in ms (R21). -/
def lossTime : LinkId → Nat
  | .drive => 50
  | .engine => 50
  | .brake => 50
  | .pack => 20

/-- The fault of a link (R21). -/
def linkFault : LinkId → FaultKind
  | .drive => .inverterLinkLost
  | .engine => .engineLinkLost
  | .brake => .brakeLinkLost
  | .pack => .packLinkLost

/-- The arrival of a message of the link's kind (R21). In every arrival it comes first: a clearing report, and what DSV does
on it, come before the message's values are taken in (the model's choice, log 32). -/
def linkArrival (i : LinkId) (s : State) : State :=
  let was := s.sns.link i
  let s1 := s.withSns (s.sns.setLink i { up := true, seen := true, monitor := some (lossTime i) })
  if !was.up && was.seen then clearFault (linkFault i) s1 else s1

/-- ENA's part of a pack link loss (R43): limits and rest timer 0. -/
def packLost (s : State) : State :=
  { s with ena := { s.ena with iDis := 0, iChg := 0, pDis := 0, pChg := 0, restTimer := 0 } }

/-- A loss monitor expires (R21, R43). -/
def monitorExpiry (i : LinkId) (s : State) : State :=
  if (s.sns.link i).monitor.isSome then
    let s1 := s.withSns (s.sns.setLink i { s.sns.link i with up := false, monitor := none })
    let s2 :=
      match i with
      | .pack => packLost s1
      | .drive => s1
      | .engine => s1
      | .brake => s1
    raiseFault (linkFault i) s2
  else s

/-! ## Drive link (R24, R30, R31) -/

/-- n, the shaft speed magnitude (R24). -/
def State.shaftMagnitude (s : State) : Nat := s.sns.shaftSpeed.natAbs

/-- The road speed of a shaft speed magnitude (R30). -/
def roadSpeedOf (n circ ratio100 : Nat) : Nat := min (n * circ * 6 / (ratio100 * 100)) 65535

/-- The four fields taken in, and the road-speed update (R22, R24, R30). -/
def takeInverterFields (shaftSpeed linkVoltage motorLimit generatorLimit : Int) (s : State) : State :=
  let shaft := clamp shaftSpeed (-12000) 12000
  s.withSns { s.sns with
    shaftSpeed := shaft, linkVoltage := satField linkVoltage 10000, motorLimit := satField motorLimit 4000,
    generatorLimit := satField generatorLimit 4000,
    roadSpeed := roadSpeedOf shaft.natAbs s.sns.circ s.dsv.limits.ratio100 }

/-- The odometer addition (R31). -/
def odometerAddition (s : State) : State :=
  let total := s.sns.odometerRemainder + s.sns.roadSpeed
  s.withSns
    (if 360000 ≤ total then
      { s.sns with odometerRemainder := total - 360000, odometer := min (s.sns.odometer + 1) max32 }
    else { s.sns with odometerRemainder := total })

/-- DSV notes that an INVERTER_STATUS has arrived in PRECHARGE (R5; log 16). -/
def noteInverterArrival (s : State) : State :=
  if s.dsv.state = .precharge then s.withDsv { s.dsv with inverterSincePrecharge := true } else s

/-- An accepted INVERTER_STATUS (R21, R24, R30, R31), with DSV's tests against the new values (R5, R9, R10). -/
def inverterArrival (shaftSpeed linkVoltage motorLimit generatorLimit : Int) (s : State) : State :=
  dsvSettle (voltageTest (odometerAddition (takeInverterFields shaftSpeed linkVoltage motorLimit generatorLimit
    (linkArrival .drive (noteInverterArrival s)))))

/-! ## Engine and brake link (R26, R28) -/

/-- An accepted ENGINE_STATUS (R26). -/
def engineArrival (speed torque : Int) (running : Bool) (s : State) : State :=
  let s1 := linkArrival .engine s
  s1.withSns { s1.sns with
    engineSpeed := satField speed 4000, engineTorque := clamp torque (-500) 2000, engineRunning := running }

/-- An accepted BRAKE_STATUS (R28). -/
def brakeArrival (available absActive : Bool) (s : State) : State :=
  let s1 := linkArrival .brake s
  s1.withSns { s1.sns with brakeAvailable := available, absActive := absActive }

/-- The brake link is up in the sense of R28. -/
def State.brakeLinkUp (s : State) : Bool := s.sns.brakeLink.up && s.sns.brakeAvailable

/-! ## Wheels (R32 to R35) -/

/-- A wheel channel. -/
def Sns.wheel (n : Sns) (w : Fin 6) : Wheel := n.wheels.get w

/-- v_ref: the larger of the speeds of the VALID A1 wheels (R34). -/
def vRefOf (l r : Wheel) : AxleSpeed :=
  { speed := max (if l.valid then l.speed else 0) (if r.valid then r.speed else 0), valid := l.valid || r.valid }

/-- v3: the truncated mean of the VALID A3 wheels (R34). -/
def v3Of (l r : Wheel) : AxleSpeed :=
  if l.valid && r.valid then { speed := (l.speed + r.speed) / 2, valid := true }
  else if l.valid then { speed := l.speed, valid := true }
  else if r.valid then { speed := r.speed, valid := true }
  else { speed := 0, valid := false }

/-- A wheel channel replaced, with v_ref and v3 recomputed (R34). -/
def Sns.setWheel (n : Sns) (w : Fin 6) (x : Wheel) : Sns :=
  let ws := putAt n.wheels w x
  { n with wheels := ws, vRef := vRefOf (ws.get 0) (ws.get 1), v3 := v3Of (ws.get 4) (ws.get 5) }

/-- Both wheels of an axle (0 for A1, 1 for A2, 2 for A3) are VALID with speeds above 100 (R35). -/
def Sns.axleFast (n : Sns) (axle : Nat) : Bool :=
  match axle with
  | 0 => fast (n.wheel 0) && fast (n.wheel 1)
  | 1 => fast (n.wheel 2) && fast (n.wheel 3)
  | _ => fast (n.wheel 4) && fast (n.wheel 5)
where
  fast (x : Wheel) : Bool := x.valid && decide (100 < x.speed)

/-- Some axle other than the wheel's own is fast (R35). -/
def Sns.otherAxleFast (n : Sns) (w : Fin 6) : Bool :=
  [0, 1, 2].any fun a => decide (a ≠ w.val / 2) && n.axleFast a

/-- The test of R35: a silent wheel whose flag is clear, with another axle fast, is found faulty. -/
def sensorTest (w : Fin 6) (s : State) : State :=
  let x := s.sns.wheel w
  if x.silent && !x.sensorFault && s.sns.otherAxleFast w then
    raiseFault .wheelSensor (s.withSns { s.sns with wheels := putAt s.sns.wheels w { x with sensorFault := true } })
  else s

/-- The test of R35 for some wheels, one after the other. -/
def sensorTests : List (Fin 6) → State → State
  | [], s => s
  | w :: ws, s => sensorTests ws (sensorTest w s)

/-- Every wheel but one, ascending. -/
def otherWheels (w : Fin 6) : List (Fin 6) := ([0, 1, 2, 3, 4, 5] : List (Fin 6)).filter fun u => decide (u ≠ w)

/-- A wheel channel replaced; where its speed or validity changed, the other silent wheels are tested again (R34, R35). -/
def updateWheel (w : Fin 6) (x : Wheel) (s : State) : State :=
  let old := s.sns.wheel w
  let s1 := s.withSns (s.sns.setWheel w x)
  if old.speed = x.speed ∧ old.valid = x.valid then s1 else sensorTests (otherWheels w) s1

/-- The period of two captures in µs; 0 is taken as 1 (R32). -/
def periodOf (capture previous : Word) (overflow : Nat) : Nat :=
  max 1 (capture.toNat + 65536 * overflow - previous.toNat)

/-- The wheel channel after an edge (R32, R33, R35). -/
def Wheel.afterEdge (x : Wheel) (capture : Word) (toothConstant : Nat) : Wheel :=
  let y : Wheel := { x with
    timer := capture, previous := capture, havePrevious := true, overflow := 0, silent := false }
  if !x.havePrevious then y
  else if x.overflow < 2 then
    { y with
      speed := min (toothConstant / periodOf capture x.previous x.overflow) 65535, valid := true, sensorFault := false }
  else { y with speed := 0, valid := false }

/-- Some sensor-fault flag is set. -/
def Sns.anySensorFault (n : Sns) : Bool := ([0, 1, 2, 3, 4, 5] : List (Fin 6)).any fun w => (n.wheel w).sensorFault

/-- A rising edge (R32 to R35). When the edge clears the last set sensor-fault flag, WHEEL_SENSOR's clearing condition is
reported. -/
def edge (w : Fin 6) (capture : Word) (s : State) : State :=
  let s1 := updateWheel w ((s.sns.wheel w).afterEdge capture s.sns.toothConstant) s
  if (s.sns.wheel w).sensorFault && !s1.sns.anySensorFault then clearFault .wheelSensor s1 else s1

/-- The wheel channel after a wrap of its timer (R32), with the stop rule (R33). -/
def Wheel.afterWrap (x : Wheel) : Wheel :=
  let y : Wheel := { x with timer := 0, overflow := min (x.overflow + 1) 2 }
  if x.overflow = 1 then { y with speed := 0, valid := false } else y

/-- A wheel's timer wraps (R32, R33, R35). -/
def timerWrap (w : Fin 6) (s : State) : State := updateWheel w (s.sns.wheel w).afterWrap s

/-- A wheel's silence timer reaches 500 ms (R35). -/
def silenceExpiry (w : Fin 6) (s : State) : State :=
  if (s.sns.wheel w).silent then s
  else
    sensorTest w (s.withSns { s.sns with wheels := putAt s.sns.wheels w { s.sns.wheel w with silent := true } })

/-! ## LIMITS (R36) -/

/-- circ_mm (R30). -/
def circOf (radius : Nat) : Nat := radius * 6283 / 1000

/-- K_w (R33). -/
def toothConstantOf (circ teeth : Nat) : Nat := 36000 * circ / teeth

/-- SNS recomputes its constants at a LIMITS take (R36). -/
def recomputeWheelConstants (s : State) : State :=
  let circ := circOf s.dsv.limits.wheelRadius
  s.withSns { s.sns with circ := circ, toothConstant := toothConstantOf circ s.dsv.limits.wheelTeeth }

/-! ## The commands -/

/-- LINK_MONITOR_EXPIRY (R21). -/
def execLinkMonitorExpiry (link : LinkId) (s : State) : Result := .next (whileRunning (monitorExpiry link) s)

/-- INVERTER_STATUS (R24); a message that fails its frame check is discarded (R22). -/
def execInverterStatus (frameOk : Bool) (shaftSpeed linkVoltage motorLimit generatorLimit : Int) (s : State) : Result :=
  .next (whileRunning
    (fun t => if frameOk then inverterArrival shaftSpeed linkVoltage motorLimit generatorLimit t else t) s)

/-- ENGINE_STATUS (R26); R22. -/
def execEngineStatus (frameOk : Bool) (speed torque : Int) (running : Bool) (s : State) : Result :=
  .next (whileRunning (fun t => if frameOk then engineArrival speed torque running t else t) s)

/-- BRAKE_STATUS (R28); R22. -/
def execBrakeStatus (frameOk available absActive : Bool) (s : State) : Result :=
  .next (whileRunning (fun t => if frameOk then brakeArrival available absActive t else t) s)

/-- WHEEL_EDGE (R32). -/
def execWheelEdge (wheel : WheelId) (capture : Word) (s : State) : Result :=
  .next (whileRunning (edge (wheelNumber wheel) capture) s)

/-- WHEEL_TIMER_WRAP (R32). -/
def execWheelTimerWrap (wheel : WheelId) (s : State) : Result := .next (whileRunning (timerWrap (wheelNumber wheel)) s)

/-- SILENCE_TIMER_EXPIRY (R35). -/
def execSilenceTimerExpiry (wheel : WheelId) (s : State) : Result :=
  .next (whileRunning (silenceExpiry (wheelNumber wheel)) s)

end Sys2Proof.Machine
end

