-- ==== Sys2Proof/Machine/Energy.lean ====
section
/-! DEFINITION. The energy account (chapter 3): pack samples, charge, SOC, limits, throughput, session energy. -/

namespace Sys2Proof.Machine

/-- ENA's records changed. -/
def State.withEna (s : State) (e : Ena) : State := { s with ena := e }

/-- Q_cap of a capacity (section 3.1). -/
def qCapOf (capacity : Nat) : Nat := capacity * 3600000

/-- Q_cap of the capacity in force. -/
def Ena.qCap (e : Ena) : Nat := qCapOf e.capacity

/-- The SOC (R42). -/
def Ena.soc (e : Ena) : Nat := e.charge * 10000 / e.qCap

/-! ## Sorting and compensation -/

/-- The compensated current (R40). -/
def compensate (raw offset gain : Int) : Int := roundHalfAway ((raw - offset) * (1000000 + gain)) 1000000

/-- The three kinds of arrival (R39). -/
inductive SampleKind where
  | resynchronising (outage : Nat)
  | duplicate
  | integrating (elapsed : Nat)
deriving DecidableEq, Repr

/-- The outage SNS hands over with a resynchronising arrival: 0 after a reset, else the time since the last PACK_SAMPLE,
saturated at 65535 (R29). -/
def outageOf (link : Link) (elapsedMs : Nat) : Nat := if link.seen then min elapsedMs 65535 else 0

/-- The sorting of an arrival (R29, R39), from the pack link as it stood before the arrival. -/
def sampleKind (link : Link) (lastCount : Option Byte) (count : Byte) (elapsedMs : Nat) : SampleKind :=
  if !link.up then .resynchronising (outageOf link elapsedMs)
  else
    match lastCount with
    | none => .resynchronising 0
    | some last => if count = last then .duplicate else .integrating (count - last).toNat

/-! ## Charge, throughput and session energy -/

/-- The charge content after an integrating arrival (R41). -/
def integrateCharge (e : Ena) (elapsed : Nat) : Ena :=
  { e with charge := (clamp ((e.charge : Int) - e.current * elapsed) 0 e.qCap).toNat }

/-- The throughput remainders and their increment requests (R55). -/
def addThroughput (elapsed : Nat) (s : State) : State :=
  let moved := s.ena.current.natAbs * elapsed
  if 0 < s.ena.current then
    let total := s.ena.dischargeRemainder + moved
    if 3600000 ≤ total then
      wearIncrement false w5 (s.withEna { s.ena with dischargeRemainder := total - 3600000 })
    else s.withEna { s.ena with dischargeRemainder := total }
  else if s.ena.current < 0 then
    let total := s.ena.chargeRemainder + moved
    if 3600000 ≤ total then
      wearIncrement false w6 (s.withEna { s.ena with chargeRemainder := total - 3600000 })
    else s.withEna { s.ena with chargeRemainder := total }
  else s

/-- The session energy of an integrating arrival (R56); `brake`: the brake deceleration of the latest DEMAND image. -/
def addSession (e : Ena) (elapsed brake : Nat) : Ena :=
  let units := e.current.natAbs * e.voltage * elapsed
  if 0 < e.current then
    { e with
      spentRemainder := (e.spentRemainder + units) % 100000000,
      spentEnergy := min (e.spentEnergy + (e.spentRemainder + units) / 100000000) max32 }
  else if e.current < 0 ∧ 0 < brake then
    { e with
      recoveredRemainder := (e.recoveredRemainder + units) % 100000000,
      recoveredEnergy := min (e.recoveredEnergy + (e.recoveredRemainder + units) / 100000000) max32 }
  else e

/-- Step 3 of R39. -/
def accountSample (kind : SampleKind) (s : State) : State :=
  match kind with
  | .resynchronising outage => s.withEna { s.ena with unaccounted := min (s.ena.unaccounted + outage) 65535 }
  | .duplicate => s
  | .integrating elapsed =>
    let s1 := addThroughput elapsed (s.withEna (integrateCharge s.ena elapsed))
    s1.withEna (addSession s1.ena elapsed s1.spl.demand.brake)

/-! ## Rest, temperature, limits -/

/-- The rest timer's test (R46). -/
def restTest (e : Ena) : Ena := if 20 < e.current.natAbs then { e with restTimer := 0 } else e

/-- PACK_OVERTEMP's comparison with the latest maximum cell temperature (R53). -/
def overtempTest (s : State) : State :=
  let limit : Int := s.dsv.limits.packAbsMax
  if limit ≤ s.ena.maxTemp then
    (if s.faults.isActive .packOvertemp then s else raiseFault .packOvertemp s)
  else if s.ena.maxTemp < limit - 5 then clearFault .packOvertemp s
  else s

/-- The temperature band of a value: the number of edges at or below it (R49). -/
def AcceptanceTable.tempBand (t : AcceptanceTable) (x : Int) : Fin 5 :=
  if x < t.tempEdges.get 0 then 0
  else if x < t.tempEdges.get 1 then 1
  else if x < t.tempEdges.get 2 then 2
  else if x < t.tempEdges.get 3 then 3
  else 4

/-- The SOC band of a value (R49). -/
def AcceptanceTable.socBand (t : AcceptanceTable) (x : Nat) : Fin 4 :=
  if x < t.socEdges.get 0 then 0 else if x < t.socEdges.get 1 then 1 else if x < t.socEdges.get 2 then 2 else 3

/-- The entry of a pair of bands (R49). -/
def AcceptanceTable.entry (t : AcceptanceTable) (temp : Fin 5) (soc : Fin 4) : AcceptanceEntry :=
  t.entries.get ⟨4 * temp.val + soc.val, by omega⟩

/-- The taper: full 500 or more from the end of the window, 0 at it (R51). -/
def taper (limit room : Nat) : Nat := limit * min room 500 / 500

/-- The derate of an UNKNOWN SOC validity (R51). -/
def derate (valid : Bool) (limit : Nat) : Nat := if valid then limit else limit * 250 / 1000

/-- I_dis of R51. -/
def dischargeLimit (e : Ena) (sMin : Nat) : Nat :=
  derate e.socValid (taper (e.table.entry (e.table.tempBand e.maxTemp) (e.table.socBand e.soc)).discharge (e.soc - sMin))

/-- I_chg of R51. -/
def chargeLimit (e : Ena) (sMax : Nat) : Nat :=
  derate e.socValid (taper (e.table.entry (e.table.tempBand e.minTemp) (e.table.socBand e.soc)).charge (sMax - e.soc))

/-- The current and power limits of an arrival (R51). -/
def recomputeLimits (s : State) : State :=
  let d := dischargeLimit s.ena s.dsv.limits.sMin
  let c := chargeLimit s.ena s.dsv.limits.sMax
  s.withEna { s.ena with
    iDis := d, iChg := c, pDis := d * s.ena.voltage / 1000, pChg := c * s.ena.voltage / 1000 }

/-! ## The arrival -/

/-- SNS takes in the five fields; a minimum temperature above the maximum is exchanged with it (R22, R29). -/
def takePackFields (count : Byte) (current voltage minTemp maxTemp : Int) (s : State) : State :=
  let a := clamp minTemp (-40) 125
  let b := clamp maxTemp (-40) 125
  s.withSns { s.sns with
    packCount := count, packCurrent := clamp current (-10000) 10000, packVoltage := satField voltage 10000,
    packMinTemp := min a b, packMaxTemp := max a b }

/-- Steps 1 and 2 of R39: V, the temperatures and I_c. -/
def takeSample (s : State) : State :=
  s.withEna { s.ena with
    voltage := s.sns.packVoltage, minTemp := s.sns.packMinTemp, maxTemp := s.sns.packMaxTemp,
    current := compensate s.sns.packCurrent s.ena.offset s.ena.gain }

/-- Steps 1 to 7 of R39 for an arrival that is not a duplicate. -/
def enaSample (kind : SampleKind) (count : Byte) (s : State) : State :=
  let s1 := accountSample kind (takeSample s)
  let s2 := overtempTest (s1.withEna (restTest s1.ena))
  let s3 := recomputeLimits s2
  s3.withEna { s3.ena with lastCount := some count }

/-- DSV's test of R11 at an arrival for which ENA formed a new I_c; the sample must come after the entry to POWER_DOWN
(log 16). -/
def powerDownTest (wasPowerDown : Bool) (s : State) : State :=
  if wasPowerDown ∧ s.dsv.state = .powerDown ∧ s.packCurrentMagnitude < 200 then completePowerDown s else s

/-- An accepted PACK_SAMPLE (R21, R29, R39), with DSV's tests (R5, R11). The manual gives no order among the blocks within an
arrival; the order here is the model's choice: SNS first, so that at the arrival that ends a loss PACK_LINK_LOST clears and
DSV acts on it (R4) before ENA's steps and their PACK_OVERTEMP test (log 32); then ENA's steps of R39 whole; then DSV's tests
of R5 and R11, so that a PACK_OVERTEMP raised by a sample in POWER_DOWN counts before that sample ends POWER_DOWN (log 33). -/
def packArrival (count : Byte) (current voltage minTemp maxTemp : Int) (elapsedMs : Nat) (s : State) : State :=
  let kind := sampleKind s.sns.packLink s.ena.lastCount count elapsedMs
  let s1 := takePackFields count current voltage minTemp maxTemp (linkArrival .pack s)
  match kind with
  | .duplicate => dsvSettle (voltageTest s1)
  | .resynchronising outage =>
    dsvSettle (powerDownTest (decide (s.dsv.state = .powerDown))
      (voltageTest (enaSample (.resynchronising outage) count s1)))
  | .integrating elapsed =>
    dsvSettle (powerDownTest (decide (s.dsv.state = .powerDown))
      (voltageTest (enaSample (.integrating elapsed) count s1)))

/-! ## ENA's second timer (R46, R54) -/

/-- The rest timer at an expiry of ENA's second timer (R46). -/
def restSecond (up : Bool) (e : Ena) : Ena := if up then { e with restTimer := min (e.restTimer + 1) 65535 } else e

/-- ENA's second timer: the rest timer, then the pack hot time (R46, R54). -/
def enaSecond (s : State) : State :=
  let s1 := s.withEna (restSecond s.sns.packLink.up s.ena)
  if s1.sns.packLink.up && decide ((s1.dsv.limits.packHot : Int) ≤ s1.ena.maxTemp) then wearIncrement false w9 s1 else s1

/-! ## LIMITS and COMPENSATION -/

/-- The capacity rescale of a LIMITS take (R44). -/
def rescale (capacity : Nat) (e : Ena) : Ena :=
  if capacity = e.capacity then e else { e with capacity := capacity, charge := e.soc * qCapOf capacity / 10000 }

/-- The rebase of a COMPENSATION order with a rest SOC (R48). -/
def rebase (restSoc : Nat) (e : Ena) : Ena := { e with charge := restSoc * e.qCap / 10000, socValid := true }

/-! ## The commands -/

/-- PACK_SAMPLE (R39); R22. -/
def execPackSample (frameOk : Bool) (count : Byte) (current voltage minTemp maxTemp : Int) (elapsedMs : Nat) (s : State) :
    Result :=
  .next (whileRunning
    (fun t => if frameOk then packArrival count current voltage minTemp maxTemp elapsedMs t else t) s)

/-- ENA_SECOND_TIMER (R46, R54). -/
def execEnaSecondTimer (s : State) : Result := .next (whileRunning enaSecond s)

end Sys2Proof.Machine
end

