-- ==== Sys2Proof/Machine/Split.lean ====
section
/-! DEFINITION. The propulsion split (sections 4.1 to 4.4): demand age, staleness ramp, split frame, engine map. -/

namespace Sys2Proof.Machine

/-- SPL's records changed. -/
def State.withSpl (s : State) (p : Spl) : State := { s with spl := p }

/-- The driveline state is DRIVE or LIMP. -/
def DrivelineState.drives (d : DrivelineState) : Bool :=
  match d with
  | .drive => true
  | .limp => true
  | _ => false

/-- The driveline state is DRIVE, LIMP or SAFE_STOP: torque may flow (R23, R76). -/
def DrivelineState.torqueFlows (d : DrivelineState) : Bool :=
  match d with
  | .drive => true
  | .limp => true
  | .safeStop => true
  | _ => false

/-- The demand age counted, then tested in DRIVE and LIMP (R62). -/
def ageTest (s : State) : State :=
  let s1 := s.withSpl { s.spl with demandAge := min (s.spl.demandAge + 1) 255 }
  if s1.dsv.state.drives then
    let s2 :=
      if 5 < s1.spl.demandAge ∧ s1.faults.isActive .demandStale = false then
        setCause .demandStale (raiseFault .demandStale s1)
      else s1
    if 100 < s2.spl.demandAge ∧ s2.faults.isActive .demandLost = false then raiseFault .demandLost s2 else s2
  else s1

/-- n_eff (R65). -/
def nEff (n : Nat) : Nat := max n 100

/-- T_max (R65). -/
def tMaxOf (l : Limits) (n : Nat) : Nat := min l.tPeak (l.pPeak * 9549 / nEff n)

/-- T_mot_batt (R67). -/
def tMotBatt (pDis n : Nat) : Nat := pDis * 9549 * 942 / (10 * nEff n * 1024)

/-- T_gen_batt (R67, R109). -/
def tGenBatt (pChg n : Nat) : Nat := pChg * 9549 * 1024 / (10 * nEff n * 942)

/-- T_dem (R66). -/
def tDemOf (d : DemandImage) (l : Limits) (st : DrivelineState) (roadSpeed tMax : Nat) : Int :=
  let asked := d.accelerator * tMax / 1000
  if d.doorsOpen || decide (d.direction = .neutral) || !st.drives || decide (l.maxRoadSpeed ≤ roadSpeed) then 0
  else
    let capped := if st = .limp then min asked (tMax * l.limpFraction / 1000) else asked
    if d.direction = .reverse then -((min capped (tMax * 300 / 1000) : Nat) : Int) else (capped : Int)

/-- The split mode (R68). -/
def splitModeOf (c : CouplingState) (d : Direction) (st : DrivelineState) : SplitMode :=
  if c = .coupled ∧ d = .forward ∧ st.drives then .hybrid else .electric

/-- A value interpolated between two points, the division truncated toward zero (R74). -/
def interpolate (v0 v1 s0 s1 n : Nat) : Int := v0 + (((v1 : Int) - v0) * ((n : Int) - s0)).tdiv ((s1 : Int) - s0)

/-- T_opt and T_emax at n, from the points in rising order of speed (R74). -/
def mapLookup : List MapPoint → Nat → Int × Int
  | [], _ => (0, 0)
  | [p], _ => (p.tOpt, p.tMax)
  | p :: q :: ps, n =>
    if n ≤ p.speed then (p.tOpt, p.tMax)
    else if n < q.speed then (interpolate p.tOpt q.tOpt p.speed q.speed n, interpolate p.tMax q.tMax p.speed q.speed n)
    else mapLookup (q :: ps) n

/-- Motor and engine share in HYBRID (R69). -/
def hybridShare (tDem tOpt tEmax : Int) (kSoc soc socTarget tMot tGen : Nat) : Int × Int :=
  let tEng := clamp (tOpt - ((kSoc : Int) * ((soc : Int) - socTarget)).tdiv 100) 0 tEmax
  let tMotor := tDem - tEng
  if (tMot : Int) < tMotor then ((tMot : Int), min (tDem - tMot) tEmax)
  else if tMotor < -(tGen : Int) then (-(tGen : Int), min (tDem + tGen) tEmax)
  else (tMotor, tEng)

/-- The propulsion request in ELECTRIC (R70). -/
def electricShare (d : Direction) (tDem : Int) (tMot : Nat) : Int :=
  if d = .reverse then max tDem (-(tMot : Int)) else min tDem tMot

/-- The results of a frame before the staleness ramp (R64 to R71), from the snapshot s. -/
def splitCompute (s : State) : Spl :=
  let n := s.shaftMagnitude
  let l := s.dsv.limits
  let d := s.spl.demand
  let tMax := tMaxOf l n
  let tDem := tDemOf d l s.dsv.state s.sns.roadSpeed tMax
  let tMot := min (min l.motorCeiling s.sns.motorLimit) (tMotBatt s.ena.pDis n)
  let tGen := min (min l.regenCeiling s.sns.generatorLimit) (tGenBatt s.ena.pChg n)
  let mode := splitModeOf s.cpl.coupling d.direction s.dsv.state
  let share : Int × Int :=
    match mode with
    | .hybrid =>
      let v := mapLookup s.spl.mapPoints n
      hybridShare tDem v.1 v.2 l.kSoc s.ena.soc s.dsv.mode.socTarget tMot tGen
    | .electric => (electricShare d.direction tDem tMot, 0)
  let short := tDem.natAbs - (share.1 + share.2).natAbs
  { s.spl with
    tMax := tMax, tDem := tDem, tMotAvail := tMot, tGenAvail := tGen, mode := mode, shortfall := short,
    shortfallRun := if short = 0 then 0 else min (s.spl.shortfallRun + 1) 255,
    propulsionRequest := share.1, engineRequest := share.2,
    frameN := n, frameRoadSpeed := s.sns.roadSpeed, frameSoc := s.ena.soc, framePDis := s.ena.pDis,
    framePChg := s.ena.pChg }

/-- The staleness ramp: the frame's requests against the previous frame's (R63). -/
def stalenessRamp (prev next : Spl) (step : Nat) : Spl :=
  { next with
    propulsionRequest := betweenZeroAnd next.propulsionRequest (towardZero prev.propulsionRequest step),
    engineRequest := betweenZeroAnd next.engineRequest (towardZero prev.engineRequest step) }

/-- The split frame (R62 to R72): the age, then the computation, then the ramp. -/
def splitFrame (s : State) : State :=
  let s1 := ageTest s
  let next := splitCompute s1
  s1.withSpl
    (if s1.faults.isActive .demandStale then stalenessRamp s1.spl next s1.dsv.limits.torqueStep else next)

/-- SPLIT_FRAME (R64). -/
def execSplitFrame (s : State) : Result := .next (whileRunning splitFrame s)

end Sys2Proof.Machine
end

