-- ==== Sys2Proof/Machine/Torque.lean ====
section
/-! DEFINITION. The torque arbiter (section 4.5) and the drive-axle complement that answers it (section 6.3). The output step
itself, which may fall together with a blend frame, stands in Brake.lean. -/

namespace Sys2Proof.Machine

/-- The target and the step mode in DRIVE, LIMP and SAFE_STOP (R77). -/
def chooseTarget (s : State) : Int × StepMode :=
  let t : Int × StepMode :=
    if s.bbl.recoveryActive then (-(s.bbl.regenRequest : Int), .recovery)
    else if 0 < s.spl.demand.brake then (0, .propulsion)
    else if s.dsv.state = .safeStop then (0, .propulsion)
    else (s.spl.propulsionRequest, .propulsion)
  if s.bbl.slipHold then (max t.1 0, .slipRelease) else t

/-- The clamp into the availability (R78, R80). -/
def availClamp (s : State) (x : Int) : Int := clamp x (-(s.spl.tGenAvail : Int)) s.spl.tMotAvail

/-- The magnitude of the torque is decreasing from i toward t (R79): i is not 0, and t is 0, of the opposite sign, or of the
same sign with a smaller magnitude. -/
def magnitudeFalls (i t : Int) : Bool :=
  decide (i ≠ 0) && (decide (0 < i ∧ t < i) || decide (i < 0 ∧ i < t))

/-- The limit of a move (R79). -/
def moveLimit (slipHold : Bool) (i t : Int) (step : Nat) : Int :=
  if slipHold && decide (i < 0) then 8 * step else if magnitudeFalls i t then 4 * step else step

/-- The move of the issued torque from i toward t, stopped at a crossing of zero (R79). -/
def moveTorque (slipHold : Bool) (i t : Int) (step : Nat) : Int :=
  let lim := moveLimit slipHold i t step
  let m := i + clamp (t - i) (-lim) lim
  if (0 < i ∧ m < 0) ∨ (i < 0 ∧ 0 < m) then 0 else m

/-- TQA's records after an output step (R76 to R80). The step reads the driveline state as it stands, so a stay outside DRIVE,
LIMP and SAFE_STOP that began and ended between two steps leaves the torque as it was: the model's choice (log 35). -/
def outputTorque (s : State) : Tqa :=
  if s.dsv.state.torqueFlows then
    let c := chooseTarget s
    { issued :=
        availClamp s (moveTorque s.bbl.slipHold s.tqa.issued (availClamp s c.1) s.dsv.limits.torqueStep),
      stepMode := c.2 }
  else { issued := 0, stepMode := .disabled }

/-- The TORQUE_COMMAND of an output step (R23). -/
def torqueCommandOf (s : State) : FieldMessage :=
  if s.dsv.state.torqueFlows then .torqueCommand (clamp s.tqa.issued (-3500) 3500) true else .torqueCommand 0 false

/-- F_mb, the braking force of an issued torque at the drive axle (R114). -/
def motorBrakeForce (moving : MovingDirection) (issued : Int) (l : Limits) : Int :=
  let t := if moving = .reverse then issued else -issued
  (t * l.ratio100 * 10).tdiv l.wheelRadius

/-- BBL's records after the complement of an issued torque (R114). -/
def complementOf (b : Bbl) (moving : MovingDirection) (issued : Int) (l : Limits) : Bbl :=
  let f := motorBrakeForce moving issued l
  let friction := if 0 < b.aReq then (clamp ((b.force3 : Int) - f) 0 (1000 * l.gain3)).toNat else 0
  { b with motorForce := f, friction3 := friction, p3 := ceilDiv friction l.gain3, complementTorque := issued }

/-- The BLEND_REQUEST of a complement (R27, R115). -/
def blendRequestOf (b : Bbl) : FieldMessage := .blendRequest b.p1 b.p2 b.p3 b.recoveryActive

/-- TQA's issued torque put in force: TORQUE_COMMAND, the complement, BLEND_REQUEST (R75, R23, R114, R115). That the complement
reads SPL's last moving direction and the LIMITS image as they stand at this step, not as the latest blend frame snapshotted them
(R106), is the model's choice (log 38). -/
def issueTorque (q : Tqa) (s : State) : State :=
  let s1 : State := { s with tqa := q }
  let s2 := send (torqueCommandOf s1) s1
  let s3 : State := { s2 with bbl := complementOf s2.bbl s2.spl.lastMoving s2.tqa.issued s2.dsv.limits }
  send (blendRequestOf s3.bbl) s3

end Sys2Proof.Machine
end

