-- ==== Sys2Proof/Machine/Coupling.lean ====
section
/-! DEFINITION. The coupling sequencer (chapter 5): the CPL frame step by step, the second timer and the key-OFF take. -/

namespace Sys2Proof.Machine

/-- CPL's records changed. -/
def State.withCpl (s : State) (c : Cpl) : State := { s with cpl := c }

/-- e = n − n_eng (R83). -/
def State.speedError (s : State) : Int := (s.shaftMagnitude : Int) - s.sns.engineSpeed

/-! ## Steps 1 to 6 -/

/-- Step 1: each running delay falls by one (R83). -/
def stepDelays (c : Cpl) : Cpl :=
  { c with failureWait := c.failureWait - 1, stallBlock := c.stallBlock - 1, retryDelay := c.retryDelay - 1 }

/-- The clutch plates are pressed together: CLOSING, COUPLED or OPENING (R100, R103). -/
def CouplingState.pressed (c : CouplingState) : Bool :=
  match c with
  | .closing => true
  | .coupled => true
  | .opening => true
  | .opened => false
  | .syncing => false

/-- Step 4: slip energy (R103). -/
def countSlip (s : State) : State :=
  if s.cpl.coupling.pressed && s.sns.engineLink.up && decide (20 < s.speedError.natAbs) then
    let total := s.cpl.slipRemainder + s.sns.engineTorque.natAbs * s.speedError.natAbs
    wearIncrements w3 (total / 954930) (s.withCpl { s.cpl with slipRemainder := total % 954930 })
  else s

/-- The clutch opened at once (R100). -/
def openAtOnce (c : Cpl) : Cpl := { c with position := 0, coupling := .opened, sync := .none }

/-- Step 5: the stall (R91). -/
def stallTest (s : State) : State :=
  if s.cpl.engine = .running ∧ s.sns.engineLink.up ∧ s.sns.engineSpeed < 400 then
    let s1 := s.withCpl { openAtOnce s.cpl with engine := .off, stallBlock := 500 }
    logNow .engineStall none (some (s.sns.engineSpeed : Int)) (momentaryFault .engineStall s1)
  else s

/-- Step 6: overspeed (R100). -/
def overspeedTest (n : Nat) (c : Cpl) : Cpl :=
  if 2400 < n ∧ c.coupling ≠ .opened then openAtOnce c else c

/-! ## Step 7: the countdown and the want -/

/-- The hold of the idle-stop countdown (R86). -/
def holdCountdown (idleStop roadSpeed : Nat) (c : Cpl) : Cpl :=
  if c.engine ≠ .running ∨ 10 ≤ roadSpeed ∨ idleStop = 255 then { c with countdown := idleStop } else c

/-- The surplus run (R84). -/
def surplusOf (s : State) (run : Nat) : Nat :=
  if s.dsv.mode.socTarget + 200 ≤ s.ena.soc ∧ s.spl.shortfall = 0 then min (run + 1) 1000 else 0

/-- The driveline is at rest or stopping: STANDBY, PRECHARGE, SAFE_STOP, POWER_DOWN or FAULTED (R84). -/
def DrivelineState.engineBarred (d : DrivelineState) : Bool :=
  match d with
  | .standby => true
  | .precharge => true
  | .safeStop => true
  | .powerDown => true
  | .faulted => true
  | .ready => false
  | .drive => false
  | .limp => false

/-- A reason for OFF holds (R84), with CPL's records as step 7 has them. -/
def wantOff (s : State) (c : Cpl) : Bool :=
  decide (s.dsv.mode.permission = .quiet) || s.dsv.state.engineBarred ||
    decide (s.dsv.mode.permission = .allowed ∧ c.surplusRun = 1000) ||
    (decide (c.countdown = 0 ∧ c.engine = .running ∧ s.sns.roadSpeed < 10) &&
      !(decide (s.dsv.mode.permission = .forceRun) || decide (s.ena.soc < s.dsv.limits.sMin + 300)))

/-- A reason for ON holds (R85). -/
def wantOn (s : State) : Bool :=
  (decide (s.dsv.mode.permission = .allowed) && s.spl.mapValid && decide (s.spl.demand.direction = .forward) &&
    s.dsv.state.drives && decide (700 ≤ s.shaftMagnitude) && s.sns.engineLink.up &&
    decide (s.ena.soc + 300 ≤ s.dsv.mode.socTarget ∨ 20 ≤ s.spl.shortfallRun)) ||
  (decide (s.dsv.mode.permission = .forceRun) &&
    (decide (s.dsv.state = .ready) || s.dsv.state.drives))

/-- Step 7: the hold, the surplus run and the want (R84 to R86). -/
def formWant (s : State) (c : Cpl) : Cpl :=
  let c1 := holdCountdown s.dsv.limits.idleStop s.sns.roadSpeed c
  let c2 : Cpl := { c1 with surplusRun := surplusOf s c1.surplusRun }
  if wantOff s c2 then { c2 with wantOn := false } else if wantOn s then { c2 with wantOn := true } else c2

/-! ## Step 8: the coupling state -/

/-- A reason to decouple holds (R98). -/
def decouple (s : State) (c : Cpl) : Bool :=
  decide (0 < s.spl.demand.brake) || decide (s.shaftMagnitude < 650) || !c.wantOn || !s.sns.engineLink.up ||
    !s.dsv.state.drives || decide (s.spl.demand.direction ≠ .forward)

/-- The conditions of a coupling request (R93). -/
def couplingWanted (s : State) (c : Cpl) : Bool :=
  decide (c.engine = .running) && c.wantOn && s.spl.mapValid && decide (s.spl.demand.direction = .forward) &&
    s.dsv.state.drives && decide (700 ≤ s.shaftMagnitude ∧ s.shaftMagnitude ≤ 2400) &&
    decide (s.spl.demand.brake = 0) && s.sns.engineLink.up && decide (c.retryDelay = 0)

/-- n_req by the ACQUIRE rule (R94). -/
def acquireRequest (s : State) : Nat := (clamp ((s.shaftMagnitude : Int) + clamp s.speedError (-300) 300) 0 3000).toNat

/-- n_req by the TRACK rule (R94). -/
def trackRequest (s : State) : Nat :=
  (clamp ((s.shaftMagnitude : Int) + clamp (s.speedError.tdiv 4) (-50) 50) 0 3000).toNat

/-- The step of the closing ramp (R97). -/
def closingStep (clutchFill : Nat) : Nat := 1000 / (clutchFill / 10)

/-- The position one closing step on; at 1000 the coupling state becomes COUPLED (R97). -/
def rampClosed (step : Nat) (c : Cpl) : Cpl :=
  if 1000 ≤ c.position + step then { c with position := 1000, coupling := .coupled, sync := .none }
  else { c with position := c.position + step, coupling := .closing, sync := .none }

/-- The position one opening step on; at 0 the coupling state becomes OPEN (R99). -/
def rampOpen (c : Cpl) : Cpl :=
  if c.position ≤ 100 then { c with position := 0, coupling := .opened, sync := .none }
  else { c with position := c.position - 100, coupling := .opening, sync := .none }

/-- The move of the sub-mode (R94): the sub-mode and the lock run after, from those before and |e|. LOCKED held is handled by
the caller. That the lock run keeps its old value where TRACK falls back to ACQUIRE, and in ACQUIRE, is the model's choice: the
table gives none there, and the next entry to TRACK overwrites it (log 37). -/
def moveSync (mode : SyncMode) (run e : Nat) : SyncMode × Nat :=
  match mode with
  | .acquire => if e ≤ 100 then (.track, if e ≤ 30 then 1 else 0) else (.acquire, run)
  | .track =>
    if 200 < e then (.acquire, run)
    else if e ≤ 30 then (if 8 ≤ run + 1 then (.locked, 8) else (.track, run + 1))
    else (.track, 0)
  | .locked => (.track, 0)
  | .none => (.acquire, run)

/-- SYNC_TIMEOUT (R95): the records. -/
def syncTimedOut (c : Cpl) : Cpl := { c with coupling := .opened, sync := .none, retryDelay := 500 }

/-- SYNCING at the start of step 8 (R94 to R97). -/
def stepSyncing (s : State) : State :=
  let c := s.cpl
  if decouple s c then s.withCpl { c with coupling := .opened, sync := .none }
  else
    let timer := min (c.syncTimer + 1) 200
    let e := s.speedError.natAbs
    if c.sync = .locked ∧ e ≤ 60 then
      s.withCpl (rampClosed (closingStep s.dsv.limits.clutchFill)
        { c with syncTimer := timer, speedRequest := trackRequest s })
    else
      let m := moveSync c.sync c.lockRun e
      let req := if m.1 = .acquire then acquireRequest s else trackRequest s
      let c1 : Cpl := { c with syncTimer := timer, sync := m.1, lockRun := m.2, speedRequest := req }
      if timer = 200 ∧ m.1 ≠ .locked then
        logNow .syncTimeout none (some (e : Int)) (momentaryFault .syncTimeout (s.withCpl (syncTimedOut c1)))
      else s.withCpl c1

/-- CLOSING at the start of step 8 (R97, R98). n_req is formed in each frame that takes the ramp. In the frame that leaves
CLOSING for OPENING, by the speed lost or a reason to decouple, it keeps its value: R97 says only "During CLOSING", and this is
the model's choice (log 36). -/
def stepClosing (s : State) : State :=
  let c := s.cpl
  if 200 < s.speedError.natAbs then s.withCpl { rampOpen c with retryDelay := 500 }
  else if decouple s c then s.withCpl (rampOpen c)
  else
    s.withCpl (rampClosed (closingStep s.dsv.limits.clutchFill) { c with speedRequest := trackRequest s })

/-- Step 8 (R93 to R99). -/
def moveCoupling (s : State) : State :=
  match s.cpl.coupling with
  | .opened =>
    if couplingWanted s s.cpl then
      s.withCpl { s.cpl with
        coupling := .syncing, sync := .acquire, syncTimer := 0, lockRun := 0, speedRequest := acquireRequest s }
    else s
  | .syncing => stepSyncing s
  | .closing => stepClosing s
  | .coupled => if decouple s s.cpl then s.withCpl (rampOpen s.cpl) else s
  | .opening => s.withCpl (rampOpen s.cpl)

/-! ## Step 9: the engine state -/

/-- OFF at the start of step 9: a crank attempt begins (R87). -/
def stepOff (s : State) : State :=
  let c := s.cpl
  if c.wantOn && s.sns.engineLink.up && decide (c.failureWait = 0) && decide (c.stallBlock = 0) then
    wearIncrement false w4 (s.withCpl { c with engine := .cranking, crankTimer := 0 })
  else s

/-- CRANKING at the start of step 9 (R88, R89). -/
def stepCranking (s : State) : State :=
  let c : Cpl := { s.cpl with crankTimer := min (s.cpl.crankTimer + 1) 150 }
  if !c.wantOn || !s.sns.engineLink.up then s.withCpl { c with engine := .off }
  else if 500 ≤ s.sns.engineSpeed then s.withCpl { c with engine := .running }
  else if c.crankTimer = 150 then
    (if c.crankCount + 1 < 3 then
      s.withCpl { c with engine := .off, crankCount := c.crankCount + 1, failureWait := 200 }
    else
      logNow .startFailed none (some 3)
        (raiseFault .engineStartFailed (s.withCpl { c with engine := .lockedOut, crankCount := 3 })))
  else s.withCpl c

/-- STOPPING at the start of step 9 (R92). -/
def stepStopping (s : State) : State :=
  let c : Cpl := { s.cpl with stopTimer := min (s.cpl.stopTimer + 1) 300 }
  if (s.sns.engineLink.up && !s.sns.engineRunning) || decide (c.stopTimer = 300) then s.withCpl { c with engine := .off }
  else s.withCpl c

/-- Step 9 (R87 to R89, R92). -/
def moveEngine (s : State) : State :=
  match s.cpl.engine with
  | .off => stepOff s
  | .cranking => stepCranking s
  | .running =>
    if s.cpl.wantOn = false ∧ s.cpl.coupling = .opened then s.withCpl { s.cpl with engine := .stopping, stopTimer := 0 }
    else s
  | .stopping => stepStopping s
  | .lockedOut => s

/-! ## Steps 10 and 11 -/

/-- The ENGINE_REQUEST of a frame: mode, torque, speed (R102, R25). -/
def engineRequestOf (s : State) : EngineMode × Nat × Nat :=
  match s.cpl.engine with
  | .off => (.stop, 0, 0)
  | .stopping => (.stop, 0, 0)
  | .lockedOut => (.stop, 0, 0)
  | .cranking => (.start, 0, 0)
  | .running =>
    match s.cpl.coupling with
    | .opened => (.idle, 0, 0)
    | .syncing => (.speed, 0, min s.cpl.speedRequest 3000)
    | .closing => (.speed, 0, min s.cpl.speedRequest 3000)
    | .coupled => (.torque, satField s.spl.engineRequest 1500, 0)
    | .opening => (.torque, 0, 0)

/-- Step 10: the request is handed to SNS, and its mode is the last engine mode (R102). -/
def sendEngineRequest (s : State) : State :=
  let r := engineRequestOf s
  send (.engineRequest r.1 r.2.1 r.2.2) (s.withCpl { s.cpl with lastMode := r.1 })

/-- One of the changes that ask for an ENGINE_CLUTCH publication (R104). -/
def clutchChanged (a b : Cpl) : Bool :=
  decide (a.engine ≠ b.engine) || decide (a.coupling ≠ b.coupling) || decide (a.sync ≠ b.sync) ||
    decide (a.crankCount ≠ b.crankCount)

/-- The publication request of R104, from CPL's records before. -/
def askClutchReport (before : Cpl) (s : State) : State := if clutchChanged before s.cpl then requestReport 6 s else s

/-- Steps 1 to 7 of the frame (R83). -/
def cplFrameWant (s : State) : State :=
  let s1 := stallTest (countSlip (s.withCpl (stepDelays s.cpl)))
  let s2 := s1.withCpl (formWant s1 (overspeedTest s1.shaftMagnitude s1.cpl))
  s2.withCpl { s2.cpl with frameEngineSpeed := s2.sns.engineSpeed, frameSpeedError := s2.speedError }

/-- The CPL frame (R83). -/
def cplFrame (s : State) : State :=
  askClutchReport s.cpl (sendEngineRequest (moveEngine (moveCoupling (cplFrameWant s))))

/-- CPL's second timer (R86). -/
def cplSecond (s : State) : State :=
  if s.cpl.engine = .running ∧ s.sns.roadSpeed < 10 ∧ s.dsv.limits.idleStop ≠ 255 then
    s.withCpl { s.cpl with countdown := s.cpl.countdown - 1 }
  else s

/-- A MODE take with key OFF (R90). -/
def cplKeyOff (s : State) : State :=
  let s1 := s.withCpl { s.cpl with crankCount := 0, failureWait := 0 }
  let s2 :=
    if s1.cpl.engine = .lockedOut then clearFault .engineStartFailed (s1.withCpl { s1.cpl with engine := .off }) else s1
  askClutchReport s.cpl s2

/-- CPL_FRAME (R83). -/
def execCplFrame (s : State) : Result := .next (whileRunning cplFrame s)

/-- CPL_SECOND_TIMER (R86). -/
def execCplSecondTimer (s : State) : Result := .next (whileRunning cplSecond s)

end Sys2Proof.Machine
end

