-- ==== Sys2Proof/Machine/Brake.lean ====
section
/-! DEFINITION. The blend frame (sections 6.2, 6.4, 6.5), and the output step, with which it may fall together (R115). The
arbiter's rules and the complement stand in Torque.lean. -/

namespace Sys2Proof.Machine

/-- BBL's records changed. -/
def State.withBbl (s : State) (b : Bbl) : State := { s with bbl := b }

/-! ## Step 2: friction energy (R116) -/

/-- Friction work added to A1's remainder, and its increment requests. -/
def countFriction1 (work : Nat) (s : State) : State :=
  wearIncrements w0 ((s.bbl.remainder1 + work) / 3600000)
    (s.withBbl { s.bbl with remainder1 := (s.bbl.remainder1 + work) % 3600000 })

/-- Friction work added to A2's remainder, and its increment requests. -/
def countFriction2 (work : Nat) (s : State) : State :=
  wearIncrements w1 ((s.bbl.remainder2 + work) / 3600000)
    (s.withBbl { s.bbl with remainder2 := (s.bbl.remainder2 + work) % 3600000 })

/-- Friction work added to A3's remainder, and its increment requests. -/
def countFriction3 (work : Nat) (s : State) : State :=
  wearIncrements w2 ((s.bbl.remainder3 + work) / 3600000)
    (s.withBbl { s.bbl with remainder3 := (s.bbl.remainder3 + work) % 3600000 })

/-- The friction energy of the interval just ended: A1, then A2, then A3; counted only with the brake link up (R116). -/
def countFriction (s : State) : State :=
  if s.brakeLinkUp then
    let v := s.sns.roadSpeed
    countFriction3 (s.bbl.friction3 * v)
      (countFriction2 (min s.bbl.force2 (1000 * s.dsv.limits.gain2) * v)
        (countFriction1 (min s.bbl.force1 (1000 * s.dsv.limits.gain1) * v) s))
  else s

/-! ## Step 3: brake force and axle shares (R107) -/

/-- F, F1, F2 and F3 of a brake deceleration. -/
def axleShares (d : DemandImage) (l : Limits) (b : Bbl) : Bbl :=
  let f := d.mass * d.brake / 100
  let f1 := f * l.phi1 / 1000
  let f2 := f * l.phi2 / 1000
  { b with aReq := d.brake, force := f, force1 := f1, force2 := f2, force3 := f - f1 - f2 }

/-! ## Step 4: slip supervision (R118 to R120, R122) -/

/-- λ is formed (R118). -/
def slipFormed (vRef : AxleSpeed) : Bool := vRef.valid && decide (50 ≤ vRef.speed)

/-- λ in ‰: 1000 with v3 INVALID, 0 while unformed (R118). -/
def slipRatio (vRef v3 : AxleSpeed) : Int :=
  if slipFormed vRef then
    (if v3.valid then clamp (((vRef.speed : Int) - v3.speed) * 1000 |>.tdiv vRef.speed) (-1000) 1000 else 1000)
  else 0

/-- λ recorded with its formed flag (R118). -/
def formSlip (s : State) (b : Bbl) : Bbl :=
  { b with slip := slipRatio s.sns.vRef s.sns.v3, slipFormed := slipFormed s.sns.vRef }

/-- The frame counts toward slip entry (R119). -/
def entryCounts (s : State) : Bool :=
  decide (s.spl.demand.direction = .forward) && decide (s.tqa.issued < 0) && s.bbl.slipFormed &&
    decide ((s.dsv.limits.slipLimit : Int) ≤ s.bbl.slip)

/-- The records at the start of a slip hold (R119, R120). -/
def holdStarted (b : Bbl) : Bbl := { b with slipHold := true, entryRun := 0, releaseRun := 0, ramp := none }

/-- Anti-lock starts a hold (R120). -/
def antiLock (s : State) : Bool :=
  decide (s.spl.demand.direction = .forward) && s.sns.brakeLink.up && s.sns.absActive

/-- The entry tests while the slip-hold flag is clear (R119, R120). -/
def slipEntry (s : State) : State :=
  if entryCounts s && decide (2 ≤ s.bbl.entryRun + 1) then
    wearIncrement false w8 (logNow .slipHold none (some s.bbl.slip) (s.withBbl (holdStarted s.bbl)))
  else if antiLock s then s.withBbl (holdStarted s.bbl)
  else s.withBbl { s.bbl with entryRun := if entryCounts s then s.bbl.entryRun + 1 else 0 }

/-- The frame counts toward release (R122). -/
def releaseCounts (s : State) : Bool :=
  (!s.sns.absActive || !s.sns.brakeLink.up) && (!s.bbl.slipFormed || decide (s.bbl.slip ≤ 30))

/-- The release test while the slip-hold flag is set (R122). At the end of the hold the return ramp starts at 0 (R123). -/
def slipRelease (s : State) (b : Bbl) : Bbl :=
  if releaseCounts s then
    (if 20 ≤ b.releaseRun + 1 then { b with slipHold := false, releaseRun := 0, ramp := some 0 }
    else { b with releaseRun := b.releaseRun + 1 })
  else { b with releaseRun := 0 }

/-- Step 4 (R118 to R122). -/
def superviseSlip (s : State) : State :=
  let s1 := s.withBbl (formSlip s s.bbl)
  if s1.bbl.slipHold then s1.withBbl (slipRelease s1 s1.bbl) else slipEntry s1

/-! ## Steps 5 to 8 -/

/-- The recovery permission (R108). -/
def permissionOf (s : State) : Bool :=
  decide (s.spl.demand.direction = .forward) && s.dsv.state.torqueFlows && s.brakeLinkUp && !s.sns.absActive &&
    !s.bbl.slipHold && s.sns.vRef.valid && s.sns.v3.valid

/-- The speed fade in ‰ (R109). -/
def fadeOf (n : Nat) : Nat := if 400 ≤ n then 1000 else if n ≤ 150 then 0 else (n - 150) * 1000 / 250

/-- The faded availability T_ra_u (R109). -/
def fadedAvailability (s : State) : Nat :=
  min (min s.dsv.limits.regenCeiling s.sns.generatorLimit) (tGenBatt s.ena.pChg s.shaftMagnitude) *
    fadeOf s.shaftMagnitude / 1000

/-- T_ra and the return ramp (R109, R123). `raised`: the ramp already ran at the start of the frame and was not started
anew in it, so its cap is raised by 10 first. -/
def applyRamp (raised : Bool) (tRaU : Nat) (b : Bbl) : Bbl :=
  match b.ramp with
  | none => { b with tRa := tRaU }
  | some cap =>
    let c := if raised then min (cap + 10) 2000 else cap
    if c < tRaU then { b with tRa := c, ramp := some c } else { b with tRa := tRaU, ramp := none }

/-- The regen force and request, and the recovery-active flag (R110). -/
def regenRequestOf (l : Limits) (b : Bbl) : Bbl :=
  let active := decide (0 < b.aReq) && b.permission
  let force := min b.force3 (b.tRa * l.ratio100 * 10 / l.wheelRadius)
  { b with
    recoveryActive := active, regenForce := if active then force else 0,
    regenRequest := if active then force * l.wheelRadius / (l.ratio100 * 10) else 0 }

/-- P1 and P2 (R111). -/
def axlePressures (l : Limits) (b : Bbl) : Bbl :=
  { b with p1 := min 1000 (ceilDiv b.force1 l.gain1), p2 := min 1000 (ceilDiv b.force2 l.gain2) }

/-- Steps 5 to 8 of the blend frame (R108 to R111). -/
def blendResults (raised : Bool) (s : State) : Bbl :=
  axlePressures s.dsv.limits
    (regenRequestOf s.dsv.limits
      (applyRamp raised (fadedAvailability s) { s.bbl with permission := permissionOf s }))

/-- The blend frame (R106). -/
def blendFrame (s : State) : State :=
  let s1 := countFriction s
  let s2 := s1.withBbl (axleShares s1.spl.demand s1.dsv.limits s1.bbl)
  let s3 := superviseSlip s2
  let ended := s.bbl.slipHold && !s3.bbl.slipHold
  s3.withBbl (blendResults (s.bbl.ramp.isSome && !ended) s3)

/-- BLEND_FRAME (R106). -/
def execBlendFrame (s : State) : Result := .next (whileRunning blendFrame s)

/-! ## The output step -/

/-- The output step (R75, R115): TQA fixes the torque from what was completed before; a blend frame that falls together with
the step and completes first gives the complement its new F3 and a_req, and BLEND_REQUEST its new P1, P2 and recovery-active
flag. That such a frame's own snapshot holds the issued torque and the F3_fric from before the step is the model's choice, and
so is that a frame which falls together with the step, the complement handled first, is a BLEND_FRAME after it and holds the new
ones (log 34). -/
def outputStep (blendFirst : Bool) (s : State) : State :=
  issueTorque (outputTorque s) (if blendFirst then blendFrame s else s)

/-- OUTPUT_STEP (R75). -/
def execOutputStep (s : State) (blendFirst : Bool := false) : Result := .next (whileRunning (outputStep blendFirst) s)

end Sys2Proof.Machine
end

