-- ==== Sys2Proof/Machine/Registers.lean ====
section
/-! DEFINITION. The register window (section 10.7, R186), the attention output and the other outputs. -/

namespace Sys2Proof.Machine

/-- A write to ATTN (R181, R186): each cause whose position is 1 is cleared. -/
def attnWrite (value : Word) (s : State) : State :=
  { s with port := s.port.setAttn (s.port.attn &&& ~~~(value.setWidth 8)) }

/-- A write to ATTN_EN (R181, R186): the low byte replaces the eight enables. -/
def attnEnWrite (value : Word) (s : State) : State := { s with port := { s.port with attnEn := value.setWidth 8 } }

/-- The four registers, by the byte offset of the access; an odd offset reaches the register of its word (R186). LOG_TAKE is read
from the ring records (R149, R151), also right after a reset that appended entries, where R149, R181 and table 10.7 say 0: that
this 0 is the one before those entries is the model's deduction (log 31). -/
def readRegister (s : State) (offset : Fin 8) : Word :=
  match offset.val / 2 with
  | 0 => 0x6141
  | 1 => s.port.attn.setWidth 16
  | 2 => s.port.attnEn.setWidth 16
  | _ => packBytes s.log.occupancy s.log.readPos

/-- The command that a register write is, by its byte offset (R186). -/
def registerWrite (offset : Fin 8) (value : Word) : Instr :=
  match offset.val / 2 with
  | 0 => .registerWriteIgnored value
  | 1 => .attnWrite value
  | 2 => .attnEnWrite value
  | _ => .logTakeWrite value

/-- The attention output is asserted (low): some cause is set and enabled; released while RESET is asserted and while the
main supply is absent (R182). -/
def attentionAsserted (s : State) : Bool := s.running && decide (s.port.attn &&& s.port.attnEn ≠ 0)

/-- The contactor drivers KNEG, KPRE, KPOS close their contactors: never without main power (R2, R18). -/
def contactorOutputs (s : State) : Bool × Bool × Bool :=
  (s.supply.main && s.dsv.negClosed, s.supply.main && s.dsv.preClosed, s.supply.main && s.dsv.posClosed)

/-- The CLUT output: the position command, or unpowered (R101, R18). -/
def clutchOutput (s : State) : Option Nat := if s.supply.main then some s.cpl.position else none

/-- ATTN_WRITE (R181). -/
def execAttnWrite (value : Word) (s : State) : Result := .next (whileRunning (attnWrite value) s)

/-- ATTN_EN_WRITE (R181). -/
def execAttnEnWrite (value : Word) (s : State) : Result := .next (whileRunning (attnEnWrite value) s)

/-- LOG_TAKE_WRITE (R149): whatever the value (R186). -/
def execLogTakeWrite (_value : Word) (s : State) : Result := .next (whileRunning logTake s)

/-- REGISTER_WRITE_IGNORED: a write to ID is discarded (R181, R186). The words that the vehicle controller wrote into the
exchange RAM before it stand there (R164, log 3). -/
def execRegisterWriteIgnored (_value : Word) (s : State) (writes : List VcWrite := []) : Result :=
  .next (vcWritesPowered writes s)

end Sys2Proof.Machine
end

