-- ==== Sys2Proof/Machine/Orders.lean ====
section
/-! DEFINITION. The owners' content checks of the eight orders and the effects of a take on the owner's records (R171). -/

namespace Sys2Proof.Machine

/-- An owner's answer to an order that passed the common checks (R171). -/
inductive Answer where
  | refused (code : OutcomeCode)
  | taken (flags : DetailFlags) (s : State)
deriving DecidableEq, Repr

/-- CLAMPED alone, or no flag. -/
def clampedFlag (b : Bool) : DetailFlags := { DetailFlags.none with clamped := b }

/-! ## DEMAND (R59 to R61) -/

/-- A direction opposite to the last moving one is held at a road speed of 10 or more (R60). -/
def directionHeld (s : State) (d : Direction) : Bool :=
  match d, s.spl.lastMoving with
  | .forward, .reverse => decide (10 ≤ s.sns.roadSpeed)
  | .reverse, .forward => decide (10 ≤ s.sns.roadSpeed)
  | .forward, .forward => false
  | .forward, .none => false
  | .reverse, .reverse => false
  | .reverse, .none => false
  | .neutral, _ => false

/-- The last moving direction after a direction was stored (R60). -/
def MovingDirection.afterStored (m : MovingDirection) : Direction → MovingDirection
  | .neutral => m
  | .forward => .forward
  | .reverse => .reverse

/-- The image of a DEMAND take (R59, R60). -/
def demandImageOf (p : List Word) (d : Direction) : DemandImage :=
  { accelerator := min (word p 0) 1000, brake := min (word p 1) 500, direction := d,
    doorsOpen := decide (word p 3 ≠ 0), mass := max 12000 (min (word p 4) 30000) }

/-- Some field of a DEMAND order is moved by its clamp (R59). -/
def demandClamped (p : List Word) : Bool :=
  decide (1000 < word p 0 ∨ 500 < word p 1 ∨ word p 4 < 12000 ∨ 30000 < word p 4)

/-- A DEMAND take: the image, the age, the sequence, the two clearing reports, then DSV's tests (R59 to R61, R1). -/
def takeDemand (p : List Word) (sequence : Word) (d : Direction) (s : State) : State :=
  let held := directionHeld s d
  let s1 := s.withSpl { s.spl with
    demand := demandImageOf p (if held then s.spl.demand.direction else d),
    lastMoving := if held then s.spl.lastMoving else s.spl.lastMoving.afterStored d,
    demandAge := 0, demandSequence := sequence }
  dsvSettle (clearFault .demandLost (clearFault .demandStale s1))

/-- SPL's answer to a DEMAND order (R59). -/
def checkDemand (p : List Word) (sequence : Word) (s : State) : Answer :=
  match Direction.ofWord (p.getD 2 0) with
  | none => .refused .range
  | some d =>
    .taken { clampedFlag (demandClamped p) with held := directionHeld s d } (takeDemand p sequence d s)

/-! ## MODE (R14, R15, R90, R157) -/

/-- S_t in the range of a LIMITS image (R14). -/
def clampTarget (l : Limits) (t : Nat) : Nat := max (l.sMin + 1000) (min t (l.sMax - 1000))

/-- A service field of 1 is held in a state other than STANDBY while service mode is off (R15). -/
def serviceHeld (s : State) (service : Bool) : Bool :=
  service && decide (s.dsv.state ≠ .standby) && !s.dsv.serviceMode

/-- The service-mode flag after a MODE take (R15). -/
def serviceAfter (s : State) (service : Bool) : Bool := service && !serviceHeld s service

/-- The service-mode flag set; the status block's word follows each change (R15, R180). -/
def setServiceMode (on : Bool) (s : State) : State :=
  if s.dsv.serviceMode = on then s else setStatus 6 (flagWord on) (s.withDsv { s.dsv with serviceMode := on })

/-- The MODE image replaced (R14); the service field of the image is the service mode as treated, and the acknowledge field
is not kept (log 20). -/
def setModeImage (key : Bool) (perm : Permission) (target : Nat) (service : Bool) (s : State) : State :=
  s.withDsv { s.dsv with
    mode := { keyOn := key, permission := perm, socTarget := target, service := service, acknowledge := false } }

/-- A MODE take: service and image, DSV on the key, CPL on a key OFF, then the acknowledgement (R14, R15, R90, R157). -/
def takeMode (key : Bool) (perm : Permission) (target : Nat) (service ack : Bool) (s : State) : State :=
  let on := serviceAfter s service
  let s1 := dsvKey (setModeImage key perm (clampTarget s.dsv.limits target) on (setServiceMode on s))
  let s2 := if key then s1 else cplKeyOff s1
  if ack then acknowledgeFaults s2 else s2

/-- DSV's answer to a MODE order (R14). -/
def checkMode (p : List Word) (s : State) : Answer :=
  match bitOfWord (p.getD 0 0), Permission.ofWord (p.getD 1 0), bitOfWord (p.getD 3 0), bitOfWord (p.getD 4 0) with
  | some key, some perm, some service, some ack =>
    .taken
      { clampedFlag (decide (clampTarget s.dsv.limits (word p 2) ≠ word p 2)) with held := serviceHeld s service }
      (takeMode key perm (word p 2) service ack s)
  | _, _, _, _ => .refused .range

/-! ## LIMITS (R16, R36, R44, R53) -/

/-- The 25 fields of a LIMITS payload (section 11.3). -/
def limitsOf (p : List Word) : Limits :=
  { motorCeiling := word p 0, regenCeiling := word p 1, tPeak := word p 2, pPeak := word p 3, torqueStep := word p 4,
    ratio100 := word p 5, wheelRadius := word p 6, wheelTeeth := word p 7, phi1 := word p 8, phi2 := word p 9,
    phi3 := word p 10, gain1 := word p 11, gain2 := word p 12, gain3 := word p 13, capacity := word p 14,
    sMin := word p 15, sMax := word p 16, kSoc := word p 17, idleStop := word p 18, clutchFill := word p 19,
    slipLimit := word p 20, maxRoadSpeed := word p 21, limpFraction := word p 22, packHot := word p 23,
    packAbsMax := word p 24 }

/-- Between two bounds, both included. -/
def within (lo x hi : Nat) : Bool := decide (lo ≤ x) && decide (x ≤ hi)

/-- Every field of a LIMITS image lies in its range, the shares sum to 1000, and S_max − S_min is at least 2000
(section 1.8, R16). -/
def Limits.inRange (l : Limits) : Bool :=
  within 100 l.motorCeiling 2000 && within 0 l.regenCeiling 2000 && within 100 l.tPeak 3500 && within 20 l.pPeak 400 &&
  within 5 l.torqueStep 200 && within 300 l.ratio100 1500 && within 400 l.wheelRadius 600 &&
  within 40 l.wheelTeeth 120 && within 0 l.phi1 1000 && within 0 l.phi2 1000 && within 0 l.phi3 1000 &&
  decide (l.phi1 + l.phi2 + l.phi3 = 1000) && within 5 l.gain1 100 && within 5 l.gain2 100 && within 5 l.gain3 100 &&
  within 100 l.capacity 2000 && within 500 l.sMin 4000 && within 6000 l.sMax 9800 && decide (l.sMin + 2000 ≤ l.sMax) &&
  within 0 l.kSoc 100 && within 0 l.idleStop 255 && within 100 l.clutchFill 600 && within 30 l.slipLimit 300 &&
  within 200 l.maxRoadSpeed 800 && within 100 l.limpFraction 1000 && within 30 l.packHot 70 &&
  within 40 l.packAbsMax 80

/-- ENA's comparison at a LIMITS take; none is made while the pack link is LOST (R53). -/
def overtempAtTake (s : State) : State := if s.sns.packLink.up then overtempTest s else s

/-- The S_t of the MODE image clamped into the new range (R14, R16). -/
def reclampTarget (s : State) : State :=
  s.withDsv { s.dsv with
    mode := { s.dsv.mode with socTarget := clampTarget s.dsv.limits s.dsv.mode.socTarget } }

/-- A LIMITS take, in the order of R16. -/
def takeLimits (l : Limits) (s : State) : State :=
  let s1 := overtempAtTake (s.withDsv { s.dsv with limits := l })
  let s2 := reclampTarget (clearFault .configMissing s1)
  recomputeWheelConstants (s2.withEna (rescale l.capacity s2.ena))

/-- DSV's answer to a LIMITS order (R16). -/
def checkLimits (p : List Word) (s : State) : Answer :=
  if s.dsv.state = .standby ∨ s.dsv.state = .ready then
    (if (limitsOf p).inRange then .taken DetailFlags.none (takeLimits (limitsOf p) s) else .refused .range)
  else .refused .state

/-! ## ACCEPTANCE (R50) -/

/-- Entry i of an ACCEPTANCE payload (R49). -/
def acceptanceEntryOf (p : List Word) (i : Nat) : AcceptanceEntry :=
  { discharge := word p (7 + 2 * i), charge := word p (8 + 2 * i) }

/-- The table of an ACCEPTANCE payload (section 11.3). -/
def acceptanceOf (p : List Word) : AcceptanceTable :=
  { tempEdges := #v[signedWord p 0, signedWord p 1, signedWord p 2, signedWord p 3],
    socEdges := #v[word p 4, word p 5, word p 6],
    entries := Vector.ofFn fun i => acceptanceEntryOf p i.val }

/-- The content check of R50. -/
def acceptanceInRange (p : List Word) : Bool :=
  decide (-40 ≤ signedWord p 0 ∧ signedWord p 0 < signedWord p 1 ∧ signedWord p 1 < signedWord p 2 ∧
    signedWord p 2 < signedWord p 3 ∧ signedWord p 3 ≤ 125) &&
  decide (word p 4 < word p 5 ∧ word p 5 < word p 6 ∧ word p 6 ≤ 10000) &&
  (List.range 40).all fun i => decide (word p (7 + i) ≤ 800)

/-- ENA's answer to an ACCEPTANCE order (R50). -/
def checkAcceptance (p : List Word) (s : State) : Answer :=
  if acceptanceInRange p then .taken DetailFlags.none (s.withEna { s.ena with table := acceptanceOf p })
  else .refused .range

/-! ## ENGINE_MAP (R73) -/

/-- The points of an ENGINE_MAP payload. -/
def mapOf (p : List Word) : List MapPoint :=
  (List.range (word p 0)).map fun i =>
    { speed := word p (1 + 3 * i), tOpt := word p (2 + 3 * i), tMax := word p (3 + 3 * i) }

/-- Speeds strictly ascending. -/
def speedsAscend : List MapPoint → Bool
  | [] => true
  | [_] => true
  | a :: b :: ps => decide (a.speed < b.speed) && speedsAscend (b :: ps)

/-- The RANGE check of R73; the count is tested before any point is read. -/
def mapInRange (p : List Word) : Bool :=
  within 2 (word p 0) 12 && speedsAscend (mapOf p) &&
    (mapOf p).all fun m => within 600 m.speed 2400 && decide (m.tOpt ≤ m.tMax) && decide (m.tMax ≤ 1500)

/-- SPL's answer to an ENGINE_MAP order (R73). -/
def checkEngineMap (p : List Word) (s : State) : Answer :=
  if s.cpl.coupling = .opened then
    (if mapInRange p then .taken DetailFlags.none (s.withSpl { s.spl with mapPoints := mapOf p, mapValid := true })
    else .refused .range)
  else .refused .state

/-! ## WEAR_SET (R133 to R137) -/

/-- The ten counters, ascending. -/
def allCounters : List Counter := [0, 1, 2, 3, 4, 5, 6, 7, 8, 9]

/-- The selected counters, ascending (R134). -/
def selectedCounters (p : List Word) : List Counter := allCounters.filter fun c => (p.getD 1 0).getLsbD c.val

/-- A counter's advise threshold in a SET_THRESHOLDS (section 11.3). -/
def adviseOf (p : List Word) (c : Counter) : Nat := wideWord p (2 + 4 * c.val)

/-- A counter's urgent threshold in a SET_THRESHOLDS. -/
def urgentOf (p : List Word) (c : Counter) : Nat := wideWord p (4 + 4 * c.val)

/-- A counter's value in a RESEED. -/
def reseedOf (p : List Word) (c : Counter) : Nat := wideWord p (2 + 2 * c.val)

/-- Both thresholds nonzero and the advise threshold above the urgent one (R133). -/
def thresholdsCross (p : List Word) (c : Counter) : Bool :=
  decide (adviseOf p c ≠ 0 ∧ urgentOf p c ≠ 0 ∧ urgentOf p c < adviseOf p c)

/-- One counter's treatment after another (R134). -/
def eachCounter (f : Counter → State → State) : List Counter → State → State
  | [], s => s
  | c :: cs, s => eachCounter f cs (f c s)

/-- WRM's answer to a WEAR_SET order (R133). -/
def checkWearSet (p : List Word) (s : State) : Answer :=
  match WearOp.ofWord (p.getD 0 0) with
  | none => .refused .range
  | some op =>
    if 1024 ≤ word p 1 then .refused .range
    else
      match op with
      | .setThresholds =>
        if (selectedCounters p).any (thresholdsCross p) then .refused .range
        else
          .taken DetailFlags.none
            (eachCounter (fun c t => setThresholds c (adviseOf p c) (urgentOf p c) t) (selectedCounters p) s)
      | .reseed =>
        if s.wear.windowOpen then
          .taken DetailFlags.none (eachCounter (fun c t => reseedCounter c (reseedOf p c) t) (selectedCounters p) s)
        else .refused .windowClosed
      | .clear =>
        if s.dsv.serviceMode then .taken DetailFlags.none (eachCounter clearCounter (selectedCounters p) s)
        else .refused .notInService

/-! ## COMPENSATION (R47, R48) -/

/-- The trims replaced (R48). -/
def setTrims (p : List Word) (s : State) : State :=
  s.withEna { s.ena with offset := signedWord p 0, gain := signedWord p 1 }

/-- The trims lie in their ranges (R47). -/
def trimsInRange (p : List Word) : Bool :=
  decide (-500 ≤ signedWord p 0 ∧ signedWord p 0 ≤ 500) && decide (-20000 ≤ signedWord p 1 ∧ signedWord p 1 ≤ 20000)

/-- ENA's answer to a COMPENSATION order (R47, R48). -/
def checkCompensation (p : List Word) (s : State) : Answer :=
  match bitOfWord (p.getD 2 0) with
  | none => .refused .range
  | some present =>
    if !trimsInRange p then .refused .range
    else if !present then .taken DetailFlags.none (setTrims p s)
    else if 10000 < word p 3 then .refused .range
    else if s.ena.restTimer < 30 then .refused .notAtRest
    else
      let s1 := setTrims p s
      .taken DetailFlags.none (clearFault .socUnknown (s1.withEna (rebase (word p 3) s1.ena)))

/-! ## LOG_FILTER (R145) -/

/-- WRM's answer to a LOG_FILTER order (R145). -/
def checkLogFilter (p : List Word) (s : State) : Answer :=
  match Severity.ofWord (p.getD 1 0) with
  | none => .refused .range
  | some m => .taken DetailFlags.none { s with log := { s.log with filter := { mask := p.getD 0 0, minimum := m } } }

/-! ## The owners -/

/-- The eight order channels (section 10.3). -/
inductive OrderChannel where
  | demand
  | mode
  | limits
  | acceptance
  | engineMap
  | wearSet
  | compensation
  | logFilter
deriving DecidableEq, Repr

/-- The channel's number (section 10.3). -/
def OrderChannel.number : OrderChannel → Fin 8
  | .demand => 0
  | .mode => 1
  | .limits => 2
  | .acceptance => 3
  | .engineMap => 4
  | .wearSet => 5
  | .compensation => 6
  | .logFilter => 7

/-- The channels in ascending order. -/
def OrderChannel.all : List OrderChannel :=
  [.demand, .mode, .limits, .acceptance, .engineMap, .wearSet, .compensation, .logFilter]

/-- The channel's class is long (section 10.3). -/
def OrderChannel.long : OrderChannel → Bool
  | .demand => false
  | .mode => false
  | .limits => true
  | .acceptance => true
  | .engineMap => true
  | .wearSet => true
  | .compensation => false
  | .logFilter => false

/-- The channel's fixed length; `count` is the payload's word 0 as written (section 10.3, R170). -/
def OrderChannel.fixedLength (count : Nat) : OrderChannel → Nat
  | .demand => 5
  | .mode => 5
  | .limits => 25
  | .acceptance => 47
  | .engineMap => 1 + 3 * count
  | .wearSet => 42
  | .compensation => 4
  | .logFilter => 2

/-- The order handed to the block that owns the channel (R171). -/
def OrderChannel.answer (c : OrderChannel) (p : List Word) (sequence : Word) (s : State) : Answer :=
  match c with
  | .demand => checkDemand p sequence s
  | .mode => checkMode p s
  | .limits => checkLimits p s
  | .acceptance => checkAcceptance p s
  | .engineMap => checkEngineMap p s
  | .wearSet => checkWearSet p s
  | .compensation => checkCompensation p s
  | .logFilter => checkLogFilter p s

end Sys2Proof.Machine
end

