-- ==== Sys2Proof/Machine/Exchange.lean ====
section
/-! DEFINITION. The intake sweep (sections 10.2 to 10.4, R179): the common checks, the take, the refusal, hold release and
rewrites. -/

namespace Sys2Proof.Machine

/-! ## Cells and the internal channel table -/

/-- The cell a directory word names: none above 95 (R170, R179). -/
def cellOf (v : Word) : Option CellIndex := if h : v.toNat < 96 then some ⟨v.toNat, h⟩ else none

/-- The internal channel table names the cell (R168, R170, R177). -/
def Exc.names (e : Exc) (k : CellIndex) : Bool :=
  (e.orders.toList.any fun r => decide (r.current = some k)) ||
  (e.reports.toList.any fun r => decide (r.published = some k) || decide (r.held = some k))

/-- The data offset of a cell, as its header reads (R165). -/
def Port.offsetOf (p : Port) (k : CellIndex) : Nat := (p.wordAt (headerAddr k 4)).toNat

/-- A cell's outcome code changed with its state, in a state. -/
def setCell (k : CellIndex) (state outcome : Nat) (s : State) : State :=
  { s with port := s.port.setCell k state outcome }

/-- A cell's state changed, its outcome code left, in a state (log 21). -/
def setCellState (k : CellIndex) (state : Nat) (s : State) : State := { s with port := s.port.setCellState k state }

/-- A word of the exchange RAM written by the part, in a state (R164). -/
def setRamWord (a : Nat) (w : Word) (s : State) : State := { s with port := s.port.setWord a w }

/-- The words written at one moment of the turn of a channel (log 4). -/
def lateAt (late : List LateWrite) (channel : Nat) (m : Moment) : List VcWrite :=
  (late.filter fun l => decide (l.channel = channel ∧ l.moment = m)).map fun l => l.write

/-- The words written in the turn of a channel in which the part reads and writes nothing, in the order of the moments. -/
def lateAll (late : List LateWrite) (channel : Nat) (s : State) : State :=
  vcWrites (lateAt late channel .end_) (vcWrites (lateAt late channel .mid) (vcWrites (lateAt late channel .early) s))

/-! ## The common checks (R170) -/

/-- The header of a cell as EXC reads it, whole, at the start of an examination (R165, R170). -/
structure CellHeader where
  channel : Word
  state : Nat
  sequence : Word
  length : Nat
  offset : Nat
deriving DecidableEq, Repr

/-- The header of a cell. -/
def Port.header (p : Port) (k : CellIndex) : CellHeader :=
  { channel := p.wordAt (headerAddr k 0), state := p.cellState k, sequence := p.wordAt (headerAddr k 2),
    length := (p.wordAt (headerAddr k 3)).toNat, offset := p.offsetOf k }

/-- What a check answers. -/
inductive CommonCheck where
  | refused (code : OutcomeCode) (flags : DetailFlags)
  | passed (flags : DetailFlags) (length : Nat)
deriving DecidableEq, Repr

/-- The fifth check: the length, against the channel's fixed length (R170). `flags`: what the fourth check added. -/
def lengthCheck (fixed length : Nat) (flags : DetailFlags) : CommonCheck :=
  if length < fixed then .refused .short flags
  else .passed { flags with length := decide (fixed < length) } (min fixed 64)

/-- The channel's number as a word. -/
def OrderChannel.word (c : OrderChannel) : Word := BitVec.ofNat 16 c.number.val

/-- The header's channel field differs from the channel (R170). -/
def channelDiffers (c : OrderChannel) (h : CellHeader) : Bool := decide (h.channel ≠ c.word)

/-- The first three checks: BAD_CELL, NOT_FILLED, CLASS (R170). -/
def firstRefusal (c : OrderChannel) (k : CellIndex) (h : CellHeader) (e : Exc) : Option OutcomeCode :=
  if !blockInside k h.offset || e.names k then some .badCell
  else if h.state ≠ cellFilled then some .notFilled
  else if isLong k ≠ c.long then some .cellClass
  else none

/-- The fourth check's rewrite of the header's channel field (R170). -/
def rewriteChannel (c : OrderChannel) (k : CellIndex) (s : State) : State :=
  if channelDiffers c (s.port.header k) then setRamWord (headerAddr k 0) c.word s else s

/-! ## Take and refusal (R172, R173) -/

/-- The row of an order channel replaced. -/
def setOrderRow (c : OrderChannel) (r : OrderRow) (s : State) : State :=
  { s with exc := { s.exc with orders := putAt s.exc.orders c.number r } }

/-- The row of an order channel. -/
def State.orderRow (s : State) (c : OrderChannel) : OrderRow := s.exc.orders.get c.number

/-- The previous current cell becomes RETURNED, its outcome code and stamp left (R172). -/
def returnPrevious (prev : Option CellIndex) (s : State) : State :=
  match prev with
  | none => s
  | some k => setCellState k cellReturned s

/-- EXC's part of a take (R172). -/
def takeCell (c : OrderChannel) (k : CellIndex) (code : OutcomeCode) (s : State) : State :=
  let prev := (s.orderRow c).current
  let s1 := setRamWord (headerAddr k 5) s.exc.frameNumber (setCell k cellTaken code.code s)
  let s2 := setOrderRow c { s1.orderRow c with current := some k, takeCount := (s1.orderRow c).takeCount + 1 } s1
  let s3 := returnPrevious prev (setRamWord (dirAddr c.number 0) (indexWord (some k)) s2)
  setRamWord (dirAddr c.number 2) (s3.orderRow c).takeCount s3

/-- The header of a refused order: RETURNED with the code, where the cell was FILLED when the header was read and the table
does not name it (R173). -/
def refuseCell (k : CellIndex) (h : CellHeader) (code : OutcomeCode) (s : State) : State :=
  if h.state = cellFilled ∧ s.exc.names k = false then setCell k cellReturned code.code s else s

/-- The last outcome as directory word 3 (section 11.2). -/
def outcomeWord (code : OutcomeCode) (flags : DetailFlags) : Word := BitVec.ofNat 16 (code.code + 256 * flags.nibble)

/-- An examination writes the channel's ORDER_RESULT entry, except a DEMAND or MODE take that is ACCEPTED (R174). -/
def entryWritten (c : OrderChannel) (code : OutcomeCode) : Bool :=
  match c with
  | .demand => decide (code ≠ .accepted)
  | .mode => decide (code ≠ .accepted)
  | .limits | .acceptance | .engineMap | .wearSet | .compensation | .logFilter => true

/-- The outcome of an examination recorded (R173, R174). `cell`: the index as named, 255 above 95. -/
def recordOutcome (c : OrderChannel) (cell : Nat) (sequence : Word) (code : OutcomeCode) (flags : DetailFlags) (s : State) :
    State :=
  let r := s.orderRow c
  setRamWord (dirAddr c.number 3) (outcomeWord code flags)
    (setOrderRow c
      { r with
        lastCode := code, lastFlags := flags,
        result :=
          if entryWritten c code then { cell := cell, sequence := sequence, code := code, flags := flags } else r.result }
      s)

/-- ACCEPTED without a flag, ADJUSTED with one (R172). -/
def takenCode (flags : DetailFlags) : OutcomeCode := if flags.any then .adjusted else .accepted

/-- An order refused by a common check or by its owner: header and outcome (R173, R174). -/
def refuseOrder (c : OrderChannel) (k : CellIndex) (h : CellHeader) (code : OutcomeCode) (flags : DetailFlags) (s : State) :
    State × Bool :=
  (recordOutcome c k.val h.sequence code flags (refuseCell k h code s), true)

/-- The order handed to its owner with the payload words of its fixed length, each read once (R171), and what follows. -/
def handToOwner (c : OrderChannel) (k : CellIndex) (h : CellHeader) (flags : DetailFlags) (length : Nat) (s : State) :
    State × Bool :=
  match c.answer (s.port.wordsAt (dataAddr h.offset) length) h.sequence s with
  | .refused code => refuseOrder c k h code flags s
  | .taken added s1 =>
    let all := flags.join added
    (recordOutcome c k.val h.sequence (takenCode all) all (takeCell c k (takenCode all) s1), entryWritten c (takenCode all))

/-- The fixed length of an order, from the payload's word 0 where it needs it (R170). -/
def fixedLengthAt (c : OrderChannel) (h : CellHeader) (p : Port) : Nat :=
  c.fixedLength (p.wordAt (dataAddr h.offset)).toNat

/-- The examination of a cell whose header was read (R170 to R174). `mid`: the words the vehicle controller writes between
header and payload (log 4). -/
def examineCell (mid : List VcWrite) (c : OrderChannel) (k : CellIndex) (s : State) : State × Bool :=
  let h := s.port.header k
  match firstRefusal c k h s.exc with
  | some code => refuseOrder c k h code DetailFlags.none (vcWrites mid s)
  | none =>
    let s1 := vcWrites mid (rewriteChannel c k s)
    match lengthCheck (fixedLengthAt c h s1.port) h.length { DetailFlags.none with channel := channelDiffers c h } with
    | .refused code flags => refuseOrder c k h code flags s1
    | .passed flags length => handToOwner c k h flags length s1

/-- The examination of the order a pending word names (R170 to R174): the state after, and whether an ORDER_RESULT entry was
written. -/
def examine (mid : List VcWrite) (c : OrderChannel) (pending : Word) (s : State) : State × Bool :=
  match cellOf pending with
  | none => (recordOutcome c 255 0 .badCell DetailFlags.none (vcWrites mid s), true)
  | some k => examineCell mid c k s

/-! ## The sweep (R169) -/

/-- The pending word cleared, only if it still holds the value read (R169). -/
def clearPending (c : OrderChannel) (read : Word) (s : State) : State :=
  if s.port.wordAt (dirAddr c.number 1) = read then setRamWord (dirAddr c.number 1) 0xFFFF s else s

/-- The turn of one order channel: the examination of a pending order, the clearing of the pending word, and the words the
vehicle controller writes meanwhile (R169; log 4). -/
def orderTurn (late : List LateWrite) (c : OrderChannel) (t : State × Bool) : State × Bool :=
  let pending := t.1.port.wordAt (dirAddr c.number 1)
  if pending = 0xFFFF then (lateAll late c.number t.1, t.2)
  else
    let r := examine (lateAt late c.number .mid) c pending (vcWrites (lateAt late c.number .early) t.1)
    (clearPending c pending (vcWrites (lateAt late c.number .end_) r.1), t.2 || r.2)

/-- Step 1 of the sweep, for some channels in order. -/
def orderTurns (late : List LateWrite) : List OrderChannel → State × Bool → State × Bool
  | [], t => t
  | c :: cs, t => orderTurns late cs (orderTurn late c t)

/-- The rows of the eight report channels. -/
def allReportRows : List (Fin 8) := [0, 1, 2, 3, 4, 5, 6, 7]

/-- The row of report channel 8 + i replaced. -/
def setReportRow (i : Fin 8) (r : ReportRow) (s : State) : State :=
  { s with exc := { s.exc with reports := putAt s.exc.reports i r } }

/-- The row of report channel 8 + i. -/
def State.reportRow (s : State) (i : Fin 8) : ReportRow := s.exc.reports.get i

/-- The hold word of report channel 8 + i names the cell (R167, R179). -/
def holdNames (p : Port) (i : Fin 8) (k : CellIndex) : Bool :=
  decide (p.wordAt (dirAddr (8 + i.val) 1) = indexWord (some k))

/-- Hold release for one report channel (R179). -/
def releaseHold (i : Fin 8) (s : State) : State :=
  match (s.reportRow i).held with
  | none => s
  | some k =>
    if holdNames s.port i k then s
    else setReportRow i { s.reportRow i with held := none } (setCellState k cellSpare s)

/-- Hold release for some report channels in order. -/
def releaseHolds : List (Fin 8) → State → State
  | [], s => s
  | i :: is, s => releaseHolds is (releaseHold i s)

/-- The part-owned words of an order channel's directory entry rewritten (R167). -/
def Port.rewriteOrder (p : Port) (c : OrderChannel) (r : OrderRow) : Port :=
  ((p.setWord (dirAddr c.number 0) (indexWord r.current)).setWord (dirAddr c.number 2) r.takeCount).setWord
    (dirAddr c.number 3) (outcomeWord r.lastCode r.lastFlags)

/-- The part-owned words of a report channel's directory entry rewritten (R167). -/
def Port.rewriteReport (p : Port) (i : Fin 8) (r : ReportRow) : Port :=
  (p.setWord (dirAddr (8 + i.val) 0) (indexWord r.published)).setWord (dirAddr (8 + i.val) 3) (natWord r.skips)

/-- The part-owned directory words rewritten from the internal channel table (R167). -/
def Port.rewriteDirectory (p : Port) (e : Exc) : Port :=
  allReportRows.foldl (fun q i => q.rewriteReport i (e.reports.get i))
    (OrderChannel.all.foldl (fun q c => q.rewriteOrder c (e.orders.get c.number)) p)

/-- The words of the status block (section 11.2): the twelve items, and 0. -/
def statusWords (s : State) : List Word :=
  [natWord s.dsv.resetCause.code, natWord s.dsv.state.code, s.exc.frameNumber, s.exc.sweepCount,
    flagWord s.dsv.keepStoreValid, flagWord s.wear.windowOpen, flagWord s.dsv.serviceMode, natWord s.log.readPos,
    natWord s.log.writePos, natWord s.log.occupancy, natWord s.log.drops, s.port.attn.setWidth 16] ++
  List.replicate 52 0

/-- The whole status block rewritten (R180). -/
def rewriteStatus (s : State) : State := { s with port := s.port.setWords (statusAddr 0) (statusWords s) }

/-- Step 3 of the sweep (R169). -/
def rewrites (s : State) : State := rewriteStatus { s with port := s.port.rewriteDirectory s.exc }

/-- Step 4 of the sweep; the status block's word follows the count (R169, R180; log 22). -/
def countSweep (s : State) : State :=
  setStatus 3 (s.exc.sweepCount + 1) { s with exc := { s.exc with sweepCount := s.exc.sweepCount + 1 } }

/-- The publication request at the end of a sweep that wrote an entry (R174). -/
def askOrderResult (written : Bool) (s : State) : State := if written then requestReport 5 s else s

/-- The intake sweep (R169). -/
def intakeSweep (late : List LateWrite) (s : State) : State :=
  let t := orderTurns late OrderChannel.all (s, false)
  askOrderResult t.2 (countSweep (rewrites (releaseHolds allReportRows t.1)))

/-- INTAKE_SWEEP (R169). Where the sweep does not run, its late writes are writes like the others (log 10). -/
def execIntakeSweep (writes : List VcWrite) (late : List LateWrite) (s : State) : Result :=
  let s1 := vcWritesPowered writes s
  .next (if s.running then intakeSweep late s1 else vcWritesPowered (late.map fun l => l.write) s1)

end Sys2Proof.Machine
end

