-- ==== Sys2Proof/Machine/Reports.lean ====
section
/-! DEFINITION. The report frame (section 10.5): which channels are due, the choice of a cell, the filling, and the eight report
payloads (section 11.4). -/

namespace Sys2Proof.Machine

/-! ## Channels -/

/-- The eight report channels (section 10.3). -/
inductive ReportChannel where
  | driveState
  | brakeState
  | energy
  | wear
  | faults
  | orderResult
  | engineClutch
  | sensing
deriving DecidableEq, Repr

/-- The row of a channel: its number less 8. -/
def ReportChannel.row : ReportChannel → Fin 8
  | .driveState => 0
  | .brakeState => 1
  | .energy => 2
  | .wear => 3
  | .faults => 4
  | .orderResult => 5
  | .engineClutch => 6
  | .sensing => 7

/-- The number of a channel, 8 to 15 (section 10.3). -/
def ReportChannel.number (c : ReportChannel) : Nat := 8 + c.row.val

/-- The channels in ascending order. -/
def ReportChannel.all : List ReportChannel :=
  [.driveState, .brakeState, .energy, .wear, .faults, .orderResult, .engineClutch, .sensing]

/-- The channel's class is long (section 10.3). -/
def ReportChannel.long : ReportChannel → Bool
  | .driveState => true
  | .brakeState => false
  | .energy => false
  | .wear => true
  | .faults => false
  | .orderResult => false
  | .engineClutch => false
  | .sensing => false

/-! ## Payloads (section 11.4) -/

/-- The kind of the stop cause, 0xFFFF unless the cause is FAULT (R185). -/
def stopKindWord : StopCause → Word
  | .none => 0xFFFF
  | .keyOff => 0xFFFF
  | .fault k => natWord k.number.val

/-- DRIVE_STATE (R72, R81, R104). -/
def driveStateWords (s : State) : List Word :=
  [s.exc.frameNumber, natWord s.dsv.state.code, natWord s.spl.mode.code, intWord s.spl.tDem,
    intWord s.spl.propulsionRequest, intWord s.tqa.issued, natWord s.tqa.stepMode.code, intWord s.spl.engineRequest,
    natWord s.spl.tMotAvail, natWord s.spl.tGenAvail, natWord s.spl.shortfall, natWord s.spl.frameN,
    natWord s.spl.frameRoadSpeed, natWord s.spl.frameSoc, natWord s.spl.framePDis, natWord s.spl.framePChg,
    natWord s.spl.demandAge, s.spl.demandSequence, natWord s.cpl.coupling.code, natWord s.cpl.engine.code,
    flagWord (decide (s.dsv.state = .limp)), natWord s.faults.highest.rank, natWord s.dsv.stopCause.code,
    stopKindWord s.dsv.stopCause]

/-- BRAKE_STATE (R125, R185). -/
def brakeStateWords (s : State) : List Word :=
  [natWord s.bbl.aReq, natWord (s.bbl.force / 10), natWord (s.bbl.force3 / 10), natWord (s.bbl.regenForce / 10),
    natWord s.bbl.regenRequest, intWord s.bbl.complementTorque, natWord s.bbl.p1, natWord s.bbl.p2, natWord s.bbl.p3,
    flagWord s.bbl.permission, flagWord s.bbl.slipHold, intWord (if s.bbl.slipFormed then s.bbl.slip else 0),
    match s.bbl.ramp with
    | none => 65535
    | some cap => natWord cap,
    flagWord s.sns.absActive]

/-- ENERGY (R57). -/
def energyWords (s : State) : List Word :=
  [natWord s.ena.soc, flagWord s.ena.socValid, intWord s.ena.current, natWord s.ena.voltage, natWord s.ena.pDis,
    natWord s.ena.pChg, natWord s.ena.iDis, natWord s.ena.iChg, natWord s.ena.restTimer, natWord s.ena.unaccounted] ++
  wideWords s.ena.recoveredEnergy ++ wideWords s.ena.spentEnergy ++ [intWord s.ena.maxTemp, intWord s.ena.minTemp]

/-- The warned-level word of a counter (section 11.4). -/
def levelWord (r : WearRecord) : Word := packBytes r.warned.code (if r.thresholdsSet then 1 else 0)

/-- WEAR (R141). -/
def wearWords (s : State) : List Word :=
  (allCounters.flatMap fun c => wideWords (s.counter c).value) ++ (allCounters.map fun c => levelWord (s.counter c)) ++
  wideWords s.sns.odometer ++ wideWords s.dsv.operatingSeconds

/-- A set of kinds: bit k for kind k (R183). -/
def kindSet (holds : FaultKind → Bool) : Word :=
  FaultKind.all.foldl (fun w k => if holds k then w ||| (1 <<< k.number.val) else w) 0

/-- The pair after one step of the cursor's walk, of at most n more steps, that has a count above 0 (R162). -/
def cursorWalk (t : FaultTable) : Nat → Fin 28 → Fin 28
  | 0, p => p
  | n + 1, p =>
    let q := p + 1
    if 0 < (t.records.get ⟨q.val / 2, by omega⟩).count then q else cursorWalk t n q

/-- The detail cursor moved (R162). -/
def FaultTable.advance (t : FaultTable) : FaultTable := { t with cursor := cursorWalk t 28 t.cursor }

/-- The detail stamp the cursor names (R161, R162). -/
def FaultTable.detailStamp (t : FaultTable) : Option Nat :=
  let r := t.records.get ⟨t.cursor.val / 2, by omega⟩
  if t.cursor.val % 2 = 0 then r.first else r.last

/-- The occurrence count of a kind by its number, as a byte. -/
def FaultTable.countAt (t : FaultTable) (k : Fin 14) : Nat := (t.records.get k).count

/-- FAULTS (R161), with the cursor where it stands. -/
def faultsWords (t : FaultTable) : List Word :=
  [packBytes t.highest.rank ((FaultKind.all.filter t.isActive).length), kindSet t.isActive,
    kindSet fun k => decide ((t.record k).state = .latched),
    packBytes (t.countAt 0) (t.countAt 1), packBytes (t.countAt 2) (t.countAt 3), packBytes (t.countAt 4) (t.countAt 5),
    packBytes (t.countAt 6) (t.countAt 7), packBytes (t.countAt 8) (t.countAt 9), packBytes (t.countAt 10) (t.countAt 11),
    packBytes (t.countAt 12) (t.countAt 13), packBytes (t.cursor.val / 2) (t.cursor.val % 2)] ++
  (match t.detailStamp with
  | none => absentWide
  | some x => wideWords x)

/-- The two words of an ORDER_RESULT entry (R174, section 11.4). -/
def resultWords (r : ResultEntry) : List Word :=
  [BitVec.ofNat 16 (min r.cell 255 + 256 * r.code.code + 4096 * r.flags.nibble), r.sequence]

/-- ORDER_RESULT (R174). -/
def orderResultWords (e : Exc) : List Word := OrderChannel.all.flatMap fun c => resultWords (e.orders.get c.number).result

/-- ENGINE_CLUTCH (R104); a sync sub-mode outside SYNCING is written as none (R185). -/
def engineClutchWords (s : State) : List Word :=
  [natWord s.cpl.engine.code, natWord s.cpl.coupling.code,
    natWord (if s.cpl.coupling = .syncing then s.cpl.sync.code else 0), natWord s.cpl.frameEngineSpeed,
    natWord s.cpl.speedRequest, intWord s.cpl.frameSpeedError, natWord s.cpl.position, natWord s.cpl.crankCount,
    natWord s.cpl.countdown, natWord s.cpl.retryDelay, natWord s.cpl.lastMode.code,
    flagWord (decide (s.cpl.engine = .lockedOut))]

/-- Bit i of a packed word. -/
def bitAt (b : Bool) (i : Nat) : Word := if b then 1 <<< i else 0

/-- State and seen flag of link j (section 11.4). -/
def linkBits (l : Link) (j : Nat) : Word := bitAt l.up (2 * j) ||| bitAt l.seen (2 * j + 1)

/-- The first of the two link states words (section 11.4). -/
def linkStatesWord (n : Sns) : Word :=
  linkBits n.driveLink 0 ||| linkBits n.engineLink 1 ||| linkBits n.brakeLink 2 ||| linkBits n.packLink 3 |||
  bitAt n.brakeAvailable 8 ||| bitAt n.absActive 9

/-- Validity and sensor-fault flag of wheel w (section 11.4). -/
def wheelBits (n : Sns) (w : Fin 6) : Word := bitAt (n.wheel w).valid w.val ||| bitAt (n.wheel w).sensorFault (8 + w.val)

/-- The second of the two link states words (section 11.4). -/
def wheelStatesWord (n : Sns) : Word :=
  wheelBits n 0 ||| wheelBits n 1 ||| wheelBits n 2 ||| wheelBits n 3 ||| wheelBits n 4 ||| wheelBits n 5

/-- A wheel speed; 0 while INVALID (R37). -/
def wheelWord (n : Sns) (w : Fin 6) : Word := natWord (if (n.wheel w).valid then (n.wheel w).speed else 0)

/-- SENSING (R37). -/
def sensingWords (n : Sns) : List Word :=
  [wheelWord n 0, wheelWord n 1, wheelWord n 2, wheelWord n 3, wheelWord n 4, wheelWord n 5,
    natWord (if n.vRef.valid then n.vRef.speed else 0), natWord (if n.v3.valid then n.v3.speed else 0), linkStatesWord n,
    wheelStatesWord n, natWord n.roadSpeed] ++
  wideWords n.odometer ++ [n.packCount.setWidth 16]

/-- The payload of a channel (R178). -/
def ReportChannel.payload (c : ReportChannel) (s : State) : List Word :=
  match c with
  | .driveState => driveStateWords s
  | .brakeState => brakeStateWords s
  | .energy => energyWords s
  | .wear => wearWords s
  | .faults => faultsWords s.faults
  | .orderResult => orderResultWords s.exc
  | .engineClutch => engineClutchWords s
  | .sensing => sensingWords s.sns

/-! ## Which channels are due (R175) -/

/-- A frame filter matches (R175): the mask in its high byte, the value in its low byte (R167). -/
def filterMatches (filter frame : Word) : Bool := decide (frame &&& 0x00FF &&& (filter >>> 8) = filter &&& 0x00FF)

/-- The channel is due (R175). -/
def ReportChannel.due (c : ReportChannel) (s : State) : Bool :=
  (s.reportRow c.row).changePending ||
    (decide (c ≠ .orderResult) && filterMatches (s.port.wordAt (dirAddr c.number 2)) s.exc.frameNumber)

/-! ## The choice of a cell (R177) -/

/-- The cells of a class, ascending (R165). -/
def cellsOf (long : Bool) : List CellIndex := (List.finRange 96).filter fun k => isLong k == long

/-- A cell is a candidate for a channel (R177). -/
def candidate (c : ReportChannel) (p : Port) (e : Exc) (k : CellIndex) : Bool :=
  decide ((p.wordAt (headerAddr k 0)).toNat = c.number) && decide (p.cellState k = cellSpare) &&
    decide (isLong k = c.long) && !holdNames p c.row k && !e.names k

/-- The candidates in ascending index: those whose block lies outside the data area are set FREE with BAD_CELL and passed
over; the first other one is chosen (R177). -/
def choose (c : ReportChannel) (e : Exc) : List CellIndex → Port → Port × Option CellIndex
  | [], p => (p, none)
  | k :: ks, p =>
    if candidate c p e k then
      (if blockInside k (p.offsetOf k) then (p, some k)
      else choose c e ks (p.setCell k cellFree OutcomeCode.badCell.code))
    else choose c e ks p

/-! ## Skip and filling (R177, R178) -/

/-- The publication skipped (R177). -/
def skip (c : ReportChannel) (s : State) : State :=
  let n := min ((s.reportRow c.row).skips + 1) 65535
  setCause .reportSkipped
    (setRamWord (dirAddr c.number 3) (natWord n) (setReportRow c.row { s.reportRow c.row with skips := n } s))

/-- The outgoing decision (R178). -/
def outgoing (c : ReportChannel) (prev : Option CellIndex) (s : State) : State :=
  match prev with
  | none => s
  | some o =>
    if holdNames s.port c.row o then
      let s1 := setReportRow c.row { s.reportRow c.row with held := some o } (setCellState o cellHeld s)
      match (s.reportRow c.row).held with
      | none => s1
      | some h => setCellState h cellSpare s1
    else setCellState o cellSpare s

/-- The change-pending flag cleared at the start of the filling (R176). -/
def startFilling (c : ReportChannel) (s : State) : State :=
  setReportRow c.row { s.reportRow c.row with changePending := false } s

/-- The fault table's part of a FAULTS report: the cursor moves for each report written (R162). -/
def moveCursor (c : ReportChannel) (s : State) : State :=
  match c with
  | .faults => { s with faults := s.faults.advance }
  | .driveState | .brakeState | .energy | .wear | .orderResult | .engineClutch | .sensing => s

/-- Steps 1 and 2: FILLING with outcome 0, and the payload (R178). -/
def writePayload (c : ReportChannel) (k : CellIndex) (s : State) : State :=
  let s1 := setCell k cellFilling 0 s
  { s1 with port := s1.port.setWords (dataAddr (s1.port.offsetOf k)) (c.payload s1) }

/-- Steps 3 to 5: length, stamp, sequence, PUBLISHED, and the published cell (R178). -/
def writeHeader (c : ReportChannel) (k : CellIndex) (length : Nat) (s : State) : State :=
  let seq := (s.reportRow c.row).sequence + 1
  let s1 := setRamWord (headerAddr k 3) (natWord length) s
  let s2 := setRamWord (headerAddr k 2) seq (setRamWord (headerAddr k 5) s.exc.frameNumber s1)
  let s3 := setCell k cellPublished 0 (setReportRow c.row { s2.reportRow c.row with sequence := seq } s2)
  setRamWord (dirAddr c.number 0) (indexWord (some k))
    (setReportRow c.row { s3.reportRow c.row with published := some k } s3)

/-- Each ORDER_RESULT report written sets ATTN.ORDER_DONE (R174). -/
def orderDone (c : ReportChannel) (s : State) : State :=
  match c with
  | .orderResult => setCause .orderDone s
  | .driveState | .brakeState | .energy | .wear | .faults | .engineClutch | .sensing => s

/-- The filling of the chosen cell (R178), with the words the vehicle controller writes meanwhile (log 4). -/
def fill (late : List VcWrite) (c : ReportChannel) (k : CellIndex) (s : State) : State :=
  let prev := (s.reportRow c.row).published
  let s1 := moveCursor c (startFilling c s)
  let s2 := vcWrites late (writePayload c k s1)
  orderDone c (outgoing c prev (writeHeader c k (c.payload s1).length s2))

/-- The publication of a due channel (R177, R178). -/
def publish (late : List VcWrite) (c : ReportChannel) (s : State) : State :=
  let r := choose c s.exc (cellsOf c.long) s.port
  let s1 : State := { s with port := r.1 }
  match r.2 with
  | some k => fill late c k s1
  | none => vcWrites late (skip c s1)

/-- The turn of one report channel (R175), with the words the vehicle controller writes meanwhile (log 4). -/
def reportTurn (late : List LateWrite) (c : ReportChannel) (s : State) : State :=
  if c.due s then
    vcWrites (lateAt late c.number .end_)
      (publish (lateAt late c.number .mid) c (vcWrites (lateAt late c.number .early) s))
  else lateAll late c.number s

/-- The turns of some channels in order. -/
def reportTurns (late : List LateWrite) : List ReportChannel → State → State
  | [], s => s
  | c :: cs, s => reportTurns late cs (reportTurn late c s)

/-- The frame number counted and written into the status block (R175). -/
def countFrame (s : State) : State :=
  setStatus 2 (s.exc.frameNumber + 1) { s with exc := { s.exc with frameNumber := s.exc.frameNumber + 1 } }

/-- The report frame (R175). -/
def reportFrame (late : List LateWrite) (s : State) : State := reportTurns late ReportChannel.all (countFrame s)

/-- REPORT_FRAME (R175). Where the frame does not run, its late writes are writes like the others (log 10). -/
def execReportFrame (writes : List VcWrite) (late : List LateWrite) (s : State) : Result :=
  let s1 := vcWritesPowered writes s
  .next (if s.running then reportFrame late s1 else vcWritesPowered (late.map fun l => l.write) s1)

end Sys2Proof.Machine
end

