-- ==== Sys2Proof/Machine/Reset.lean ====
section
/-! DEFINITION. The supplies, RESET and the three kinds of reset (sections 1.11, 1.12, 7.5, 7.6). -/

namespace Sys2Proof.Machine

/-! ## The keep store (R18) -/

/-- The keep store initialised at a keep power-up (R19, section 7.5). -/
def initialiseRetained (s : State) : State :=
  { s with
    dsv := { s.dsv with posFlag := false, operatingSeconds := 0, keepStoreValid := false },
    sns := { s.sns with odometer := 0, odometerRemainder := 0 },
    ena := { s.ena with
      charge := Ena.reset.charge, capacity := Ena.reset.capacity, socValid := false, dischargeRemainder := 0,
      chargeRemainder := 0 },
    cpl := { s.cpl with slipRemainder := 0 },
    bbl := { s.bbl with remainder1 := 0, remainder2 := 0, remainder3 := 0 },
    wear := Wear.reset }

/-! ## What every reset establishes -/

/-- Directory, headers and status block are written at their reset contents, which is what unlisted addresses read as; log
slots and data area keep their bytes (R142, R164, R165, R167). -/
def Memory.establish (m : Memory) : Memory := m.filter fun c => decide (0x580 ≤ c.1)

/-- The records of every block at the end of a reset: the retained ones as they stand, the others at their reset values; the
fault table and the log emptied (R19 and the chapters' reset rules). -/
def establish (kind : ResetCause) (s : State) : State :=
  { supply := { s.supply with markerHolds := true, resetAsserted := false, heldPowerUp := none },
    dsv := { Dsv.reset with
      posFlag := s.dsv.posFlag, operatingSeconds := s.dsv.operatingSeconds, keepStoreValid := s.dsv.keepStoreValid,
      resetCause := kind },
    faults := FaultTable.empty,
    sns := { Sns.reset with odometer := s.sns.odometer, odometerRemainder := s.sns.odometerRemainder },
    ena := { Ena.reset with
      charge := s.ena.charge, capacity := s.ena.capacity, socValid := s.ena.socValid,
      dischargeRemainder := s.ena.dischargeRemainder, chargeRemainder := s.ena.chargeRemainder },
    spl := Spl.reset, tqa := Tqa.reset,
    cpl := { Cpl.reset with slipRemainder := s.cpl.slipRemainder },
    bbl := { Bbl.reset with
      remainder1 := s.bbl.remainder1, remainder2 := s.bbl.remainder2, remainder3 := s.bbl.remainder3 },
    wear := s.wear, log := LogRing.empty, exc := Exc.reset,
    port := { ram := s.port.ram.establish, attn := 0, attnEn := 0, powerUps := s.port.powerUps },
    sent := [], pending := s.pending }

/-! ## What a reset then does (R19, R20, R140, R158) -/

/-- A keep power-up only: the cause and the entry (R19). The reseed window is opened by the initialisation. -/
def retainedLost (s : State) : State :=
  logAppend true (entryNow s .retainedLost none none none) (setCause .retainedLost s)

/-- The check of R20. -/
def uncontrolledOpen (s : State) : State :=
  if s.dsv.posFlag then
    let s1 := wearIncrement true w7 (logAppend true (entryNow s .uncontrolledOpen none none none) s)
    s1.withDsv { s1.dsv with posFlag := false }
  else s

/-- The entry of a standing warning: the counter's warning stamps in place of the present ones (R140). -/
def standingEntry (c : Counter) (s : State) : LogEntry :=
  let r := s.counter c
  { entryNow s r.warned.kind (some c) (some (r.value : Int)) (some (r.thresholdOf r.warned)) with
    odometer := r.stampOdometer, seconds := r.stampSeconds }

/-- The standing warning of one counter given afresh; a level raised in this same reset is passed over (R140). `before`: the
counters before the check of R20. -/
def standingWarning (before : Vector WearRecord 10) (c : Counter) (s : State) : State :=
  if (s.counter c).warned = .none ∨ (s.counter c).warned ≠ (before.get c).warned then s
  else logAppend true (standingEntry c s) s

/-- A raising made at a reset: no cause, no publication request (R158). -/
def quietRaise (k : FaultKind) (s : State) : State := setRecord k ((s.faults.record k).raise s.dsv.operatingSeconds) s

/-- The raisings of a reset (R158). -/
def resetRaisings (s : State) : State :=
  quietRaise .configMissing (if s.ena.socValid then s else quietRaise .socUnknown s)

/-- The end of a keep power-up (R19). -/
def endOfKeepPowerUp (s : State) : State :=
  rewriteStatus (resetRaisings (retainedLost (establish .keepPowerUp (initialiseRetained s))))

/-- The end of a main power-up or a pin reset (R19, R20, R140). -/
def endOfKeptReset (kind : ResetCause) (s : State) : State :=
  let s1 := establish kind s
  rewriteStatus (resetRaisings (eachCounter (standingWarning s1.wear.counters) allCounters (uncontrolledOpen s1)))

/-- The end of a reset. -/
def endOfReset (kind : ResetCause) (s : State) : State :=
  match kind with
  | .keepPowerUp => endOfKeepPowerUp s
  | .mainPowerUp => endOfKeptReset .mainPowerUp s
  | .pin => endOfKeptReset .pin s

/-! ## Supplies and RESET -/

/-- The contactors forced open; the POS-closed flag stays (R2, R18). -/
def forceOpen (s : State) : State :=
  s.withDsv { s.dsv with negClosed := false, preClosed := false, posClosed := false }

/-- Main power is applied (R18, R19, R164): a fresh content of the RAM; with RESET asserted, the rest waits for its release
(log 30). -/
def powerUp (kind : ResetCause) (vkeep : Bool) (s : State) : State :=
  let s1 : State := { s with
    supply := { s.supply with main := true, keep := vkeep, markerHolds := decide (kind ≠ .keepPowerUp) },
    port := { s.port with ram := [], powerUps := s.port.powerUps + 1 } }
  if s.supply.resetAsserted then forceOpen { s1 with supply := { s1.supply with heldPowerUp := some kind } }
  else endOfReset kind s1

/-- RESET is asserted (R2, R19): no event runs, the contactors are OPEN, the clutch is released. -/
def assertReset (s : State) : State :=
  let s1 := forceOpen { s with supply := { s.supply with resetAsserted := true } }
  s1.withCpl { s1.cpl with position := 0 }

/-- RESET is released (R19); a RESET held across a main power-up records the power-up kind. -/
def releaseReset (s : State) : State :=
  let s1 : State := { s with supply := { s.supply with resetAsserted := false } }
  if s.supply.main then endOfReset (s.supply.heldPowerUp.getD .pin) s1 else s1

/-- The main supply is lost (R18); the marker fails when the keep supply is absent too. -/
def loseMain (vkeep : Bool) (s : State) : State :=
  forceOpen { s with
    supply := { s.supply with
      main := false, keep := vkeep, markerHolds := s.supply.markerHolds && vkeep, heldPowerUp := none } }

/-- The keep supply is lost (R18); the marker fails when the main supply is absent too. -/
def loseKeep (s : State) : State :=
  { s with supply := { s.supply with keep := false, markerHolds := s.supply.markerHolds && s.supply.main } }

/-- KEEP_POWER_UP (R19). -/
def execKeepPowerUp (vkeep : Bool) (s : State) : Result := .next (powerUp .keepPowerUp vkeep s)

/-- MAIN_POWER_UP (R19); with a failed marker main power brings a keep power-up (log 7). -/
def execMainPowerUp (vkeep : Bool) (s : State) : Result :=
  .next (powerUp (if s.supply.markerHolds then .mainPowerUp else .keepPowerUp) vkeep s)

/-- PIN_RESET (R19). -/
def execPinReset (s : State) : Result := .next (releaseReset s)

/-- RESET_ASSERTED (R19). -/
def execResetAsserted (s : State) : Result := .next (assertReset s)

/-- MAIN_SUPPLY_LOSS (R18). -/
def execMainSupplyLoss (vkeep : Bool) (s : State) : Result := .next (loseMain vkeep s)

/-- KEEP_SUPPLY_LOSS (R18). -/
def execKeepSupplyLoss (s : State) : Result := .next (loseKeep s)

end Sys2Proof.Machine
end

