-- ==== Sys2Proof/Machine/Dispatch.lean ====
section
/-! DEFINITION. One arm per command: each calls its meaning. -/

namespace Sys2Proof.Machine

/-- The effect of a command on everything but the queue. -/
def exec (i : Instr) (s : State) : Host.Outcome State Fault Refusal :=
  match i with
  | .keepPowerUp vkeep => Sys2Proof.Machine.execKeepPowerUp vkeep s
  | .mainPowerUp vkeep => Sys2Proof.Machine.execMainPowerUp vkeep s
  | .pinReset => Sys2Proof.Machine.execPinReset s
  | .resetAsserted => Sys2Proof.Machine.execResetAsserted s
  | .mainSupplyLoss vkeep => Sys2Proof.Machine.execMainSupplyLoss vkeep s
  | .intakeSweep writes late => Sys2Proof.Machine.execIntakeSweep writes late s
  | .reportFrame writes late => Sys2Proof.Machine.execReportFrame writes late s
  | .splitFrame => Sys2Proof.Machine.execSplitFrame s
  | .outputStep blendFirst => Sys2Proof.Machine.execOutputStep s blendFirst
  | .blendFrame => Sys2Proof.Machine.execBlendFrame s
  | .cplFrame => Sys2Proof.Machine.execCplFrame s
  | .dsvSecondTimer => Sys2Proof.Machine.execDsvSecondTimer s
  | .cplSecondTimer => Sys2Proof.Machine.execCplSecondTimer s
  | .enaSecondTimer => Sys2Proof.Machine.execEnaSecondTimer s
  | .prechargeTimeout => Sys2Proof.Machine.execPrechargeTimeout s
  | .settleTimerExpiry => Sys2Proof.Machine.execSettleTimerExpiry s
  | .cooldownTimerExpiry => Sys2Proof.Machine.execCooldownTimerExpiry s
  | .powerDownTimerExpiry => Sys2Proof.Machine.execPowerDownTimerExpiry s
  | .safeStopTimerExpiry => Sys2Proof.Machine.execSafeStopTimerExpiry s
  | .linkMonitorExpiry link => Sys2Proof.Machine.execLinkMonitorExpiry link s
  | .inverterStatus frameOk shaftSpeed linkVoltage motorLimit generatorLimit => Sys2Proof.Machine.execInverterStatus frameOk shaftSpeed linkVoltage motorLimit generatorLimit s
  | .engineStatus frameOk speed torque running => Sys2Proof.Machine.execEngineStatus frameOk speed torque running s
  | .brakeStatus frameOk available absActive => Sys2Proof.Machine.execBrakeStatus frameOk available absActive s
  | .packSample frameOk count current voltage minTemp maxTemp elapsedMs => Sys2Proof.Machine.execPackSample frameOk count current voltage minTemp maxTemp elapsedMs s
  | .wheelEdge wheel capture => Sys2Proof.Machine.execWheelEdge wheel capture s
  | .wheelTimerWrap wheel => Sys2Proof.Machine.execWheelTimerWrap wheel s
  | .silenceTimerExpiry wheel => Sys2Proof.Machine.execSilenceTimerExpiry wheel s
  | .attnWrite value => Sys2Proof.Machine.execAttnWrite value s
  | .attnEnWrite value => Sys2Proof.Machine.execAttnEnWrite value s
  | .logTakeWrite value => Sys2Proof.Machine.execLogTakeWrite value s
  | .registerWriteIgnored value writes => Sys2Proof.Machine.execRegisterWriteIgnored value s writes
  | .keepSupplyLoss => Sys2Proof.Machine.execKeepSupplyLoss s

end Sys2Proof.Machine
end

