-- ==== Sys2Proof/Safety.lean ====
section
/-! DEFINITION. What the spec says is always true of the part, and the words in which statements say what a command leaves as
it was and what an event does. -/

namespace Sys2Proof.Machine

/-! ## Invariants -/

/-- The exchange RAM keeps its canonical form. -/
def MemoryInv (s : State) : Prop := Memory.wf s.port.ram = true

/-- The ring records agree (R142), and the log holds at most 64 unread entries (R146). -/
def LogInv (s : State) : Prop :=
  s.log.occupancy ≤ 64 ∧ s.log.readPos < 64 ∧ s.log.writePos = (s.log.readPos + s.log.occupancy) % 64

/-- Every wear counter fits its 32 bits (section 7.1), and a warned level never exceeds the level that value and thresholds
warrant (R130). -/
def WarnedInv (s : State) : Prop :=
  ∀ c : Counter, (s.counter c).value ≤ 4294967295 ∧ (s.counter c).warned.code ≤ (s.counter c).warranted.code

/-- No cell is at once the current cell of two order channels, or of an order channel and the published or held cell of a
report channel (R168). -/
def ChannelInv (s : State) : Prop :=
  (∀ c d : OrderChannel, ∀ k : CellIndex, c ≠ d → (s.orderRow c).current = some k → (s.orderRow d).current ≠ some k) ∧
  (∀ c : OrderChannel, ∀ i : Fin 8, ∀ k : CellIndex, (s.orderRow c).current = some k →
    (s.reportRow i).published ≠ some k ∧ (s.reportRow i).held ≠ some k)

/-- The clutch position command is at most 1000, and above zero only while the engine is RUNNING and the coupling CLOSING,
COUPLED or OPENING (R101); away from OPEN the engine is RUNNING. -/
def ClutchInv (s : State) : Prop :=
  s.cpl.position ≤ 1000 ∧ (0 < s.cpl.position → s.cpl.coupling.pressed = true) ∧
  (s.cpl.coupling ≠ .opened → s.cpl.engine = .running)

/-- The failed crank attempts of a session never exceed three (R88). -/
def CrankInv (s : State) : Prop := s.cpl.crankCount ≤ 3

/-- The charge content stays between 0 and the capacity in force (R41). -/
def ChargeInv (s : State) : Prop := s.ena.charge ≤ s.ena.qCap

/-- POS is OPEN in STANDBY and FAULTED, and CLOSED together with PRE only during the settle delay (R2); each DSV timer
runs in its own state only. -/
def ContactorInv (s : State) : Prop :=
  (s.dsv.state = .standby ∨ s.dsv.state = .faulted → s.dsv.posClosed = false) ∧
  (s.dsv.posClosed = true → s.dsv.preClosed = true → s.dsv.state = .precharge ∧ s.dsv.settleTimer.isSome = true) ∧
  (s.dsv.prechargeTimer.isSome = true →
    s.dsv.state = .precharge ∧ s.dsv.settleTimer = none ∧ s.dsv.posClosed = false) ∧
  (s.dsv.settleTimer.isSome = true → s.dsv.state = .precharge ∧ s.dsv.prechargeTimer = none) ∧
  (s.dsv.powerDownTimer.isSome = true → s.dsv.state = .powerDown) ∧
  (s.dsv.safeStopTimer.isSome = true → s.dsv.state = .safeStop) ∧
  (s.dsv.cooldownTimer.isSome = true → s.dsv.state = .standby)

/-! ## Frames -/

/-- Every byte of the exchange RAM outside the status block's twelve items and the log slots reads as before. -/
def RamOutsideStatusAndLog (s t : State) : Prop :=
  ∀ a : Nat, ¬(0x80 ≤ a ∧ a < 0x98) → ¬(0x580 ≤ a ∧ a < 0xD80) → t.port.byteAt a = s.port.byteAt a

/-- Every byte of the exchange RAM outside some words of the status block reads as before, and ATTN_EN is unchanged. -/
def PortOutsideStatus (items : List Nat) (s t : State) : Prop :=
  t.port.attnEn = s.port.attnEn ∧ t.port.powerUps = s.port.powerUps ∧
  ∀ a : Nat, (∀ i ∈ items, a ≠ statusAddr i ∧ a ≠ statusAddr i + 1) → t.port.byteAt a = s.port.byteAt a

/-- What the events of the part leave as it was: the supplies, DSV's settings, the detail cursor, the log filter, EXC's own
records but for the change-pending flags, ATTN_EN, the queue, and every byte of the exchange RAM outside the status block's
twelve items and the log slots. -/
def EventFrame (s t : State) : Prop :=
  t.supply = s.supply ∧ t.dsv.mode = s.dsv.mode ∧ t.dsv.serviceMode = s.dsv.serviceMode ∧ t.dsv.limits = s.dsv.limits ∧
  t.dsv.resetCause = s.dsv.resetCause ∧ t.faults.cursor = s.faults.cursor ∧ t.log.filter = s.log.filter ∧
  t.exc.frameNumber = s.exc.frameNumber ∧ t.exc.sweepCount = s.exc.sweepCount ∧ t.exc.orders = s.exc.orders ∧
  (∀ i : Fin 8, t.reportRow i = { s.reportRow i with changePending := (t.reportRow i).changePending }) ∧
  t.port.attnEn = s.port.attnEn ∧ t.port.powerUps = s.port.powerUps ∧ t.pending = s.pending ∧ RamOutsideStatusAndLog s t

/-- What a reset that keeps the keep store leaves of every record but the log and the exchange RAM (R18, R19, R126, R158). -/
def KeptReset (kind : ResetCause) (s t : State) : Prop :=
  t.dsv = { Dsv.reset with
    operatingSeconds := s.dsv.operatingSeconds, keepStoreValid := s.dsv.keepStoreValid, resetCause := kind } ∧
  t.sns = { Sns.reset with odometer := s.sns.odometer, odometerRemainder := s.sns.odometerRemainder } ∧
  t.ena = { Ena.reset with
    charge := s.ena.charge, capacity := s.ena.capacity, socValid := s.ena.socValid,
    dischargeRemainder := s.ena.dischargeRemainder, chargeRemainder := s.ena.chargeRemainder } ∧
  t.spl = Spl.reset ∧ t.tqa = Tqa.reset ∧ t.cpl = { Cpl.reset with slipRemainder := s.cpl.slipRemainder } ∧
  t.bbl = { Bbl.reset with
    remainder1 := s.bbl.remainder1, remainder2 := s.bbl.remainder2, remainder3 := s.bbl.remainder3 } ∧
  t.wear.windowOpen = s.wear.windowOpen ∧
  (∀ c : Counter, s.dsv.posFlag = false ∨ c ≠ w7 → t.counter c = s.counter c) ∧
  t.faults.record .configMissing =
    { state := .active, count := 1, first := some s.dsv.operatingSeconds, last := some s.dsv.operatingSeconds } ∧
  t.faults.record .socUnknown =
    (if s.ena.socValid then FaultRecord.empty
    else
      { state := .active, count := 1, first := some s.dsv.operatingSeconds, last := some s.dsv.operatingSeconds }) ∧
  (∀ k : FaultKind, k ≠ .configMissing → k ≠ .socUnknown → t.faults.record k = FaultRecord.empty) ∧
  t.faults.cursor = 27 ∧ t.exc = Exc.reset ∧ t.port.attn = 0 ∧ t.port.attnEn = 0 ∧ t.sent = [] ∧ t.pending = s.pending

/-! ## What an event does, in the words of the statements -/

/-- I_dis, I_chg, P_dis and P_chg after an arrival, from the table, the validity and the window that stood before it and from
the temperatures, the voltage and the SOC that it left (R49, R51). -/
def LimitsFollow (s t : State) : Prop :=
  let soc := t.ena.charge * 10000 / (s.ena.capacity * 3600000)
  let tempBand (x : Int) : Nat :=
    if x < s.ena.table.tempEdges.get 0 then 0 else if x < s.ena.table.tempEdges.get 1 then 1
    else if x < s.ena.table.tempEdges.get 2 then 2 else if x < s.ena.table.tempEdges.get 3 then 3 else 4
  let socBand : Nat :=
    if soc < s.ena.table.socEdges.get 0 then 0 else if soc < s.ena.table.socEdges.get 1 then 1
    else if soc < s.ena.table.socEdges.get 2 then 2 else 3
  let entry (x : Int) : AcceptanceEntry :=
    s.ena.table.entries.toList.getD (4 * tempBand x + socBand) { discharge := 0, charge := 0 }
  let derated (x : Nat) : Nat := if s.ena.socValid then x else x * 250 / 1000
  t.ena.iDis = derated ((entry t.ena.maxTemp).discharge * min (soc - s.dsv.limits.sMin) 500 / 500) ∧
  t.ena.iChg = derated ((entry t.ena.minTemp).charge * min (s.dsv.limits.sMax - soc) 500 / 500) ∧
  t.ena.pDis = t.ena.iDis * t.ena.voltage / 1000 ∧ t.ena.pChg = t.ena.iChg * t.ena.voltage / 1000

/-- PACK_OVERTEMP after a comparison of a maximum cell temperature with a pack absolute maximum (R53). -/
def OvertempFollows (s t : State) (limit maxTemp : Int) : Prop :=
  let r := s.faults.record .packOvertemp
  t.faults.record .packOvertemp =
    if limit ≤ maxTemp then (if r.state = .active then r else r.raise s.dsv.operatingSeconds)
    else if maxTemp < limit - 5 ∧ r.state = .active then { r with state := .latched } else r

/-- The log after an increment request for a counter: the entry of the level that the threshold check gives now, if any (R127,
R130, R131). -/
def warnedLog (s : State) (c : Counter) (l : LogRing) : LogRing :=
  let r := s.counter c
  let value := min (r.value + 1) 4294967295
  if r.urgent ≠ 0 ∧ r.urgent ≤ value ∧ r.warned ≠ .urgent then
    l.afterAppend (entryNow s .wearUrgent (some c) (some (value : Int)) (some r.urgent))
  else if r.advise ≠ 0 ∧ r.advise ≤ value ∧ r.warned = .none then
    l.afterAppend (entryNow s .wearAdvise (some c) (some (value : Int)) (some r.advise))
  else l

/-- The log after an opening of POS: a hot one is logged with the magnitude of the current, absent with the pack link LOST, and
W7's warning, if any, follows (R3). -/
def openingLog (s : State) : LogRing :=
  if s.sns.packLink.up = true ∧ s.ena.current.natAbs ≤ 500 then s.log
  else
    warnedLog s w7
      (s.log.afterAppend
        (entryNow s .hotOpen none (if s.sns.packLink.up then some (s.ena.current.natAbs : Int) else none) none))

/-- The log after the stop cause was acted on: SHUTDOWN with the kind of a FAULT (R11, R12). -/
def shutdownLog (s : State) (cause : StopCause) (l : LogRing) : LogRing :=
  match cause with
  | .fault k => l.afterAppend (entryNow s .shutdown none (some (k.number.val : Int)) none)
  | .keyOff => l
  | .none => l

/-- A sample below the absolute maximum, in POWER_DOWN: a compensated current below 20.0 A opens POS, then NEG, not hot, and
ends the wait, logging SHUTDOWN for a FAULT; a larger one leaves DSV as it was (R3, R11). What the log says is given where the
sample's own counts can warn of nothing. -/
def PowerDownEnds (s t : State) (current maxTemp : Int) : Prop :=
  let unwarned : Prop := ∀ c : Counter, c = w5 ∨ c = w6 → (s.counter c).advise = 0 ∧ (s.counter c).urgent = 0
  s.dsv.state = .powerDown → s.dsv.prechargeTimer = none → maxTemp < (s.dsv.limits.packAbsMax : Int) →
    (current.natAbs < 200 →
      (unwarned → t.log = shutdownLog s s.dsv.stopCause s.log) ∧
      t.dsv.posClosed = false ∧ t.dsv.powerDownTimer = none ∧ t.counter w7 = s.counter w7 ∧
      (∀ k, s.dsv.stopCause = .fault k →
        t.dsv.state = .faulted ∧ t.dsv.stopCause = .fault k ∧ t.dsv.negClosed = false) ∧
      (s.dsv.stopCause = .keyOff → s.dsv.mode.keyOn = false →
        t.dsv.state = .standby ∧ t.dsv.stopCause = .none ∧ t.dsv.negClosed = false) ∧
      (s.dsv.stopCause = .keyOff → s.dsv.mode.keyOn = true → s.dsv.cooldownTimer = none → s.faults.highest.rank < 3 →
        t.dsv.state = .precharge)) ∧
    (200 ≤ current.natAbs → t.dsv = s.dsv ∧ (unwarned → t.log = s.log))

/-- READY after an event that tests R8's causes: DRIVE with a direction, CONFIG_MISSING not ACTIVE and the highest class below
LIMP, LIMP with the class LIMP, else READY; an entry to DRIVE leaves the reseed window CLOSED (R8, R132). -/
def ReadyFollows (s t : State) : Prop :=
  s.dsv.state = .ready →
    t.dsv.state =
      (if t.spl.demand.direction ≠ .neutral ∧ (t.faults.record .configMissing).state ≠ .active then
        (if t.faults.highest.rank < 2 then .drive else if t.faults.highest.rank = 2 then .limp else .ready)
      else .ready) ∧
    (t.dsv.state = .drive → t.wear.windowOpen = false)

/-- DRIVE, with a highest class other than LIMP, after an event that tests the direction and the road speed: READY in NEUTRAL
at rest, else DRIVE (R9). -/
def DriveFollows (s t : State) : Prop :=
  s.dsv.state = .drive → t.faults.highest.rank ≠ 2 →
    t.dsv.state = (if t.spl.demand.direction = .neutral ∧ t.sns.roadSpeed < 10 then .ready else .drive)

/-- LIMP after a change that brings the highest class below LIMP: DRIVE with the accelerator at 0, and on to READY with the bus
at rest in NEUTRAL; with the accelerator above 0 it stays (R9). -/
def LimpFollows (s t : State) : Prop :=
  s.dsv.state = .limp → t.faults.highest.rank < 2 →
    t.dsv.state =
      (if t.spl.demand.accelerator = 0 then
        (if t.spl.demand.direction = .neutral ∧ s.sns.roadSpeed < 10 then .ready else .drive)
      else .limp)

/-- On some axle other than the wheel's own, both wheels are VALID with speeds above 100 (R35). Axle a has the wheels 2a and
2a + 1. -/
def fastBeside (n : Sns) (u : Fin 6) : Bool :=
  let fast (v : Fin 6) : Bool := (n.wheel v).valid && decide (100 < (n.wheel v).speed)
  (decide (2 ≤ u.val) && fast 0 && fast 1) || (decide (u.val < 2 ∨ 4 ≤ u.val) && fast 2 && fast 3) ||
    (decide (u.val < 4) && fast 4 && fast 5)

/-- v_ref and v3 by the speeds and validities of the A1 wheels, 0 and 1, and the A3 wheels, 4 and 5 (R34). -/
def AxleSpeedsFollow (n : Sns) : Prop :=
  let a := n.wheel 0
  let b := n.wheel 1
  let c := n.wheel 4
  let d := n.wheel 5
  n.vRef.valid = (a.valid || b.valid) ∧ n.v3.valid = (c.valid || d.valid) ∧
  (a.valid = true → b.valid = true → n.vRef.speed = max a.speed b.speed) ∧
  (a.valid = true → b.valid = false → n.vRef.speed = a.speed) ∧
  (a.valid = false → b.valid = true → n.vRef.speed = b.speed) ∧
  (a.valid = false → b.valid = false → n.vRef.speed = 0) ∧
  (c.valid = true → d.valid = true → n.v3.speed = (c.speed + d.speed) / 2) ∧
  (c.valid = true → d.valid = false → n.v3.speed = c.speed) ∧
  (c.valid = false → d.valid = true → n.v3.speed = d.speed) ∧
  (c.valid = false → d.valid = false → n.v3.speed = 0)

/-- After an event in a wheel's channel: the sensor-fault flags of the other wheels, each set where the event changed the speed
or the validity and finds the wheel silent and another axle fast, and WHEEL_SENSOR: raised once for each flag set, LATCHED when
the wheel's own flag was the last to clear, else as it was, as every other fault record (R35). -/
def SensorFlagsFollow (s t : State) (w : WheelId) : Prop :=
  let i := wheelNumber w
  let changed : Bool :=
    decide ((t.sns.wheel i).speed ≠ (s.sns.wheel i).speed ∨ (t.sns.wheel i).valid ≠ (s.sns.wheel i).valid)
  let found : Nat :=
    (([0, 1, 2, 3, 4, 5] : List (Fin 6)).filter fun u =>
      (t.sns.wheel u).sensorFault && !(s.sns.wheel u).sensorFault).length
  let lastCleared : Prop := (s.sns.wheel i).sensorFault = true ∧ ∀ u : Fin 6, (t.sns.wheel u).sensorFault = false
  let r := s.faults.record .wheelSensor
  (∀ u : Fin 6, u ≠ i →
    t.sns.wheel u =
      { s.sns.wheel u with
        sensorFault :=
          (s.sns.wheel u).sensorFault || (changed && (s.sns.wheel u).silent && fastBeside t.sns u) }) ∧
  (∀ k : FaultKind, k ≠ .wheelSensor → t.faults.record k = s.faults.record k) ∧
  (0 < found →
    t.faults.record .wheelSensor =
      { state := .active, count := min (r.count + found) 255,
        first := if r.count = 0 then some s.dsv.operatingSeconds else r.first, last := some s.dsv.operatingSeconds }) ∧
  (found = 0 → lastCleared →
    t.faults.record .wheelSensor = (if r.state = .active then { r with state := .latched } else r)) ∧
  (found = 0 → ¬lastCleared → t.faults = s.faults ∧ t.dsv = s.dsv)

/-- T_opt and T_emax of an engine map at a shaft speed magnitude n: the first point's values at or below its speed, the last
one's at or above its speed, between two points the interpolation, its division truncated toward zero (R74). -/
def MapGives (points : List MapPoint) (n : Nat) (tOpt tEmax : Int) : Prop :=
  let between (a b : Nat) (p q : MapPoint) : Int :=
    a + (((b : Int) - a) * ((n : Int) - p.speed)).tdiv ((q.speed : Int) - p.speed)
  (∀ p : MapPoint, points.head? = some p → n ≤ p.speed → tOpt = p.tOpt ∧ tEmax = p.tMax) ∧
  (∀ p : MapPoint, points.getLast? = some p → (∀ r ∈ points.dropLast, r.speed < n) → p.speed ≤ n →
    tOpt = p.tOpt ∧ tEmax = p.tMax) ∧
  (∀ (i : Nat) (p q : MapPoint), points[i]? = some p → points[i + 1]? = some q → (∀ r ∈ points.take i, r.speed < n) →
    p.speed ≤ n → n < q.speed →
    tOpt = between p.tOpt q.tOpt p q ∧ tEmax = between p.tMax q.tMax p q)

/-- The mode, the shares, the shortfall and the requests of a split frame, by the availability and the demanded torque it formed
and the driveline state its age test left: HYBRID (R68, R69, R74), ELECTRIC (R70), the shortfall and its run (R71), and the
staleness ramp against the previous frame's requests (R63). -/
def SplitShared (s t : State) : Prop :=
  let l := s.dsv.limits
  let d := s.spl.demand
  let hybrid : Prop :=
    s.cpl.coupling = .coupled ∧ d.direction = .forward ∧ (t.dsv.state = .drive ∨ t.dsv.state = .limp)
  let most : Int := t.spl.tMotAvail
  let least : Int := -(t.spl.tGenAvail : Int)
  let ramp (x : Int) : Int := if 0 < x then max 0 (x - l.torqueStep) else min 0 (x + l.torqueStep)
  let nearest (x r : Int) : Int := max (min 0 r) (min x (max 0 r))
  let stale : Bool := t.faults.isActive .demandStale
  ∃ motor engine : Int,
    t.spl.mode = (if hybrid then .hybrid else .electric) ∧
    (hybrid → ∃ tOpt tEmax : Int, MapGives s.spl.mapPoints s.sns.shaftSpeed.natAbs tOpt tEmax ∧
      let bias : Int := ((l.kSoc : Int) * ((s.ena.soc : Int) - s.dsv.mode.socTarget)).tdiv 100
      let share : Int := max 0 (min (tOpt - bias) tEmax)
      let rest : Int := t.spl.tDem - share
      (most < rest → motor = most ∧ engine = min (t.spl.tDem - most) tEmax) ∧
      (rest ≤ most → rest < least → motor = least ∧ engine = min (t.spl.tDem - least) tEmax) ∧
      (rest ≤ most → least ≤ rest → motor = rest ∧ engine = share)) ∧
    (¬hybrid → engine = 0 ∧
      motor = (if d.direction = .reverse then max t.spl.tDem (-most) else min t.spl.tDem most)) ∧
    t.spl.shortfall = t.spl.tDem.natAbs - (motor + engine).natAbs ∧
    t.spl.shortfallRun = (if t.spl.shortfall = 0 then 0 else min (s.spl.shortfallRun + 1) 255) ∧
    t.spl.propulsionRequest = (if stale then nearest motor (ramp s.spl.propulsionRequest) else motor) ∧
    t.spl.engineRequest = (if stale then nearest engine (ramp s.spl.engineRequest) else engine)

/-- The clutch slip energy of a CPL frame that begins CLOSING, COUPLED or OPENING, with the engine link UP and a speed error
above 20 rpm: |actual torque| × |e| onto the slip remainder, and a count of W3 for each 954,930; else nothing is counted
(R103). Of the other counters only W4 may change. -/
def SlipCounted (s t : State) : Prop :=
  let e : Int := (s.sns.shaftSpeed.natAbs : Int) - s.sns.engineSpeed
  let counts : Bool :=
    decide (s.cpl.coupling = .closing ∨ s.cpl.coupling = .coupled ∨ s.cpl.coupling = .opening) && s.sns.engineLink.up &&
      decide (20 < e.natAbs)
  let total := s.cpl.slipRemainder + s.sns.engineTorque.natAbs * e.natAbs
  (counts = true →
    t.cpl.slipRemainder = total % 954930 ∧
    ((s.counter w3).value ≤ 4294967295 →
      (t.counter w3).value = min ((s.counter w3).value + total / 954930) 4294967295)) ∧
  (counts = false → t.cpl.slipRemainder = s.cpl.slipRemainder ∧ t.counter w3 = s.counter w3) ∧
  (∀ c : Counter, c ≠ w3 → c ≠ w4 → t.counter c = s.counter c)

/-- The engine want of a CPL frame without a stall, with the countdown and the surplus run it reads (R84 to R86). -/
def EngineWant (s t : State) : Prop :=
  let limits := s.dsv.limits
  let permission := s.dsv.mode.permission
  let drives : Prop := s.dsv.state = .drive ∨ s.dsv.state = .limp
  let off : Prop :=
    permission = .quiet ∨ (s.dsv.state ≠ .ready ∧ ¬drives) ∨ (permission = .allowed ∧ t.cpl.surplusRun = 1000) ∨
      (t.cpl.countdown = 0 ∧ s.cpl.engine = .running ∧ s.sns.roadSpeed < 10 ∧ permission ≠ .forceRun ∧
        limits.sMin + 300 ≤ s.ena.soc)
  let on : Prop :=
    (permission = .allowed ∧ s.spl.mapValid = true ∧ s.spl.demand.direction = .forward ∧ drives ∧
      700 ≤ s.sns.shaftSpeed.natAbs ∧ s.sns.engineLink.up = true ∧
      (s.ena.soc + 300 ≤ s.dsv.mode.socTarget ∨ 20 ≤ s.spl.shortfallRun)) ∨
    (permission = .forceRun ∧ (s.dsv.state = .ready ∨ drives))
  t.cpl.countdown =
    (if s.cpl.engine ≠ .running ∨ 10 ≤ s.sns.roadSpeed ∨ limits.idleStop = 255 then limits.idleStop
    else s.cpl.countdown) ∧
  t.cpl.surplusRun =
    (if s.dsv.mode.socTarget + 200 ≤ s.ena.soc ∧ s.spl.shortfall = 0 then min (s.cpl.surplusRun + 1) 1000 else 0) ∧
  (off → t.cpl.wantOn = false) ∧ (¬off → on → t.cpl.wantOn = true) ∧ (¬off → ¬on → t.cpl.wantOn = s.cpl.wantOn)

/-- A CPL frame that finds the engine CRANKING, by the want it formed (R88, R89). -/
def CrankMoves (s t : State) : Prop :=
  let timer := min (s.cpl.crankTimer + 1) 150
  let goesOn : Bool := t.cpl.wantOn && s.sns.engineLink.up
  let ends (e : EngineState) (m : EngineMode) (count wait : Nat) : Prop :=
    t.cpl.engine = e ∧ t.cpl.lastMode = m ∧ t.cpl.crankCount = count ∧ t.cpl.failureWait = wait
  let count := s.cpl.crankCount
  let wait := s.cpl.failureWait - 1
  (goesOn = false → ends .off .stop count wait) ∧
  (goesOn = true → 500 ≤ s.sns.engineSpeed → ends .running .idle count wait) ∧
  (goesOn = true → s.sns.engineSpeed < 500 → timer < 150 → ends .cranking .start count wait ∧ t.cpl.crankTimer = timer) ∧
  (goesOn = true → s.sns.engineSpeed < 500 → timer = 150 → count + 1 < 3 → ends .off .stop (count + 1) 200) ∧
  (goesOn = true → s.sns.engineSpeed < 500 → timer = 150 → 3 ≤ count + 1 →
    ends .lockedOut .stop 3 wait ∧
    t.faults.record .engineStartFailed = (s.faults.record .engineStartFailed).raise s.dsv.operatingSeconds ∧
    t.log = s.log.afterAppend (entryNow s .startFailed none (some 3) none)) ∧
  t.wear.counters = s.wear.counters

/-- A CPL frame that finds the engine RUNNING and not stalled: the speed match, the ramps, the fast open and the stop, by the
want it formed (R92 to R100). That the sub-mode is none from CLOSING on is log 19. -/
def CouplingMoves (s t : State) : Prop :=
  let n := s.sns.shaftSpeed.natAbs
  let e : Int := (n : Int) - s.sns.engineSpeed
  let drives : Bool := decide (s.dsv.state = .drive ∨ s.dsv.state = .limp)
  let forward : Bool := decide (s.spl.demand.direction = .forward)
  let apart : Bool :=
    decide (0 < s.spl.demand.brake ∨ n < 650) || !t.cpl.wantOn || !s.sns.engineLink.up || !drives || !forward
  let request : Bool :=
    t.cpl.wantOn && s.spl.mapValid && forward && drives && s.sns.engineLink.up &&
      decide (700 ≤ n ∧ n ≤ 2400 ∧ s.spl.demand.brake = 0 ∧ s.cpl.retryDelay ≤ 1)
  let acquire : Nat := (clamp ((n : Int) + clamp e (-300) 300) 0 3000).toNat
  let track : Nat := (clamp ((n : Int) + clamp (e.tdiv 4) (-50) 50) 0 3000).toNat
  let step := 1000 / (s.dsv.limits.clutchFill / 10)
  let moves (c : CouplingState) (m : SyncMode) (position delay : Nat) : Prop :=
    t.cpl.coupling = c ∧ t.cpl.sync = m ∧ t.cpl.position = position ∧ t.cpl.retryDelay = delay
  let p := s.cpl.position
  let delay := s.cpl.retryDelay - 1
  let closes : Prop :=
    t.cpl.speedRequest = track ∧
      if 1000 ≤ p + step then moves .coupled .none 1000 delay else moves .closing .none (p + step) delay
  let opens (d : Nat) : Prop := if p ≤ 100 then moves .opened .none 0 d else moves .opening .none (p - 100) d
  let held : Bool := decide (s.cpl.sync = .locked ∧ e.natAbs ≤ 60)
  let timer := min (s.cpl.syncTimer + 1) 200
  let run := s.cpl.lockRun + 1
  let after : SyncMode × Nat :=
    match s.cpl.sync with
    | .acquire => if e.natAbs ≤ 100 then (.track, if e.natAbs ≤ 30 then 1 else 0) else (.acquire, 0)
    | .track =>
      if 200 < e.natAbs then (.acquire, 0)
      else if 30 < e.natAbs then (.track, 0) else if 8 ≤ run then (.locked, 8) else (.track, run)
    | .locked => (.track, 0)
    | .none => (.acquire, 0)
  let timesOut : Bool := decide (timer = 200 ∧ after.1 ≠ .locked)
  (2400 < n → s.cpl.coupling ≠ .opened → moves .opened .none 0 delay) ∧
  (s.cpl.coupling = .opened →
    (request = true →
      moves .syncing .acquire p delay ∧ t.cpl.syncTimer = 0 ∧ t.cpl.lockRun = 0 ∧ t.cpl.speedRequest = acquire) ∧
    (request = false → moves .opened s.cpl.sync p delay)) ∧
  (n ≤ 2400 → s.cpl.coupling = .syncing →
    (apart = true → moves .opened .none p delay) ∧
    (apart = false → held = true → closes) ∧
    (apart = false → held = false → s.cpl.sync ≠ .none →
      (after.1 ≠ .acquire → t.cpl.lockRun = after.2) ∧
      t.cpl.speedRequest = (if after.1 = .acquire then acquire else track) ∧ t.cpl.syncTimer = timer ∧
      (timesOut = true →
        moves .opened .none p 500 ∧
        t.faults.record .syncTimeout =
          { (s.faults.record .syncTimeout).raise s.dsv.operatingSeconds with state := .latched } ∧
        t.log = s.log.afterAppend (entryNow s .syncTimeout none (some (e.natAbs : Int)) none)) ∧
      (timesOut = false → moves .syncing after.1 p delay))) ∧
  (n ≤ 2400 → s.cpl.coupling = .closing →
    (200 < e.natAbs → opens 500) ∧ (e.natAbs ≤ 200 → apart = true → opens delay) ∧
    (e.natAbs ≤ 200 → apart = false → closes)) ∧
  (n ≤ 2400 → s.cpl.coupling = .coupled →
    (apart = true → opens delay) ∧ (apart = false → moves .coupled s.cpl.sync p delay)) ∧
  (n ≤ 2400 → s.cpl.coupling = .opening → opens delay) ∧
  t.cpl.engine = (if t.cpl.wantOn = false ∧ t.cpl.coupling = .opened then .stopping else .running) ∧
  (t.cpl.engine = .stopping → t.cpl.stopTimer = 0 ∧ t.cpl.lastMode = .stop)

/-- Slip supervision in a blend frame, by the slip ratio it formed: entry by slip, entry by anti-lock, release, and the runs
(R119, R120, R122); W8 and the log. -/
def SlipSupervised (s t : State) : Prop :=
  let b := s.bbl
  let forward : Bool := decide (s.spl.demand.direction = .forward)
  let counts : Bool :=
    forward && t.bbl.slipFormed && decide (s.tqa.issued < 0 ∧ (s.dsv.limits.slipLimit : Int) ≤ t.bbl.slip)
  let bySlip : Bool := !b.slipHold && counts && decide (2 ≤ b.entryRun + 1)
  let byAntiLock : Bool := !b.slipHold && forward && s.sns.brakeLink.up && s.sns.absActive
  let starts : Bool := bySlip || byAntiLock
  let frees : Bool :=
    (!s.sns.absActive || !s.sns.brakeLink.up) && (!t.bbl.slipFormed || decide (t.bbl.slip ≤ 30))
  let ends : Bool := b.slipHold && frees && decide (20 ≤ b.releaseRun + 1)
  t.bbl.slipHold = ((b.slipHold && !ends) || starts) ∧
  t.bbl.entryRun =
    (if b.slipHold then b.entryRun else if starts then 0 else if counts then b.entryRun + 1 else 0) ∧
  t.bbl.releaseRun =
    (if b.slipHold then (if frees && !ends then b.releaseRun + 1 else 0) else if starts then 0 else b.releaseRun) ∧
  (t.counter w8).value = (if bySlip then min ((s.counter w8).value + 1) 4294967295 else (s.counter w8).value) ∧
  (bySlip = false → t.counter w8 = s.counter w8) ∧
  (bySlip = true → s.brakeLinkUp = false → (s.counter w8).advise = 0 → (s.counter w8).urgent = 0 →
    t.log = s.log.afterAppend (entryNow s .slipHold none (some t.bbl.slip) none)) ∧
  (bySlip = false → s.brakeLinkUp = false → t.log = s.log)

/-- T_ra and the return ramp in a blend frame, by the slip hold it left: a ramp starts at 0 where a hold ends, ends where one
starts, and is else raised by 10 (R109, R123). -/
def RampApplied (s t : State) : Prop :=
  let n := s.sns.shaftSpeed.natAbs
  let battery := s.ena.pChg * 9549 * 1024 / (10 * max n 100 * 942)
  let fade := if 400 ≤ n then 1000 else if n ≤ 150 then 0 else (n - 150) * 1000 / 250
  let faded := min (min s.dsv.limits.regenCeiling s.sns.generatorLimit) battery * fade / 1000
  let cap : Option Nat :=
    if s.bbl.slipHold && !t.bbl.slipHold then some 0
    else if !s.bbl.slipHold && t.bbl.slipHold then none
    else s.bbl.ramp.map fun c => min (c + 10) 2000
  match cap with
  | none => t.bbl.tRa = faded ∧ t.bbl.ramp = none
  | some c => t.bbl.tRa = min c faded ∧ t.bbl.ramp = if c < faded then some c else none

/-- The friction energy of the interval that a blend frame ends: each axle's force times the road speed onto its remainder, and
a count of its counter for each kJ; with the brake link not up nothing is counted (R116). -/
def FrictionCounted (s t : State) : Prop :=
  let l := s.dsv.limits
  let work (force : Nat) : Nat := if s.sns.brakeLink.up && s.sns.brakeAvailable then force * s.sns.roadSpeed else 0
  let counted (c : Counter) (remainder after force : Nat) : Prop :=
    remainder < 3600000 → (s.counter c).value ≤ 4294967295 →
      after = (remainder + work force) % 3600000 ∧
      (t.counter c).value = min ((s.counter c).value + (remainder + work force) / 3600000) 4294967295
  counted w0 s.bbl.remainder1 t.bbl.remainder1 (min s.bbl.force1 (1000 * l.gain1)) ∧
  counted w1 s.bbl.remainder2 t.bbl.remainder2 (min s.bbl.force2 (1000 * l.gain2)) ∧
  counted w2 s.bbl.remainder3 t.bbl.remainder3 s.bbl.friction3 ∧
  (∀ c : Counter, c ≠ w0 → c ≠ w1 → c ≠ w2 → c ≠ w8 → t.counter c = s.counter c)

/-! ## Fields, entries and reports, as the layout tables give them -/

/-- An unsigned field of one word; a value that exceeds it saturates (R183, R185). -/
def unsignedField (n : Nat) : Word := BitVec.ofNat 16 (min n 65535)

/-- A signed field of one word, in two's complement; a value that exceeds it saturates (R183, R185). -/
def signedField (i : Int) : Word := BitVec.ofInt 16 (max (-32768) (min i 32767))

/-- A field of two words, the less significant word first (R183). -/
def wideField (n : Nat) : List Word :=
  [BitVec.ofNat 16 (min n 4294967295 % 65536), BitVec.ofNat 16 (min n 4294967295 / 65536)]

/-- Two fields of a byte each in one word (section 11.4). -/
def byteFields (low high : Nat) : Word := BitVec.ofNat 16 (min low 255 + 256 * min high 255)

/-- The code of a value of an enumeration, whose values are listed by their codes from 0 (R183). -/
def codeField {α : Type} [DecidableEq α] (codes : List α) (x : α) : Word := BitVec.ofNat 16 (codes.idxOf x)

/-- The driveline states by their codes (R183). -/
def drivelineStates : List DrivelineState :=
  [.standby, .precharge, .ready, .drive, .limp, .safeStop, .powerDown, .faulted]

/-- The engine states by their codes (R183). -/
def engineStates : List EngineState := [.off, .cranking, .running, .stopping, .lockedOut]

/-- The coupling states by their codes (R183). -/
def couplingStates : List CouplingState := [.opened, .syncing, .closing, .coupled, .opening]

/-- The outcome codes in their order (section 10.4). -/
def outcomeCodes : List OutcomeCode :=
  [.accepted, .adjusted, .notFilled, .badCell, .cellClass, .short, .range, .state, .notAtRest, .notInService, .windowClosed]

/-- The twelve items of the status block (section 11.2, R180). -/
def statusItems (s : State) : List Word :=
  [codeField [.keepPowerUp, .mainPowerUp, .pin] s.dsv.resetCause, codeField drivelineStates s.dsv.state, s.exc.frameNumber,
    s.exc.sweepCount, if s.dsv.keepStoreValid then 1 else 0, if s.wear.windowOpen then 1 else 0,
    if s.dsv.serviceMode then 1 else 0, unsignedField s.log.readPos, unsignedField s.log.writePos,
    unsignedField s.log.occupancy, unsignedField s.log.drops, s.port.attn.setWidth 16]

/-- The sixteen words of a log entry, an absent field 0xFFFF (R143, section 11.2). -/
def EntryWords (e : LogEntry) (sequence : Word) (w : List Word) : Prop :=
  ∃ value threshold : List Word,
    w = [sequence, unsignedField e.kind.number, codeField [.note, .advise, .urgent] e.kind.severity,
          match e.source with
          | some c => BitVec.ofNat 16 c.val
          | none => 0xFFFF] ++
        value ++ threshold ++ wideField e.odometer ++ wideField e.seconds ++ [e.frame, 0, 0, 0] ∧
    (∀ v : Nat, e.value = some (v : Int) → value = wideField v) ∧ (e.value = none → value = [0xFFFF, 0xFFFF]) ∧
    (∀ x : Nat, e.threshold = some x → threshold = wideField x) ∧ (e.threshold = none → threshold = [0xFFFF, 0xFFFF])

/-- The payload of a report by the layout of its channel (section 11.4), from the records at the start of its publication and,
for FAULTS, the detail cursor after its move: DRIVE_STATE (R72, R81), BRAKE_STATE (R125), ENERGY (R57), WEAR (R141), FAULTS
(R161, R162), ORDER_RESULT (R174), ENGINE_CLUTCH (R104) and SENSING (R37), with R185's absent values. -/
def ReportWords (c : ReportChannel) (s : State) (cursor : Fin 28) (w : List Word) : Prop :=
  let flag (b : Bool) : Word := if b then 1 else 0
  match c with
  | .driveState =>
    w = [s.exc.frameNumber, codeField drivelineStates s.dsv.state, codeField [.electric, .hybrid] s.spl.mode,
      signedField s.spl.tDem, signedField s.spl.propulsionRequest, signedField s.tqa.issued,
      codeField [.disabled, .propulsion, .recovery, .slipRelease] s.tqa.stepMode, signedField s.spl.engineRequest,
      unsignedField s.spl.tMotAvail, unsignedField s.spl.tGenAvail, unsignedField s.spl.shortfall,
      unsignedField s.spl.frameN, unsignedField s.spl.frameRoadSpeed, unsignedField s.spl.frameSoc,
      unsignedField s.spl.framePDis, unsignedField s.spl.framePChg, unsignedField s.spl.demandAge, s.spl.demandSequence,
      codeField couplingStates s.cpl.coupling, codeField engineStates s.cpl.engine, flag (decide (s.dsv.state = .limp)),
      codeField [.info, .derate, .limp, .safeStop, .shutdown] s.faults.highest,
      match s.dsv.stopCause with
      | .none => 0
      | .keyOff => 1
      | .fault _ => 2,
      match s.dsv.stopCause with
      | .fault k => BitVec.ofNat 16 k.number.val
      | .none => 0xFFFF
      | .keyOff => 0xFFFF]
  | .brakeState =>
    w = [unsignedField s.bbl.aReq, unsignedField (s.bbl.force / 10), unsignedField (s.bbl.force3 / 10),
      unsignedField (s.bbl.regenForce / 10), unsignedField s.bbl.regenRequest, signedField s.bbl.complementTorque,
      unsignedField s.bbl.p1, unsignedField s.bbl.p2, unsignedField s.bbl.p3, flag s.bbl.permission, flag s.bbl.slipHold,
      if s.bbl.slipFormed then signedField s.bbl.slip else 0,
      match s.bbl.ramp with
      | some cap => unsignedField cap
      | none => 65535,
      flag s.sns.absActive]
  | .energy =>
    w = [unsignedField s.ena.soc, flag s.ena.socValid, signedField s.ena.current, unsignedField s.ena.voltage,
      unsignedField s.ena.pDis, unsignedField s.ena.pChg, unsignedField s.ena.iDis, unsignedField s.ena.iChg,
      unsignedField s.ena.restTimer, unsignedField s.ena.unaccounted] ++
      wideField s.ena.recoveredEnergy ++ wideField s.ena.spentEnergy ++
      [signedField s.ena.maxTemp, signedField s.ena.minTemp]
  | .wear =>
    let level (d : Counter) : Word :=
      let r := s.counter d
      byteFields ([WarnLevel.none, .advise, .urgent].idxOf r.warned) (if r.thresholdsSet then 1 else 0)
    w = wideField (s.counter 0).value ++ wideField (s.counter 1).value ++ wideField (s.counter 2).value ++
      wideField (s.counter 3).value ++ wideField (s.counter 4).value ++ wideField (s.counter 5).value ++
      wideField (s.counter 6).value ++ wideField (s.counter 7).value ++ wideField (s.counter 8).value ++
      wideField (s.counter 9).value ++
      [level 0, level 1, level 2, level 3, level 4, level 5, level 6, level 7, level 8, level 9] ++
      wideField s.sns.odometer ++ wideField s.dsv.operatingSeconds
  | .faults =>
    let count (i : Fin 14) : Nat := (s.faults.records.get i).count
    let detail := s.faults.records.get ⟨cursor.val / 2, by omega⟩
    ∃ active latched : Word,
      w = [byteFields ([ReactionClass.info, .derate, .limp, .safeStop, .shutdown].idxOf s.faults.highest)
          (FaultKind.all.filter s.faults.isActive).length, active, latched, byteFields (count 0) (count 1),
          byteFields (count 2) (count 3), byteFields (count 4) (count 5), byteFields (count 6) (count 7),
          byteFields (count 8) (count 9), byteFields (count 10) (count 11), byteFields (count 12) (count 13),
          byteFields (cursor.val / 2) (cursor.val % 2)] ++
          (match if cursor.val % 2 = 0 then detail.first else detail.last with
          | some seconds => wideField seconds
          | none => [0xFFFF, 0xFFFF]) ∧
      (∀ k : FaultKind, active.getLsbD k.number.val = decide ((s.faults.record k).state = .active) ∧
        latched.getLsbD k.number.val = decide ((s.faults.record k).state = .latched)) ∧
      ∀ i : Nat, 14 ≤ i → active.getLsbD i = false ∧ latched.getLsbD i = false
  | .orderResult =>
    let entry (d : OrderChannel) : List Word :=
      let r := (s.orderRow d).result
      let flags :=
        (if r.flags.length then 1 else 0) + (if r.flags.channel then 2 else 0) + (if r.flags.clamped then 4 else 0) +
          (if r.flags.held then 8 else 0)
      [BitVec.ofNat 16 (min r.cell 255 + 256 * outcomeCodes.idxOf r.code + 4096 * flags), r.sequence]
    w = entry .demand ++ entry .mode ++ entry .limits ++ entry .acceptance ++ entry .engineMap ++ entry .wearSet ++
      entry .compensation ++ entry .logFilter
  | .engineClutch =>
    w = [codeField engineStates s.cpl.engine, codeField couplingStates s.cpl.coupling,
      if s.cpl.coupling = .syncing then codeField [.none, .acquire, .track, .locked] s.cpl.sync else 0,
      unsignedField s.cpl.frameEngineSpeed, unsignedField s.cpl.speedRequest, signedField s.cpl.frameSpeedError,
      unsignedField s.cpl.position, unsignedField s.cpl.crankCount, unsignedField s.cpl.countdown,
      unsignedField s.cpl.retryDelay, codeField [.start, .stop, .idle, .speed, .torque] s.cpl.lastMode,
      flag (decide (s.cpl.engine = .lockedOut))]
  | .sensing =>
    let wheel (u : Fin 6) : Word := if (s.sns.wheel u).valid then unsignedField (s.sns.wheel u).speed else 0
    let axle (x : AxleSpeed) : Word := if x.valid then unsignedField x.speed else 0
    let valid (u : Fin 6) : Bool := (s.sns.wheel u).valid
    let faulty (u : Fin 6) : Bool := (s.sns.wheel u).sensorFault
    ∃ links wheels : Word,
      w = [wheel 0, wheel 1, wheel 2, wheel 3, wheel 4, wheel 5, axle s.sns.vRef, axle s.sns.v3, links, wheels,
        unsignedField s.sns.roadSpeed] ++ wideField s.sns.odometer ++ [s.sns.packCount.setWidth 16] ∧
      (∀ i : Nat, links.getLsbD i =
        [s.sns.driveLink.up, s.sns.driveLink.seen, s.sns.engineLink.up, s.sns.engineLink.seen, s.sns.brakeLink.up,
          s.sns.brakeLink.seen, s.sns.packLink.up, s.sns.packLink.seen, s.sns.brakeAvailable,
          s.sns.absActive].getD i false) ∧
      ∀ i : Nat, wheels.getLsbD i =
        [valid 0, valid 1, valid 2, valid 3, valid 4, valid 5, false, false, faulty 0, faulty 1, faulty 2, faulty 3,
          faulty 4, faulty 5].getD i false

/-- The detail cursor after a report was written: for FAULTS the next pair, cyclically, whose record has a count above 0; for
another channel it stays, as the whole fault table does (R162). -/
def CursorFollows (c : ReportChannel) (s t : State) : Prop :=
  let counted (p : Fin 28) : Prop := 0 < (s.faults.records.get ⟨p.val / 2, by omega⟩).count
  t.faults = { s.faults with cursor := t.faults.cursor } ∧
  (c ≠ .faults → t.faults = s.faults) ∧
  (c = .faults → ∀ p : Fin 28, counted p →
    counted t.faults.cursor ∧
    ∃ n : Fin 28, t.faults.cursor = s.faults.cursor + n + 1 ∧ ∀ m : Fin 28, m < n → ¬counted (s.faults.cursor + m + 1))

/-- A cell is a candidate for a report (R177). -/
def Candidate (c : ReportChannel) (s : State) (k : CellIndex) : Prop :=
  s.port.wordAt (headerAddr k 0) = BitVec.ofNat 16 c.number ∧ s.port.cellState k = cellSpare ∧ isLong k = c.long ∧
  s.port.wordAt (dirAddr c.number 1) ≠ indexWord (some k) ∧ (∀ d : OrderChannel, (s.orderRow d).current ≠ some k) ∧
  ∀ i : Fin 8, (s.reportRow i).published ≠ some k ∧ (s.reportRow i).held ≠ some k

/-- A cause is set in ATTN. -/
def State.causeSet (s : State) (c : Cause) : Bool := decide (s.port.attn &&& c.bit ≠ 0)

end Sys2Proof.Machine

namespace Sys2Proof

/-- The commands that are events of the part or register writes with an effect: they act only while the part runs. -/
def Instr.needsRunning : Instr → Bool
  | .keepPowerUp _ => false
  | .mainPowerUp _ => false
  | .pinReset => false
  | .resetAsserted => false
  | .mainSupplyLoss _ => false
  | .keepSupplyLoss => false
  | .intakeSweep _ _ => false
  | .reportFrame _ _ => false
  | .registerWriteIgnored _ _ => false
  | .splitFrame => true
  | .outputStep _ => true
  | .blendFrame => true
  | .cplFrame => true
  | .dsvSecondTimer => true
  | .cplSecondTimer => true
  | .enaSecondTimer => true
  | .prechargeTimeout => true
  | .settleTimerExpiry => true
  | .cooldownTimerExpiry => true
  | .powerDownTimerExpiry => true
  | .safeStopTimerExpiry => true
  | .linkMonitorExpiry _ => true
  | .inverterStatus _ _ _ _ _ => true
  | .engineStatus _ _ _ _ => true
  | .brakeStatus _ _ _ => true
  | .packSample _ _ _ _ _ _ _ => true
  | .wheelEdge _ _ => true
  | .wheelTimerWrap _ => true
  | .silenceTimerExpiry _ => true
  | .attnWrite _ => true
  | .attnEnWrite _ => true
  | .logTakeWrite _ => true

end Sys2Proof
end

