-- ==== Sys2Proof/Certificates/Slice0/Obligations.lean ====
section
/-! DEFINITION. The statements about the model, each a rule of the manual or derived from one. -/

open Sys2Proof Sys2Proof.Machine

/-! ## The queue, power and reset -/

/-- One step on a queue with c in front is c's effect on the state with the queue's rest. -/
def Obligations.StepRunsFrontCommand : Prop :=
  ∀ (c : Instr) (rest : List Instr) (s : State), step { s with pending := c :: rest } = exec c { s with pending := rest }

/-- Every command, in every state, answers a next state, and leaves the queue as it was. -/
def Obligations.CommandsAnswerAndKeepQueue : Prop :=
  ∀ (c : Instr) (s : State), ∃ t, exec c s = .next t ∧ t.pending = s.pending

/-- A message that fails its link's frame check is discarded (R22). While main power is absent or RESET is asserted no event
of the part acts, and the attention output is released (R18, R19, R182); that a write of ATTN, ATTN_EN or LOG_TAKE has no
effect then either is the model's deduction (log 10). The words of the vehicle controller land in the RAM while main power is
present, each whole and in its own place (R164); that they land under RESET too is the model's reading (log 10), and that
they travel with a sweep, a report frame or a write to ID is its choice (log 3). -/
def Obligations.EventsThatDoNotAct : Prop :=
  (∀ (c : Instr) (s : State), c.needsRunning = true → s.running = false → exec c s = .next s) ∧
  (∀ s : State, s.running = false → attentionAsserted s = false) ∧
  (∀ (writes : List VcWrite) (late : List LateWrite) (s : State), s.supply.main = false →
    exec (.intakeSweep writes late) s = .next s ∧ exec (.reportFrame writes late) s = .next s) ∧
  (∀ (writes : List VcWrite) (late : List LateWrite) (s : State), s.supply.main = true → s.supply.resetAsserted = true →
    exec (.intakeSweep writes late) s = .next (vcWrites (late.map fun l => l.write) (vcWrites writes s)) ∧
    exec (.reportFrame writes late) s = .next (vcWrites (late.map fun l => l.write) (vcWrites writes s))) ∧
  (∀ (writes : List VcWrite) (value : Word) (s : State),
    exec (.registerWriteIgnored value writes) s = .next (if s.supply.main then vcWrites writes s else s)) ∧
  (∀ (w : VcWrite) (ws : List VcWrite) (s : State), vcWrites (w :: ws) s = vcWrites ws (vcWrites [w] s) ∧
    (MemoryInv s → (vcWrites [w] s).port.wordAt (2 * w.addr.toNat) = w.value) ∧
    ∀ a : Nat, a ≠ 2 * w.addr.toNat → a ≠ 2 * w.addr.toNat + 1 →
      (vcWrites [w] s).port.byteAt a = s.port.byteAt a) ∧
  (∀ (s : State) (a b c d : Int) (r e f : Bool) (n : Byte) (m : Nat),
    exec (.inverterStatus false a b c d) s = .next s ∧ exec (.engineStatus false a b r) s = .next s ∧
    exec (.brakeStatus false e f) s = .next s ∧ exec (.packSample false n a b c d m) s = .next s)

/-- What an event of the part that is no sweep, no report frame and no write of ATTN_EN leaves as it was. -/
def Obligations.EventsKeepTheFrame : Prop :=
  ∀ (c : Instr) (s : State), c.needsRunning = true → (∀ v, c ≠ .attnEnWrite v) → LogInv s →
    ∃ t, exec c s = .next t ∧ EventFrame s t ∧ (c ≠ .dsvSecondTimer → t.dsv.operatingSeconds = s.dsv.operatingSeconds)

/-- What the spec gives right after a keep power-up (R1, R2, R14 to R19, R38, R42, R45, R58, R62, R75, R82, R126, R142, R158,
R159, R168, R181). That State.reset is this reset is the model's choice (log 1). -/
def Obligations.ResetValues : Prop :=
  State.reset.dsv.state = .standby ∧ State.reset.dsv.stopCause = .none ∧ State.reset.dsv.prechargeTimer = none ∧
  State.reset.dsv.settleTimer = none ∧ State.reset.dsv.cooldownTimer = none ∧ State.reset.dsv.powerDownTimer = none ∧
  State.reset.dsv.safeStopTimer = none ∧ contactorOutputs State.reset = (false, false, false) ∧
  State.reset.dsv.mode.keyOn = false ∧ State.reset.dsv.mode.permission = .allowed ∧
  State.reset.dsv.mode.socTarget = 5500 ∧ State.reset.dsv.serviceMode = false ∧
  State.reset.dsv.limits = Limits.default ∧ State.reset.dsv.operatingSeconds = 0 ∧
  State.reset.dsv.keepStoreValid = false ∧ State.reset.dsv.resetCause = .keepPowerUp ∧
  State.reset.ena.charge = 1080000000 ∧ State.reset.ena.soc = 5000 ∧ State.reset.ena.socValid = false ∧
  State.reset.spl.demandAge = 255 ∧ State.reset.spl.demand.mass = 18000 ∧ State.reset.spl.lastMoving = .none ∧
  State.reset.tqa.issued = 0 ∧
  State.reset.tqa.stepMode = .disabled ∧ State.reset.cpl.position = 0 ∧ State.reset.cpl.engine = .off ∧
  State.reset.cpl.coupling = .opened ∧ State.reset.wear.windowOpen = true ∧
  State.reset.faults.isActive .configMissing = true ∧ State.reset.faults.isActive .socUnknown = true ∧
  State.reset.faults.highest = .derate ∧ State.reset.log.occupancy = 1 ∧ State.reset.port.attn = Cause.retainedLost.bit ∧
  State.reset.port.attnEn = 0 ∧ readRegister State.reset 0 = 0x6141 ∧
  (∀ c : OrderChannel, (State.reset.orderRow c).current = none) ∧
  (∀ i : Fin 8, (State.reset.reportRow i).published = none ∧ (State.reset.reportRow i).held = none)

/-- The invariants hold right after reset. -/
def Obligations.InvariantsHoldAtReset : Prop :=
  MemoryInv State.reset ∧ LogInv State.reset ∧ WarnedInv State.reset ∧ ChannelInv State.reset ∧ ClutchInv State.reset ∧
  CrankInv State.reset ∧ ChargeInv State.reset ∧ ContactorInv State.reset

/-- A keep power-up brings the part to its reset state, whatever it held before: at once with RESET released, and at the
release of a RESET held across it, until which nothing runs (R19); main power applied with a failed marker is a keep power-up
too. The model's own in that state: VKEEP's level (log 9), the count of power-ups (log 5), the queue (log 2), the 0 of
the records without a stated reset value (log 14), the emptied list of messages (log 13), and that the reset waits for the
release of RESET (log 30). -/
def Obligations.KeepPowerUpGivesResetState : Prop :=
  ∀ (vkeep : Bool) (s : State),
    let reset : State := { State.reset with
      supply := { State.reset.supply with keep := vkeep },
      port := { State.reset.port with powerUps := s.port.powerUps + 1 }, pending := s.pending }
    (s.supply.resetAsserted = false → exec (.keepPowerUp vkeep) s = .next reset) ∧
    (s.supply.resetAsserted = true →
      ∃ t, exec (.keepPowerUp vkeep) s = .next t ∧ t.supply.main = true ∧ t.running = false ∧
        contactorOutputs t = (false, false, false) ∧ exec .pinReset t = .next reset) ∧
    (s.supply.markerHolds = false → exec (.mainPowerUp vkeep) s = exec (.keepPowerUp vkeep) s)

/-- A main power-up with the marker intact, and a pin reset, keep the keep store and reset everything else; a RESET held
across the power-up gives that reset, of the power-up kind, at its release (R19); a pin reset leaves the data area and writes
directory and headers at their reset contents (R18, R19, R164, R165, R167); at the end of every reset, before any entry that
it makes, the log is emptied and ATTN, ATTN_EN and LOG_TAKE read 0 (R142, R181; that R181 speaks of this moment is log 31),
and LOG_TAKE then reads 0 where the reset makes no entry and else their number (R149, R151). The model's own: the 0 of the
records without a stated reset value (log 14), the emptied list of messages (log 13), the queue (log 2) and what stands
between power-up and release (log 30). -/
def Obligations.KeptResetsKeepTheKeepStore : Prop :=
  (∀ (kind : ResetCause) (s : State),
    let ended := establish kind s
    readRegister ended 2 = 0 ∧ readRegister ended 4 = 0 ∧ readRegister ended 6 = 0 ∧ ended.log = LogRing.empty) ∧
  let emptied (s t : State) : Prop :=
    readRegister t 6 = t.log.nextSequence ∧
    (s.dsv.posFlag = false → (∀ c : Counter, (s.counter c).warned = .none) → readRegister t 6 = 0)
  (∀ (vkeep : Bool) (s : State), s.supply.resetAsserted = false → s.supply.markerHolds = true →
    ∃ t, exec (.mainPowerUp vkeep) s = .next t ∧ KeptReset .mainPowerUp s t ∧ emptied s t) ∧
  (∀ (vkeep : Bool) (s : State), s.supply.resetAsserted = true → s.supply.markerHolds = true →
    ∃ t u, exec (.mainPowerUp vkeep) s = .next t ∧ t.supply.main = true ∧ t.running = false ∧
      contactorOutputs t = (false, false, false) ∧ exec .pinReset t = .next u ∧ u.running = true ∧
      KeptReset .mainPowerUp s u ∧ emptied s u) ∧
  (∀ s : State, s.supply.main = true → s.supply.heldPowerUp = none →
    ∃ t, exec .pinReset s = .next t ∧ KeptReset .pin s t ∧ emptied s t ∧
      (∀ a : Nat, 0xD80 ≤ a → t.port.byteAt a = s.port.byteAt a) ∧
      (∀ c : Fin 16, t.port.wordsAt (dirAddr c.val 0) 4 = [0xFFFF, 0xFFFF, 0, 0]) ∧
      (∀ k : CellIndex, t.port.wordsAt (headerAddr k 0) 6 = [0x00FF, 0, 0, 0, 0, 0]))

/-- A main power-up and a pin reset: the check of the POS-closed flag (R20), then the standing warnings given afresh in
ascending counter order, with their old stamps, but for a W7 whose level that check has just raised (R140). The log then holds
exactly these entries, beginning with log sequence 0 (R142). -/
def Obligations.UncontrolledOpenAndStandingWarnings : Prop :=
  ∀ s : State, MemoryInv s →
    let r := s.counter w7
    let value := min (r.value + 1) 4294967295
    let urgentNow : Bool := decide (r.urgent ≠ 0 ∧ r.urgent ≤ value ∧ r.warned ≠ .urgent)
    let adviseNow : Bool := decide (r.advise ≠ 0 ∧ r.advise ≤ value ∧ r.warned = .none)
    let opened (t : State) : List LogEntry :=
      if s.dsv.posFlag then
        entryNow t .uncontrolledOpen none none none ::
          (if urgentNow then [entryNow t .wearUrgent (some w7) (some (value : Int)) (some r.urgent)]
          else if adviseNow then [entryNow t .wearAdvise (some w7) (some (value : Int)) (some r.advise)] else [])
      else []
    let stands (c : Counter) : Bool :=
      decide ((s.counter c).warned ≠ .none) && !(s.dsv.posFlag && decide (c = w7) && (urgentNow || adviseNow))
    let standing (t : State) (c : Counter) : LogEntry :=
      { kind := if (s.counter c).warned = .urgent then .wearUrgent else .wearAdvise, source := some c,
        value := some ((t.counter c).value : Int),
        threshold := some (if (s.counter c).warned = .urgent then (s.counter c).urgent else (s.counter c).advise),
        odometer := (s.counter c).stampOdometer, seconds := (s.counter c).stampSeconds, frame := t.exc.frameNumber }
    let entries (t : State) : List LogEntry :=
      opened t ++ (([0, 1, 2, 3, 4, 5, 6, 7, 8, 9] : List Counter).filter stands).map (standing t)
    ∀ c : Instr,
      (c = .pinReset ∧ s.supply.main = true ∧ s.supply.heldPowerUp = none) ∨
        ((∃ v, c = .mainPowerUp v) ∧ s.supply.resetAsserted = false ∧ s.supply.markerHolds = true) →
      ∃ t, exec c s = .next t ∧ t.dsv.posFlag = false ∧
        (s.dsv.posFlag = true → (t.counter w7).value = value) ∧ (s.dsv.posFlag = false → t.counter w7 = s.counter w7) ∧
        (∀ d : Counter, d ≠ w7 → t.counter d = s.counter d) ∧ t.log.occupancy = (entries t).length ∧
        (∀ (i : Nat) (e : LogEntry), (entries t)[i]? = some e →
          t.port.wordsAt (slotAddr i) 16 = e.words (BitVec.ofNat 16 i))

/-- RESET asserted: the contactors are OPEN, the clutch position command is 0, and nothing else changes. The loss of the main
supply: the contactors drop open and the POS-closed flag stays; the marker fails only when both supplies are absent together
(R2, R18, R19, R101). VKEEP's level is the command's
(log 9), and that the volatile records stay as they were until the next reset is the model's deduction (log 25). -/
def Obligations.ResetAssertedAndSupplyLosses : Prop :=
  ∀ s : State,
    exec .resetAsserted s =
      .next { s with
        supply := { s.supply with resetAsserted := true },
        dsv := { s.dsv with negClosed := false, preClosed := false, posClosed := false },
        cpl := { s.cpl with position := 0 } } ∧
    (∀ vkeep : Bool, exec (.mainSupplyLoss vkeep) s =
      .next { s with
        supply := { s.supply with
          main := false, keep := vkeep, markerHolds := s.supply.markerHolds && vkeep, heldPowerUp := none },
        dsv := { s.dsv with negClosed := false, preClosed := false, posClosed := false } }) ∧
    exec .keepSupplyLoss s =
      .next { s with supply := { s.supply with keep := false, markerHolds := s.supply.markerHolds && s.supply.main } }

/-! ## Registers and the log -/

/-- A write to ATTN clears the causes whose positions are 1, and the attention mirror follows; a write to ATTN_EN replaces the
eight enables by the low byte; a write to ID has no effect, and the value written to LOG_TAKE none either; ID reads 0x6141; an
odd offset reaches the register of its word (R181, R182, R186). -/
def Obligations.RegisterAccesses : Prop :=
  ∀ (value : Word) (s : State),
    (s.running = true →
      ∃ t, exec (.attnWrite value) s = .next t ∧ t = { s with port := t.port } ∧
        t.port.attn = s.port.attn &&& ~~~(value.setWidth 8) ∧ PortOutsideStatus [11] s t ∧
        (MemoryInv s → t.port.attn ≠ s.port.attn → t.port.wordAt (statusAddr 11) = t.port.attn.setWidth 16)) ∧
    (s.running = true →
      exec (.attnEnWrite value) s = .next { s with port := { s.port with attnEn := value.setWidth 8 } }) ∧
    exec (.registerWriteIgnored value) s = .next s ∧ exec (.logTakeWrite value) s = exec (.logTakeWrite 0) s ∧
    (statusWords s).getD 11 0 = s.port.attn.setWidth 16 ∧
    readRegister s 0 = 0x6141 ∧ readRegister s 2 = s.port.attn.setWidth 16 ∧
    readRegister s 4 = s.port.attnEn.setWidth 16 ∧
    (∀ i : Fin 4, readRegister s ⟨2 * i.val + 1, by omega⟩ = readRegister s ⟨2 * i.val, by omega⟩ ∧
      registerWrite ⟨2 * i.val + 1, by omega⟩ value = registerWrite ⟨2 * i.val, by omega⟩ value) ∧
    registerWrite 0 value = .registerWriteIgnored value ∧ registerWrite 2 value = .attnWrite value ∧
    registerWrite 4 value = .attnEnWrite value ∧ registerWrite 6 value = .logTakeWrite value

/-- LOG_TAKE frees the oldest unread entry, whatever the value written; with none it has no effect; the slot is not erased
(R149, R151). -/
def Obligations.LogTakeFreesOldest : Prop :=
  ∀ (value : Word) (s : State), s.running = true →
    (s.log.occupancy = 0 → exec (.logTakeWrite value) s = .next s) ∧
    (0 < s.log.occupancy →
      ∃ t, exec (.logTakeWrite value) s = .next t ∧
        t = { s with
          log := { s.log with readPos := (s.log.readPos + 1) % 64, occupancy := s.log.occupancy - 1 }, port := t.port } ∧
        t.port.attn = s.port.attn ∧ PortOutsideStatus [7, 8, 9, 10] s t ∧
        (MemoryInv s → t.port.wordAt (statusAddr 7) = natWord t.log.readPos ∧
          t.port.wordAt (statusAddr 9) = natWord t.log.occupancy)) ∧
    (s.log.occupancy ≤ 64 → s.log.readPos < 64 →
      readRegister s 6 = BitVec.ofNat 16 (s.log.occupancy + 256 * s.log.readPos))

/-- The append of a passing entry with room: the slot at the write position holds the whole entry, by the layout of section
11.2, the ring moves on, and WARNING_ADDED is set (R143, R146). -/
def Obligations.AppendWithRoom : Prop :=
  ∀ (e : LogEntry) (s : State), MemoryInv s → LogInv s → e.passes s.log.filter = true → s.log.occupancy < 64 →
    (logAppend false e s).log =
      { s.log with
        writePos := (s.log.writePos + 1) % 64, occupancy := s.log.occupancy + 1,
        nextSequence := s.log.nextSequence + 1 } ∧
    (logAppend false e s).port.wordsAt (slotAddr s.log.writePos) 16 = e.words s.log.nextSequence ∧
    EntryWords e s.log.nextSequence ((logAppend false e s).port.wordsAt (slotAddr s.log.writePos) 16) ∧
    (logAppend false e s).causeSet .warningAdded = true ∧ RamOutsideStatusAndLog s (logAppend false e s) ∧
    (∀ j : Nat, j < 64 → j ≠ s.log.writePos →
      (logAppend false e s).port.wordsAt (slotAddr j) 16 = s.port.wordsAt (slotAddr j) 16)

/-- An entry that has passed the filter finds the log full: it is dropped and counted; an entry that does not pass changes
nothing (R145, R147). -/
def Obligations.AppendWithLogFullOrFiltered : Prop :=
  ∀ (e : LogEntry) (s : State),
    (e.passes s.log.filter = true ↔
      s.log.filter.mask.getLsbD e.kind.number = true ∧ s.log.filter.minimum.code ≤ e.kind.severity.code) ∧
    (e.passes s.log.filter = false → ∀ q : Bool, logAppend q e s = s) ∧
    (e.passes s.log.filter = true → s.log.occupancy = 64 →
      (logAppend false e s).log = { s.log with drops := min (s.log.drops + 1) 65535 } ∧
      (logAppend false e s).causeSet .logFull = true ∧
      (∀ j : Nat, j < 64 → (logAppend false e s).port.wordsAt (slotAddr j) 16 = s.port.wordsAt (slotAddr j) 16))

/-! ## Wear counters -/

/-- The threshold check of one counter (R130, R131). -/
def Obligations.ThresholdCheckGivesEachLevelOnce : Prop :=
  ∀ (c : Counter) (s : State),
    let r := s.counter c
    let t := thresholdCheck false c s
    (∀ d : Counter, d ≠ c → t.counter d = s.counter d) ∧ (t.counter c).value = r.value ∧
    (r.urgent ≠ 0 ∧ r.urgent ≤ r.value ∧ r.warned ≠ .urgent →
      t.counter c = { r with warned := .urgent, stampOdometer := s.sns.odometer, stampSeconds := s.dsv.operatingSeconds } ∧
      t.log = s.log.afterAppend (entryNow s .wearUrgent (some c) (some (r.value : Int)) (some r.urgent))) ∧
    (¬(r.urgent ≠ 0 ∧ r.urgent ≤ r.value ∧ r.warned ≠ .urgent) → r.advise ≠ 0 ∧ r.advise ≤ r.value ∧ r.warned = .none →
      t.counter c = { r with warned := .advise, stampOdometer := s.sns.odometer, stampSeconds := s.dsv.operatingSeconds } ∧
      t.log = s.log.afterAppend (entryNow s .wearAdvise (some c) (some (r.value : Int)) (some r.advise))) ∧
    (¬(r.urgent ≠ 0 ∧ r.urgent ≤ r.value ∧ r.warned ≠ .urgent) →
      ¬(r.advise ≠ 0 ∧ r.advise ≤ r.value ∧ r.warned = .none) → t = s)

/-- No command but a keep power-up and a sweep lowers a wear counter (R127). -/
def Obligations.WearCountersNeverDecrease : Prop :=
  ∀ (c : Instr) (s t : State) (w : Counter), exec c s = .next t → (s.counter w).value ≤ 4294967295 →
    (∀ v, c ≠ .keepPowerUp v) → (∀ v, c = .mainPowerUp v → s.supply.markerHolds = true) →
    (c = .pinReset → s.supply.heldPowerUp ≠ some .keepPowerUp) → (∀ ws ls, c ≠ .intakeSweep ws ls) →
    (s.counter w).value ≤ (t.counter w).value

/-! ## Fault table -/

/-- A raising: ACTIVE, the count, the stamps; no other record changes; the change is notified (R154, R160). -/
def Obligations.RaisingChangesTheRecord : Prop :=
  ∀ (k : FaultKind) (s : State),
    let r := s.faults.record k
    let t := raiseFault k s
    t.faults.record k =
      { state := .active, count := min (r.count + 1) 255,
        first := if r.count = 0 then some s.dsv.operatingSeconds else r.first, last := some s.dsv.operatingSeconds } ∧
    (∀ j : FaultKind, j ≠ k → t.faults.record j = s.faults.record j) ∧ t.faults.cursor = s.faults.cursor ∧
    t.causeSet .faultChange = true ∧ (t.reportRow 4).changePending = true

/-- A clearing report: an ACTIVE record becomes LATCHED, and any other is left with no effect at all (R155, R160). -/
def Obligations.ClearingLatchesAnActiveRecord : Prop :=
  ∀ (k : FaultKind) (s : State),
    ((s.faults.record k).state ≠ .active → clearFault k s = s) ∧
    ((s.faults.record k).state = .active →
      (clearFault k s).faults.record k = { s.faults.record k with state := .latched } ∧
      (∀ j : FaultKind, j ≠ k → (clearFault k s).faults.record j = s.faults.record j) ∧
      (clearFault k s).causeSet .faultChange = true ∧ ((clearFault k s).reportRow 4).changePending = true)

/-- The highest active class is the class of some ACTIVE record, at least that of every ACTIVE record, and INFO when none is
ACTIVE (R159). -/
def Obligations.HighestActiveClass : Prop :=
  ∀ t : FaultTable,
    (∀ k : FaultKind, t.isActive k = true → k.reactionClass.rank ≤ t.highest.rank) ∧
    (t.highest ≠ .info → ∃ k : FaultKind, t.isActive k = true ∧ k.reactionClass = t.highest)

/-! ## Driveline supervisor -/

/-- DSV's second timer: the operating seconds rise by one except in STANDBY, and saturate (R17). -/
def Obligations.OperatingSecondsCount : Prop :=
  ∀ s : State, s.running = true →
    exec .dsvSecondTimer s =
      .next { s with
        dsv := { s.dsv with
          operatingSeconds :=
            if s.dsv.state = .standby then s.dsv.operatingSeconds else min (s.dsv.operatingSeconds + 1) 4294967295 } }

/-- The settle timer expires: PRE opens and the driveline enters READY; from READY it goes on to DRIVE or LIMP in the same
event where R8 says so, and the first entry to DRIVE closes the reseed window (R1, R5, R8, R132). Of the attention causes only
STATE_CHANGE is set. -/
def Obligations.SettleExpiryEntersReady : Prop :=
  ∀ s : State, s.running = true → s.dsv.settleTimer.isSome = true → s.dsv.state = .precharge →
    let go : Bool := decide (s.spl.demand.direction ≠ .neutral) && !s.faults.isActive .configMissing
    let final : DrivelineState :=
      if go && decide (s.faults.highest.rank < 2) then .drive
      else if go && decide (s.faults.highest.rank = 2) then .limp else .ready
    let closes : Bool := decide (final = .drive) && s.wear.windowOpen
    ∃ t, exec .settleTimerExpiry s = .next t ∧
      t = { s with
        dsv := { s.dsv with
          settleTimer := none, preClosed := false, state := final, keepStoreValid := s.dsv.keepStoreValid || closes },
        wear := { s.wear with windowOpen := s.wear.windowOpen && !closes }, port := t.port } ∧
      t.port.attn = s.port.attn ||| Cause.stateChange.bit ∧ PortOutsideStatus [1, 4, 5, 11] s t ∧
      (MemoryInv s → t.port.wordAt (statusAddr 1) = natWord final.code ∧
        (t.port.attn ≠ s.port.attn → t.port.wordAt (statusAddr 11) = t.port.attn.setWidth 16))

/-- The precharge timer expires (R6). -/
def Obligations.PrechargeTimeoutReturnsToStandby : Prop :=
  ∀ s : State, s.running = true → ContactorInv s → LogInv s → s.dsv.prechargeTimer.isSome = true →
    ∃ t, exec .prechargeTimeout s = .next t ∧
      t.dsv = { s.dsv with
        state := .standby, stopCause := .none, prechargeTimer := none, cooldownTimer := some 10000, negClosed := false,
        preClosed := false } ∧
      t.faults.record .prechargeTimeout =
        { (s.faults.record .prechargeTimeout).raise s.dsv.operatingSeconds with state := .latched } ∧
      (∀ k : FaultKind, k ≠ .prechargeTimeout → t.faults.record k = s.faults.record k) ∧
      t.log = s.log.afterAppend (entryNow s .prechargeTimeout none
        (if s.dsv.inverterSincePrecharge then some (s.sns.linkVoltage : Int) else none) none) ∧
      t = { s with dsv := t.dsv, faults := t.faults, log := t.log, exc := t.exc, port := t.port } ∧
      (t.reportRow 4).changePending = true ∧ t.causeSet .faultChange = true ∧
      t.causeSet .stateChange = true ∧ EventFrame s t

/-- The cooldown timer expires in STANDBY: PRECHARGE begins when the key is ON and the class is below SAFE_STOP (R4). Of the
attention causes only STATE_CHANGE is set. -/
def Obligations.CooldownExpiryRetriesPrecharge : Prop :=
  ∀ s : State, s.running = true → s.dsv.state = .standby → s.dsv.cooldownTimer.isSome = true →
    (s.dsv.mode.keyOn = true ∧ s.faults.highest.rank < 3 →
      ∃ t, exec .cooldownTimerExpiry s = .next t ∧
        t = { s with
          dsv := { s.dsv with
            cooldownTimer := none, state := .precharge, negClosed := true, preClosed := true, prechargeTimer := some 3000,
            inverterSincePrecharge := false },
          port := t.port } ∧
        t.port.attn = s.port.attn ||| Cause.stateChange.bit ∧ PortOutsideStatus [1, 11] s t ∧
        (MemoryInv s → t.port.wordAt (statusAddr 1) = natWord DrivelineState.precharge.code ∧
          (t.port.attn ≠ s.port.attn → t.port.wordAt (statusAddr 11) = t.port.attn.setWidth 16))) ∧
    (¬(s.dsv.mode.keyOn = true ∧ s.faults.highest.rank < 3) →
      exec .cooldownTimerExpiry s = .next { s with dsv := { s.dsv with cooldownTimer := none } })

/-- The power-down timer expires: POS, then NEG opens; STANDBY after a key OFF, FAULTED after a fault; a hot opening is
logged and counted, and after a fault SHUTDOWN is logged with its kind (R3, R11). -/
def Obligations.PowerDownExpiryOpens : Prop :=
  ∀ s : State, s.running = true → ContactorInv s → LogInv s → s.dsv.powerDownTimer.isSome = true →
    s.dsv.posClosed = true →
    ∃ t, exec .powerDownTimerExpiry s = .next t ∧ t.dsv.posClosed = false ∧ t.dsv.posFlag = false ∧
      t.dsv.powerDownTimer = none ∧
      (∀ k, s.dsv.stopCause = .fault k →
        t.dsv.state = .faulted ∧ t.dsv.stopCause = .fault k ∧ t.dsv.negClosed = false) ∧
      (s.dsv.stopCause = .keyOff → s.dsv.mode.keyOn = false →
        t.dsv.state = .standby ∧ t.dsv.stopCause = .none ∧ t.dsv.negClosed = false) ∧
      (s.sns.packLink.up = true → s.ena.current.natAbs ≤ 500 → t.wear = s.wear) ∧
      (s.sns.packLink.up = false ∨ 500 < s.ena.current.natAbs →
        (t.counter w7).value = min ((s.counter w7).value + 1) 4294967295 ∧
        ∀ c : Counter, c ≠ w7 → t.counter c = s.counter c) ∧
      t.log = shutdownLog s s.dsv.stopCause (openingLog s) ∧
      t = { s with dsv := t.dsv, wear := t.wear, log := t.log, port := t.port } ∧ t.causeSet .stateChange = true ∧
      EventFrame s t

/-- The safe-stop timer expires: POWER_DOWN, with the power-down timer at 500 ms (R10, R11). Of the attention causes only
STATE_CHANGE is set. -/
def Obligations.SafeStopExpiryEntersPowerDown : Prop :=
  ∀ s : State, s.running = true → s.dsv.state = .safeStop → s.dsv.safeStopTimer.isSome = true →
    ∃ t, exec .safeStopTimerExpiry s = .next t ∧
      t = { s with
        dsv := { s.dsv with state := .powerDown, safeStopTimer := none, powerDownTimer := some 500 }, port := t.port } ∧
      t.port.attn = s.port.attn ||| Cause.stateChange.bit ∧ PortOutsideStatus [1, 11] s t ∧
      (MemoryInv s → t.port.wordAt (statusAddr 1) = natWord DrivelineState.powerDown.code ∧
        (t.port.attn ≠ s.port.attn → t.port.wordAt (statusAddr 11) = t.port.attn.setWidth 16))

/-- A link monitor expires: the link is LOST, its monitor stopped and its fault raised; the pack link's loss sets the limits
and the rest timer to 0 (R21, R43). The drive link's loss is SHUTDOWN class: all contactors open at once, an opening of POS
judged, every timer stops, SHUTDOWN is logged, FAULTED; in STANDBY and FAULTED the driveline is left as it is (R3, R12, R13).
The pack link's loss is SAFE_STOP class: PRECHARGE is aborted, READY enters POWER_DOWN, DRIVE and LIMP enter SAFE_STOP, or at
rest POWER_DOWN, and a stop by key OFF becomes one by fault (R7 to R11). The loss of the engine or the brake link is LIMP
class: DRIVE enters LIMP, and PRECHARGE, LIMP, SAFE_STOP, POWER_DOWN and FAULTED stay (R7, R9, R10). -/
def Obligations.LinkLossRaisesItsFault : Prop :=
  ∀ (link : LinkId) (s : State), s.running = true → LogInv s → (s.sns.link link).monitor.isSome = true →
    ∃ t, exec (.linkMonitorExpiry link) s = .next t ∧
      t.sns = s.sns.setLink link { s.sns.link link with up := false, monitor := none } ∧
      t.ena =
        (if link = .pack then { s.ena with iDis := 0, iChg := 0, pDis := 0, pChg := 0, restTimer := 0 } else s.ena) ∧
      t.faults.record (linkFault link) = (s.faults.record (linkFault link)).raise s.dsv.operatingSeconds ∧
      (∀ k : FaultKind, k ≠ linkFault link → t.faults.record k = s.faults.record k) ∧
      t = { s with
        sns := t.sns, ena := t.ena, dsv := t.dsv, faults := t.faults, wear := t.wear, log := t.log, exc := t.exc,
        port := t.port } ∧
      t.causeSet .faultChange = true ∧ (t.reportRow 4).changePending = true ∧ EventFrame s t ∧
      (link = .drive → s.faults.highest ≠ .shutdown →
        (s.dsv.state ≠ .standby → s.dsv.state ≠ .faulted →
          t.dsv.state = .faulted ∧ t.dsv.stopCause = .fault .inverterLinkLost ∧
          contactorOutputs t = (false, false, false) ∧ t.dsv.prechargeTimer = none ∧ t.dsv.settleTimer = none ∧
          t.dsv.cooldownTimer = none ∧ t.dsv.powerDownTimer = none ∧ t.dsv.safeStopTimer = none ∧
          t.log =
            shutdownLog s (.fault .inverterLinkLost) (if s.dsv.posClosed then openingLog s else s.log) ∧
          (t.counter w7).value =
            (if s.dsv.posClosed = true ∧ (s.sns.packLink.up = false ∨ 500 < s.ena.current.natAbs) then
              min ((s.counter w7).value + 1) 4294967295
            else (s.counter w7).value) ∧
          ∀ c : Counter, c ≠ w7 → t.counter c = s.counter c) ∧
        (s.dsv.state = .standby ∨ s.dsv.state = .faulted →
          t.dsv = s.dsv ∧ t.log = s.log ∧ t.wear = s.wear)) ∧
      (link = .pack → s.faults.highest.rank < 3 →
        (s.dsv.state = .precharge →
          t.dsv.state = .standby ∧ t.dsv.stopCause = .none ∧ contactorOutputs t = (false, false, false) ∧
          t.dsv.prechargeTimer = none ∧ t.dsv.settleTimer = none ∧ t.dsv.cooldownTimer = s.dsv.cooldownTimer) ∧
        (s.dsv.state = .ready →
          t.dsv = { s.dsv with
            state := .powerDown, stopCause := .fault .packLinkLost, safeStopTimer := none, powerDownTimer := some 500 }) ∧
        (s.dsv.state = .drive ∨ s.dsv.state = .limp →
          t.dsv =
            (if s.sns.roadSpeed < 10 then
              { s.dsv with
                state := .powerDown, stopCause := .fault .packLinkLost, safeStopTimer := none, powerDownTimer := some 500 }
            else { s.dsv with state := .safeStop, stopCause := .fault .packLinkLost, safeStopTimer := some 30000 }) ∧
          t.log = s.log.afterAppend
            (entryNow s .safeStopEntered none (some (FaultKind.packLinkLost.number.val : Int)) none))) ∧
      (link = .pack → (s.dsv.state = .safeStop ∧ 10 ≤ s.sns.roadSpeed) ∨ s.dsv.state = .powerDown →
        t.dsv =
          (if s.dsv.stopCause = .keyOff then { s.dsv with stopCause := .fault .packLinkLost } else s.dsv) ∧
        t.log =
          (if s.dsv.stopCause = .keyOff ∧ s.dsv.state = .safeStop then
            s.log.afterAppend (entryNow s .safeStopEntered none (some (FaultKind.packLinkLost.number.val : Int)) none)
          else s.log)) ∧
      (link = .engine ∨ link = .brake →
        (s.dsv.state = .drive → s.faults.highest.rank ≤ 2 → t.dsv = { s.dsv with state := .limp }) ∧
        (s.dsv.state = .precharge ∨ s.dsv.state = .limp ∨ (s.dsv.state = .safeStop ∧ 10 ≤ s.sns.roadSpeed) ∨
          s.dsv.state = .powerDown ∨ s.dsv.state = .faulted → t.dsv = s.dsv))

/-! ## Field messages and wheels -/

/-- INVERTER_STATUS: the fields saturate into their ranges, the road speed and the odometer follow, the link is UP (R21, R22,
R24, R30, R31). DSV tests the new road speed: below 1.0 km/h SAFE_STOP ends in POWER_DOWN and DRIVE in NEUTRAL in READY (R9,
R10). The arrival that ends a loss turns an ACTIVE INVERTER_LINK_LOST LATCHED, after which STANDBY with the key ON begins a
precharge where nothing bars it (R4, R21, R155). Where nothing clears, a state whose causes do not hold stays. The clause for
STANDBY with the key ON is the model's own in two points: that the arrival which itself brings PRECHARGE does not count as one
since PRECHARGE was entered, so POS stays OPEN and the precharge timer runs, is log 16; that the clearing is tested before the
message's values are taken in is log 32. -/
def Obligations.InverterStatusUpdatesSpeeds : Prop :=
  ∀ (s : State) (speed voltage motor generator : Int), s.running = true → LogInv s →
    let n := (clamp speed (-12000) 12000).natAbs
    let road := min (n * s.sns.circ * 6 / (s.dsv.limits.ratio100 * 100)) 65535
    let total := s.sns.odometerRemainder + road
    let clears : Bool :=
      !s.sns.driveLink.up && s.sns.driveLink.seen && s.faults.isActive .inverterLinkLost
    ∃ t, exec (.inverterStatus true speed voltage motor generator) s = .next t ∧
      t.sns = { s.sns with
        driveLink := { up := true, seen := true, monitor := some 50 }, shaftSpeed := clamp speed (-12000) 12000,
        linkVoltage := (clamp voltage 0 10000).toNat, motorLimit := (clamp motor 0 4000).toNat,
        generatorLimit := (clamp generator 0 4000).toNat, roadSpeed := road,
        odometerRemainder := if 360000 ≤ total then total - 360000 else total,
        odometer := if 360000 ≤ total then min (s.sns.odometer + 1) 4294967295 else s.sns.odometer } ∧
      t = { s with
        sns := t.sns, dsv := t.dsv, faults := t.faults, wear := { s.wear with windowOpen := t.wear.windowOpen },
        exc := t.exc, port := t.port } ∧
      (∀ k : FaultKind, k ≠ .inverterLinkLost → t.faults.record k = s.faults.record k) ∧
      t.faults.record .inverterLinkLost =
        (if clears then { s.faults.record .inverterLinkLost with state := .latched }
        else s.faults.record .inverterLinkLost) ∧
      (s.dsv.prechargeTimer = none →
        (s.dsv.state = .safeStop → road < 10 →
          t.dsv = { s.dsv with state := .powerDown, safeStopTimer := none, powerDownTimer := some 500 }) ∧
        (clears = false → DriveFollows s t) ∧
        (clears = false → s.dsv.state = .safeStop → 10 ≤ road → t.dsv = s.dsv) ∧
        (clears = false → s.dsv.state = .limp → 2 ≤ s.faults.highest.rank ∨ 0 < s.spl.demand.accelerator → t.dsv = s.dsv) ∧
        (clears = false → s.dsv.state = .ready →
          s.spl.demand.direction = .neutral ∨ s.faults.isActive .configMissing = true ∨ 3 ≤ s.faults.highest.rank →
          t.dsv = s.dsv) ∧
        (s.dsv.state = .powerDown ∨ s.dsv.state = .faulted → t.dsv = s.dsv) ∧
        (s.dsv.state = .standby → s.dsv.mode.keyOn = true → s.dsv.cooldownTimer = none → clears = true →
          t.faults.highest.rank < 3 →
          t.dsv = { s.dsv with
            state := .precharge, negClosed := true, preClosed := true, prechargeTimer := some 3000,
            inverterSincePrecharge := false })) ∧
      EventFrame s t

/-- The voltage condition in PRECHARGE with both links up, at an INVERTER_STATUS and at an integrating PACK_SAMPLE that does
not reach the absolute maximum temperature: from 95 % of the pack voltage POS closes, its flag is set, the precharge timer
stops and the settle timer starts, at 500 ms with a minimum cell temperature of 0 °C or lower, else at 100 ms; below it none
of this happens (R5). That the pack voltage and temperature are those ENA took in is log 17. -/
def Obligations.VoltageConditionClosesPos : Prop :=
  ∀ (s : State), s.running = true → s.dsv.state = .precharge → s.dsv.prechargeTimer.isSome = true →
    s.sns.packLink.up = true →
    let closed (d : Dsv) (minTemp : Int) : Dsv :=
      { d with
        prechargeTimer := none, posClosed := true, posFlag := true,
        settleTimer := some (if minTemp ≤ 0 then 500 else 100) }
    (∀ speed voltage motor generator : Int,
      let arrived : Dsv := { s.dsv with inverterSincePrecharge := true }
      ∃ t, exec (.inverterStatus true speed voltage motor generator) s = .next t ∧
        t.dsv =
          (if s.ena.voltage * 950 ≤ (clamp voltage 0 10000).toNat * 1000 then closed arrived s.ena.minTemp
          else arrived)) ∧
    (∀ (count last : Byte) (current voltage lo hi : Int) (elapsed : Nat), s.sns.driveLink.up = true →
      s.ena.lastCount = some last → count ≠ last →
      max (clamp lo (-40) 125) (clamp hi (-40) 125) < (s.dsv.limits.packAbsMax : Int) →
      ∃ t, exec (.packSample true count current voltage lo hi elapsed) s = .next t ∧
        t.dsv =
          (if s.dsv.inverterSincePrecharge = true ∧
              (clamp voltage 0 10000).toNat * 950 ≤ s.sns.linkVoltage * 1000 then
            closed s.dsv (min (clamp lo (-40) 125) (clamp hi (-40) 125))
          else s.dsv))

/-- ENGINE_STATUS and BRAKE_STATUS: the fields saturate into their ranges, and the link is UP; the arrival that ends a loss
turns the link's ACTIVE record LATCHED and no other record changes, and LIMP is left when the highest class falls below it,
READY where the bus may now move off (R8, R9, R21, R22, R26, R28, R155). -/
def Obligations.EngineAndBrakeStatusTakenIn : Prop :=
  ∀ (s : State) (speed torque : Int) (runningFlag available abs : Bool), s.running = true → LogInv s →
    (∃ t, exec (.engineStatus true speed torque runningFlag) s = .next t ∧
      t.sns = { s.sns with
        engineLink := { up := true, seen := true, monitor := some 50 }, engineSpeed := (clamp speed 0 4000).toNat,
        engineTorque := clamp torque (-500) 2000, engineRunning := runningFlag } ∧
      t = { s with
        sns := t.sns, dsv := t.dsv, faults := t.faults, wear := { s.wear with windowOpen := t.wear.windowOpen },
        exc := t.exc, port := t.port } ∧
      (∀ k : FaultKind, k ≠ .engineLinkLost → t.faults.record k = s.faults.record k) ∧
      (s.sns.engineLink.up = false → s.sns.engineLink.seen = true → s.faults.isActive .engineLinkLost = true →
        t.faults.record .engineLinkLost = { s.faults.record .engineLinkLost with state := .latched } ∧ LimpFollows s t ∧
          ReadyFollows s t) ∧
      (s.sns.engineLink.up = true → t.faults = s.faults ∧ t.dsv = s.dsv) ∧
      EventFrame s t) ∧
    (∃ t, exec (.brakeStatus true available abs) s = .next t ∧
      t.sns = { s.sns with
        brakeLink := { up := true, seen := true, monitor := some 50 }, brakeAvailable := available, absActive := abs } ∧
      t = { s with
        sns := t.sns, dsv := t.dsv, faults := t.faults, wear := { s.wear with windowOpen := t.wear.windowOpen },
        exc := t.exc, port := t.port } ∧
      (∀ k : FaultKind, k ≠ .brakeLinkLost → t.faults.record k = s.faults.record k) ∧
      (s.sns.brakeLink.up = false → s.sns.brakeLink.seen = true → s.faults.isActive .brakeLinkLost = true →
        t.faults.record .brakeLinkLost = { s.faults.record .brakeLinkLost with state := .latched } ∧ LimpFollows s t ∧
          ReadyFollows s t) ∧
      (s.sns.brakeLink.up = true → t.faults = s.faults ∧ t.dsv = s.dsv) ∧
      EventFrame s t)

/-- A PACK_SAMPLE on an UP pack link. One that repeats the last count is discarded by ENA whole. Any other integrates: the
compensated current, the charge content, the throughput and session counts, the rest timer, PACK_OVERTEMP, the limits, the
last count and, in POWER_DOWN, the end of the wait (R11, R29, R39 to R42, R46, R49, R51, R53, R55, R56). -/
def Obligations.IntegratingSampleMovesCharge : Prop :=
  ∀ (s : State) (count last : Byte) (current voltage lo hi : Int) (elapsed : Nat), s.running = true → LogInv s →
    s.sns.packLink.up = true → s.ena.lastCount = some last →
    let i := roundHalfAway ((clamp current (-10000) 10000 - s.ena.offset) * (1000000 + s.ena.gain)) 1000000
    let e := (count - last).toNat
    let v := (clamp voltage 0 10000).toNat
    let moved := i.natAbs * e
    let units := i.natAbs * v * e
    let discharged := s.ena.dischargeRemainder + moved
    let charged := s.ena.chargeRemainder + moved
    let braking : Bool := decide (0 < s.spl.demand.brake)
    ∃ t, exec (.packSample true count current voltage lo hi elapsed) s = .next t ∧
      t.sns = { s.sns with
        packLink := { up := true, seen := true, monitor := some 20 }, packCount := count,
        packCurrent := clamp current (-10000) 10000, packVoltage := v,
        packMinTemp := min (clamp lo (-40) 125) (clamp hi (-40) 125),
        packMaxTemp := max (clamp lo (-40) 125) (clamp hi (-40) 125) } ∧
      t = { s with
        sns := t.sns, ena := t.ena, dsv := t.dsv, faults := t.faults, wear := t.wear, log := t.log, exc := t.exc,
        port := t.port } ∧
      EventFrame s t ∧
      (count = last →
        t.ena = s.ena ∧ t.faults = s.faults ∧ t.log = s.log ∧ t.wear.counters = s.wear.counters ∧ t.exc = s.exc) ∧
      (count ≠ last →
        t.ena.current = i ∧
        t.ena.charge = (clamp ((s.ena.charge : Int) - i * (e : Int)) 0 (s.ena.capacity * 3600000 : Nat)).toNat ∧
        t.ena.soc = t.ena.charge * 10000 / (s.ena.capacity * 3600000) ∧ t.ena.lastCount = some count ∧ t.ena.voltage = v ∧
        t.ena.minTemp = min (clamp lo (-40) 125) (clamp hi (-40) 125) ∧
        t.ena.maxTemp = max (clamp lo (-40) 125) (clamp hi (-40) 125) ∧
        t.ena.restTimer = (if 20 < i.natAbs then 0 else s.ena.restTimer) ∧
        LimitsFollow s t ∧ OvertempFollows s t s.dsv.limits.packAbsMax t.ena.maxTemp ∧
        (∀ k : FaultKind, k ≠ .packOvertemp → t.faults.record k = s.faults.record k) ∧ PowerDownEnds s t i t.ena.maxTemp ∧
        t.ena.dischargeRemainder =
          (if 0 < i then (if 3600000 ≤ discharged then discharged - 3600000 else discharged)
          else s.ena.dischargeRemainder) ∧
        t.ena.chargeRemainder =
          (if i < 0 then (if 3600000 ≤ charged then charged - 3600000 else charged) else s.ena.chargeRemainder) ∧
        (t.counter w5).value =
          (if 0 < i ∧ 3600000 ≤ discharged then min ((s.counter w5).value + 1) 4294967295 else (s.counter w5).value) ∧
        (t.counter w6).value =
          (if i < 0 ∧ 3600000 ≤ charged then min ((s.counter w6).value + 1) 4294967295 else (s.counter w6).value) ∧
        (∀ c : Counter, c ≠ w5 → c ≠ w6 → c ≠ w7 → t.counter c = s.counter c) ∧
        (0 < i →
          t.ena.spentRemainder = (s.ena.spentRemainder + units) % 100000000 ∧
          t.ena.spentEnergy = min (s.ena.spentEnergy + (s.ena.spentRemainder + units) / 100000000) 4294967295) ∧
        (¬0 < i → t.ena.spentRemainder = s.ena.spentRemainder ∧ t.ena.spentEnergy = s.ena.spentEnergy) ∧
        (i < 0 ∧ braking = true →
          t.ena.recoveredRemainder = (s.ena.recoveredRemainder + units) % 100000000 ∧
          t.ena.recoveredEnergy =
            min (s.ena.recoveredEnergy + (s.ena.recoveredRemainder + units) / 100000000) 4294967295) ∧
        (¬(i < 0 ∧ braking = true) →
          t.ena.recoveredRemainder = s.ena.recoveredRemainder ∧ t.ena.recoveredEnergy = s.ena.recoveredEnergy) ∧
        t.ena.unaccounted = s.ena.unaccounted ∧ t.ena.capacity = s.ena.capacity ∧ t.ena.socValid = s.ena.socValid ∧
        t.ena.offset = s.ena.offset ∧ t.ena.gain = s.ena.gain ∧ t.ena.table = s.ena.table)

/-- The first PACK_SAMPLE after a loss, and the first after a reset, resynchronise: nothing is integrated or counted; after a
loss the outage is unaccounted time and an ACTIVE PACK_LINK_LOST becomes LATCHED, after a reset the outage is 0; the sample is
otherwise taken in full: current, rest timer, PACK_OVERTEMP, limits, and in POWER_DOWN the end of the wait (R11, R21, R29,
R39, R40, R43, R46, R51, R53, R55, R56). -/
def Obligations.ResynchronisingSampleIsUnaccounted : Prop :=
  ∀ (s : State) (count : Byte) (current voltage lo hi : Int) (elapsed : Nat), s.running = true → LogInv s →
    s.sns.packLink.up = false →
    let i := roundHalfAway ((clamp current (-10000) 10000 - s.ena.offset) * (1000000 + s.ena.gain)) 1000000
    let outage := if s.sns.packLink.seen then min elapsed 65535 else 0
    ∃ t, exec (.packSample true count current voltage lo hi elapsed) s = .next t ∧ t.ena.charge = s.ena.charge ∧
      t.ena.unaccounted = min (s.ena.unaccounted + outage) 65535 ∧ t.ena.lastCount = some count ∧
      t.ena.current = i ∧ t.ena.voltage = (clamp voltage 0 10000).toNat ∧
      t.ena.minTemp = min (clamp lo (-40) 125) (clamp hi (-40) 125) ∧
      t.ena.maxTemp = max (clamp lo (-40) 125) (clamp hi (-40) 125) ∧
      t.ena.restTimer = (if 20 < i.natAbs then 0 else s.ena.restTimer) ∧
      t.ena.dischargeRemainder = s.ena.dischargeRemainder ∧ t.ena.chargeRemainder = s.ena.chargeRemainder ∧
      t.ena.spentRemainder = s.ena.spentRemainder ∧ t.ena.spentEnergy = s.ena.spentEnergy ∧
      t.ena.recoveredRemainder = s.ena.recoveredRemainder ∧ t.ena.recoveredEnergy = s.ena.recoveredEnergy ∧
      (∀ c : Counter, c ≠ w7 → t.counter c = s.counter c) ∧
      t.sns = { s.sns with
        packLink := { up := true, seen := true, monitor := some 20 }, packCount := count,
        packCurrent := clamp current (-10000) 10000, packVoltage := t.ena.voltage, packMinTemp := t.ena.minTemp,
        packMaxTemp := t.ena.maxTemp } ∧
      t.faults.record .packLinkLost =
        (if s.sns.packLink.seen = true ∧ s.faults.isActive .packLinkLost = true then
          { s.faults.record .packLinkLost with state := .latched }
        else s.faults.record .packLinkLost) ∧
      LimitsFollow s t ∧ OvertempFollows s t s.dsv.limits.packAbsMax t.ena.maxTemp ∧
      (∀ k : FaultKind, k ≠ .packLinkLost → k ≠ .packOvertemp → t.faults.record k = s.faults.record k) ∧
      PowerDownEnds s t i t.ena.maxTemp ∧
      t = { s with
        sns := t.sns, ena := t.ena, dsv := t.dsv, faults := t.faults, wear := t.wear, log := t.log, exc := t.exc,
        port := t.port } ∧
      EventFrame s t

/-- ENA's second timer: the rest timer rises while the pack link is UP, and a hot second adds one to W9 (R46, R54). -/
def Obligations.EnaSecondCountsRestAndHotTime : Prop :=
  ∀ s : State, s.running = true → LogInv s →
    ∃ t, exec .enaSecondTimer s = .next t ∧
      t.ena = { s.ena with
        restTimer := if s.sns.packLink.up then min (s.ena.restTimer + 1) 65535 else s.ena.restTimer } ∧
      t = { s with ena := t.ena, wear := t.wear, log := t.log, port := t.port } ∧
      (∀ c : Counter, c ≠ w9 → t.counter c = s.counter c) ∧
      (s.sns.packLink.up = true ∧ (s.dsv.limits.packHot : Int) ≤ s.ena.maxTemp →
        (t.counter w9).value = min ((s.counter w9).value + 1) 4294967295) ∧
      (¬(s.sns.packLink.up = true ∧ (s.dsv.limits.packHot : Int) ≤ s.ena.maxTemp) →
        t.wear = s.wear ∧ t.log = s.log ∧ t.port = s.port) ∧
      EventFrame s t

/-- A rising edge: the period, the speed, the validity, the derived axle speeds, the sensor-fault flags and WHEEL_SENSOR (R32
to R35). That a capture below the previous one with an overflow count of 0, which no timer gives, has the period 1 is log 23.
-/
def Obligations.WheelEdgeFormsSpeed : Prop :=
  ∀ (s : State) (w : WheelId) (capture : Word), s.running = true → LogInv s →
    let x := s.sns.wheel (wheelNumber w)
    let period := max 1 (capture.toNat + 65536 * x.overflow - x.previous.toNat)
    ∃ t, exec (.wheelEdge w capture) s = .next t ∧
      (t.sns.wheel (wheelNumber w)).previous = capture ∧ (t.sns.wheel (wheelNumber w)).havePrevious = true ∧
      (t.sns.wheel (wheelNumber w)).overflow = 0 ∧ (t.sns.wheel (wheelNumber w)).silent = false ∧
      (x.havePrevious = false →
        (t.sns.wheel (wheelNumber w)).speed = x.speed ∧ (t.sns.wheel (wheelNumber w)).valid = x.valid ∧
        (t.sns.wheel (wheelNumber w)).sensorFault = x.sensorFault) ∧
      (x.havePrevious = true → x.overflow < 2 →
        (t.sns.wheel (wheelNumber w)).speed = min (s.sns.toothConstant / period) 65535 ∧
        (t.sns.wheel (wheelNumber w)).valid = true ∧ (t.sns.wheel (wheelNumber w)).sensorFault = false) ∧
      (x.havePrevious = true → 2 ≤ x.overflow →
        (t.sns.wheel (wheelNumber w)).speed = 0 ∧ (t.sns.wheel (wheelNumber w)).valid = false ∧
        (t.sns.wheel (wheelNumber w)).sensorFault = x.sensorFault) ∧
      SensorFlagsFollow s t w ∧
      AxleSpeedsFollow t.sns ∧
      t = { s with
        sns := { s.sns with wheels := t.sns.wheels, vRef := t.sns.vRef, v3 := t.sns.v3 }, dsv := t.dsv,
        faults := t.faults, wear := { s.wear with windowOpen := t.wear.windowOpen }, exc := t.exc, port := t.port } ∧
      EventFrame s t

/-- A wrap of a wheel's timer, with the stop rule, v_ref and v3 and the test of the other silent wheels where the stop changed
the wheel (R32 to R35); a wheel's silence timer at 500 ms, with the sensor test (R35). That an expiry which finds the wheel
already silent has no effect is log 8. -/
def Obligations.WheelWrapAndSilence : Prop :=
  ∀ (s : State) (w : WheelId), s.running = true → LogInv s →
    let x := s.sns.wheel (wheelNumber w)
    (∃ t, exec (.wheelTimerWrap w) s = .next t ∧
      t.sns.wheel (wheelNumber w) =
        { x with
          timer := 0, overflow := min (x.overflow + 1) 2, speed := if x.overflow = 1 then 0 else x.speed,
          valid := if x.overflow = 1 then false else x.valid } ∧
      SensorFlagsFollow s t w ∧
      AxleSpeedsFollow t.sns ∧
      t = { s with
        sns := { s.sns with wheels := t.sns.wheels, vRef := t.sns.vRef, v3 := t.sns.v3 }, dsv := t.dsv,
        faults := t.faults, wear := { s.wear with windowOpen := t.wear.windowOpen }, exc := t.exc, port := t.port } ∧
      EventFrame s t) ∧
    (∃ t, exec (.silenceTimerExpiry w) s = .next t ∧ (x.silent = true → t = s) ∧
      (x.silent = false →
        t.sns.wheel (wheelNumber w) =
          { x with silent := true, sensorFault := x.sensorFault || fastBeside s.sns (wheelNumber w) }) ∧
      (∀ u : Fin 6, u ≠ wheelNumber w → t.sns.wheel u = s.sns.wheel u) ∧
      (x.silent = false → x.sensorFault = false → fastBeside s.sns (wheelNumber w) = true →
        t.faults.record .wheelSensor = (s.faults.record .wheelSensor).raise s.dsv.operatingSeconds) ∧
      (∀ k : FaultKind, k ≠ .wheelSensor → t.faults.record k = s.faults.record k) ∧
      (x.sensorFault = true ∨ fastBeside s.sns (wheelNumber w) = false →
        t = { s with sns := { s.sns with wheels := t.sns.wheels } }) ∧
      t = { s with
        sns := { s.sns with wheels := t.sns.wheels }, dsv := t.dsv, faults := t.faults,
        wear := { s.wear with windowOpen := t.wear.windowOpen }, exc := t.exc, port := t.port } ∧
      EventFrame s t)

/-! ## Split and torque -/

/-- The split frame: the age, the torque limit, the availability and the demanded torque (R62, R64 to R67, R72).
That the snapshot sees the driveline state the age test has left is log 18. -/
def Obligations.SplitFrameFormsAvailability : Prop :=
  ∀ s : State, s.running = true → LogInv s →
    let n := s.sns.shaftSpeed.natAbs
    let neff := max n 100
    let l := s.dsv.limits
    ∃ t, exec .splitFrame s = .next t ∧ t.spl.demandAge = min (s.spl.demandAge + 1) 255 ∧
      t.spl.tMax = min l.tPeak (l.pPeak * 9549 / neff) ∧
      t.spl.tMotAvail = min (min l.motorCeiling s.sns.motorLimit) (s.ena.pDis * 9549 * 942 / (10 * neff * 1024)) ∧
      t.spl.tGenAvail = min (min l.regenCeiling s.sns.generatorLimit) (s.ena.pChg * 9549 * 1024 / (10 * neff * 942)) ∧
      t.spl.tDem =
        (if s.spl.demand.doorsOpen = true ∨ s.spl.demand.direction = .neutral ∨
            (t.dsv.state ≠ .drive ∧ t.dsv.state ≠ .limp) ∨ l.maxRoadSpeed ≤ s.sns.roadSpeed then 0
        else
          let asked := s.spl.demand.accelerator * t.spl.tMax / 1000
          let capped := if t.dsv.state = .limp then min asked (t.spl.tMax * l.limpFraction / 1000) else asked
          if s.spl.demand.direction = .reverse then -((min capped (t.spl.tMax * 300 / 1000) : Nat) : Int)
          else (capped : Int)) ∧
      t.spl.frameN = n ∧ t.spl.frameRoadSpeed = s.sns.roadSpeed ∧ t.spl.frameSoc = s.ena.soc ∧
      t.spl.framePDis = s.ena.pDis ∧ t.spl.framePChg = s.ena.pChg ∧ t.spl.demand = s.spl.demand ∧
      t.spl.lastMoving = s.spl.lastMoving ∧ t.spl.demandSequence = s.spl.demandSequence ∧
      t.spl.mapPoints = s.spl.mapPoints ∧ t.spl.mapValid = s.spl.mapValid ∧
      t = { s with
        spl := t.spl, dsv := t.dsv, faults := t.faults, wear := t.wear, log := t.log, exc := t.exc, port := t.port } ∧
      EventFrame s t

/-- The demand age raises DEMAND_STALE and DEMAND_LOST in DRIVE, whatever the direction, and in LIMP, and in no other state,
and the latter takes the driveline to a stop (R62, R9, R10). -/
def Obligations.OldDemandIsFound : Prop :=
  ∀ s : State, s.running = true →
    let tested : Prop := s.dsv.state = .drive ∨ s.dsv.state = .limp
    (s.dsv.state ≠ .drive → s.dsv.state ≠ .limp →
      ∃ t, exec .splitFrame s = .next t ∧ t.spl.demandAge = min (s.spl.demandAge + 1) 255 ∧ t.faults = s.faults) ∧
    (tested → 5 ≤ s.spl.demandAge → s.faults.isActive .demandStale = false →
      ∃ t, exec .splitFrame s = .next t ∧ t.faults.isActive .demandStale = true ∧ t.causeSet .demandStale = true) ∧
    (tested → 100 ≤ s.spl.demandAge → s.faults.isActive .demandLost = false → s.faults.highest.rank < 3 →
      ∃ t, exec .splitFrame s = .next t ∧ t.faults.isActive .demandLost = true ∧
        t.dsv.state = (if s.sns.roadSpeed < 10 then .powerDown else .safeStop)) ∧
    (s.spl.demandAge < 5 → ∃ t, exec .splitFrame s = .next t ∧ t.faults = s.faults)

/-- The split frame's mode, its shares in HYBRID and ELECTRIC with their bounds, the shortfall and its run, and the requests
with the staleness ramp (R63, R68 to R71, R74). With the clutch not COUPLED, in REVERSE, in NEUTRAL and in a state other than
DRIVE and LIMP nothing is asked of the engine; while the demand is stale a request never grows: each frame it falls by at
least the torque step. That mode, shares and these states are judged by the driveline state and the faults which the frame's
own age test has left, so that the frame which raises DEMAND_LOST is ELECTRIC, is log 18. -/
def Obligations.SplitSharesAndStaleness : Prop :=
  ∀ s : State, s.running = true →
    ∃ t, exec .splitFrame s = .next t ∧ SplitShared s t ∧
      (s.cpl.coupling ≠ .coupled ∨ s.spl.demand.direction ≠ .forward ∨ (t.dsv.state ≠ .drive ∧ t.dsv.state ≠ .limp) →
        t.spl.mode = .electric ∧ t.spl.engineRequest = 0) ∧
      (t.faults.isActive .demandStale = true →
        t.spl.propulsionRequest.natAbs ≤ s.spl.propulsionRequest.natAbs - s.dsv.limits.torqueStep ∧
        t.spl.engineRequest.natAbs ≤ s.spl.engineRequest.natAbs - s.dsv.limits.torqueStep)

/-- The output step: target, clamp and move of the issued torque, 0 outside DRIVE, LIMP and SAFE_STOP; it is sent with the
enable, and the complement answers it (R23, R76 to R80, R114, R115). A blend frame that falls together with the step and
completes first leaves the torque the answer to the frame before, and gives the complement and BLEND_REQUEST its new values
(R75, R115; that its own snapshot holds the torque issued before the step is log 34). That the complement reads the last moving
direction and the LIMITS image as they stand at the step is log 38. That in DRIVE, LIMP and SAFE_STOP the
move starts from the torque issued before, also after an absence from these states that began and ended between two output
steps, is the model's choice (log 35). That messages are kept in a list is log 13. -/
def Obligations.OutputStepIssuesAndComplements : Prop :=
  ∀ (blendFirst : Bool) (s u : State), s.running = true →
    (if blendFirst then exec .blendFrame s = .next u else u = s) →
    let flows := decide (s.dsv.state = .drive ∨ s.dsv.state = .limp ∨ s.dsv.state = .safeStop)
    let avail (x : Int) : Int := clamp x (-(s.spl.tGenAvail : Int)) s.spl.tMotAvail
    let chosen : Int :=
      if s.bbl.recoveryActive then -(s.bbl.regenRequest : Int)
      else if 0 < s.spl.demand.brake ∨ s.dsv.state = .safeStop then 0 else s.spl.propulsionRequest
    let target := avail (if s.bbl.slipHold then max chosen 0 else chosen)
    let i := s.tqa.issued
    let falls : Prop :=
      i ≠ 0 ∧ (target = 0 ∨ target.sign = -i.sign ∨ (target.sign = i.sign ∧ target.natAbs < i.natAbs))
    let limit : Int :=
      if s.bbl.slipHold = true ∧ i < 0 then 8 * (s.dsv.limits.torqueStep : Int)
      else if falls then 4 * (s.dsv.limits.torqueStep : Int) else s.dsv.limits.torqueStep
    let moved := i + clamp (target - i) (-limit) limit
    let stopped := if (0 < i ∧ moved < 0) ∨ (i < 0 ∧ 0 < moved) then 0 else moved
    ∃ t, exec (.outputStep blendFirst) s = .next t ∧
      t.tqa.issued = (if flows then avail stopped else 0) ∧
      -(s.spl.tGenAvail : Int) ≤ t.tqa.issued ∧ t.tqa.issued ≤ s.spl.tMotAvail ∧
      t.tqa.stepMode =
        (if flows then
          (if s.bbl.slipHold then .slipRelease else if s.bbl.recoveryActive then .recovery else .propulsion)
        else .disabled) ∧
      t.bbl.motorForce =
        ((if s.spl.lastMoving = .reverse then t.tqa.issued else -t.tqa.issued) * s.dsv.limits.ratio100 * 10).tdiv
          s.dsv.limits.wheelRadius ∧
      t.bbl.friction3 =
        (if 0 < u.bbl.aReq then
          (clamp ((u.bbl.force3 : Int) - t.bbl.motorForce) 0 (1000 * s.dsv.limits.gain3)).toNat else 0) ∧
      t.bbl.p3 = ceilDiv t.bbl.friction3 s.dsv.limits.gain3 ∧
      t.sent =
        .blendRequest u.bbl.p1 u.bbl.p2 t.bbl.p3 u.bbl.recoveryActive ::
          (if flows then .torqueCommand (clamp t.tqa.issued (-3500) 3500) true else .torqueCommand 0 false) :: s.sent ∧
      t = { u with
        tqa := t.tqa, sent := t.sent,
        bbl := { u.bbl with
          motorForce := t.bbl.motorForce, friction3 := t.bbl.friction3, p3 := t.bbl.p3,
          complementTorque := t.tqa.issued } }

/-- While a slip hold is active the issued torque never decreases from one output step to the next while it is below zero
(R79). -/
def Obligations.SlipHoldNeverDeepensTorque : Prop :=
  ∀ (blendFirst : Bool) (s t : State), s.bbl.slipHold = true → s.tqa.issued < 0 →
    exec (.outputStep blendFirst) s = .next t → s.tqa.issued ≤ t.tqa.issued

/-! ## Engine, clutch, brakes -/

/-- The CPL frame: the ENGINE_REQUEST follows engine and coupling state as the frame left them, and its mode is the last
engine mode; the speed error is n − n_eng (R25, R83, R102). The slip energy is counted (R103). With the engine RUNNING and not
stalled the coupling state moves as the speed match, the ramps, the fast open and the stop say (R92 to R100; log 19 for the
sub-mode). That messages are kept in a list is log 13. -/
def Obligations.CplFrameCouplesAndRequests : Prop :=
  ∀ s : State, s.running = true → LogInv s →
    ∃ t mode torque speed, exec .cplFrame s = .next t ∧ t.cpl.frameEngineSpeed = s.sns.engineSpeed ∧
      t.cpl.frameSpeedError = (s.sns.shaftSpeed.natAbs : Int) - s.sns.engineSpeed ∧
      t.sent = .engineRequest mode torque speed :: s.sent ∧ t.cpl.lastMode = mode ∧
      (mode, torque, speed) =
        (match t.cpl.engine with
        | .off | .stopping | .lockedOut => (EngineMode.stop, 0, 0)
        | .cranking => (.start, 0, 0)
        | .running =>
          match t.cpl.coupling with
          | .opened => (.idle, 0, 0)
          | .syncing | .closing => (.speed, 0, min t.cpl.speedRequest 3000)
          | .coupled => (.torque, (clamp s.spl.engineRequest 0 1500).toNat, 0)
          | .opening => (.torque, 0, 0)) ∧
      t = { s with
        cpl := t.cpl, dsv := t.dsv, faults := t.faults, wear := t.wear, log := t.log, exc := t.exc, port := t.port,
        sent := t.sent } ∧
      SlipCounted s t ∧
      (s.cpl.engine = .running → s.sns.engineLink.up = false ∨ 400 ≤ s.sns.engineSpeed → CouplingMoves s t) ∧
      EventFrame s t

/-- A running engine below 400 rpm with the engine link UP is found stalled (R91, R100). An engine wanted OFF with the clutch
OPEN is STOPPING, sent STOP, until the engine reports itself stopped or 3 s have passed (R92). -/
def Obligations.StallAndStop : Prop :=
  ∀ s : State, s.running = true →
    (s.cpl.engine = .running → s.sns.engineLink.up = true → s.sns.engineSpeed < 400 →
      ∃ t, exec .cplFrame s = .next t ∧ t.cpl.engine = .off ∧ t.cpl.coupling = .opened ∧ t.cpl.sync = .none ∧
        t.cpl.position = 0 ∧ t.cpl.stallBlock = 500 ∧ t.cpl.crankCount = s.cpl.crankCount ∧
        t.cpl.lastMode = .stop ∧
        t.faults.record .engineStall =
          { (s.faults.record .engineStall).raise s.dsv.operatingSeconds with state := .latched } ∧
        (s.cpl.coupling = .opened ∨ s.cpl.coupling = .syncing →
          t.log = s.log.afterAppend (entryNow s .engineStall none (some (s.sns.engineSpeed : Int)) none))) ∧
    (s.cpl.engine = .running → s.cpl.coupling = .opened → s.sns.engineLink.up = false ∨ 400 ≤ s.sns.engineSpeed →
      ∃ t, exec .cplFrame s = .next t ∧
        (t.cpl.wantOn = false → t.cpl.engine = .stopping ∧ t.cpl.stopTimer = 0 ∧ t.cpl.lastMode = .stop) ∧
        (t.cpl.wantOn = true → t.cpl.engine = .running)) ∧
    (s.cpl.engine = .stopping →
      let timer := min (s.cpl.stopTimer + 1) 300
      ∃ t, exec .cplFrame s = .next t ∧ t.cpl.stopTimer = timer ∧ t.cpl.lastMode = .stop ∧
        t.cpl.engine =
          (if (s.sns.engineLink.up = true ∧ s.sns.engineRunning = false) ∨ timer = 300 then .off else .stopping))

/-- The engine want (R84 to R86), and the crank attempts: FORCE_RUN in READY, DRIVE or LIMP with the engine OFF, its link UP
and no delay running begins one, counted in W4 (R85, R87, R127); an attempt is abandoned, succeeds, fails, goes on, or with
the third failure locks the engine out (R88, R89); a locked-out engine stays so and is sent STOP (R90). -/
def Obligations.CrankAttempts : Prop :=
  (∀ s : State, s.running = true → s.dsv.mode.permission = .forceRun →
    (s.dsv.state = .ready ∨ s.dsv.state = .drive ∨ s.dsv.state = .limp) → s.cpl.engine = .off →
    s.cpl.coupling = .opened → s.sns.engineLink.up = true → s.cpl.failureWait ≤ 1 → s.cpl.stallBlock ≤ 1 →
    ∃ t, exec .cplFrame s = .next t ∧ t.cpl.engine = .cranking ∧ t.cpl.crankTimer = 0 ∧ t.cpl.wantOn = true ∧
      t.cpl.lastMode = .start ∧ (t.counter w4).value = min ((s.counter w4).value + 1) 4294967295 ∧
      (∀ c : Counter, c ≠ w4 → t.counter c = s.counter c) ∧ (t.reportRow 6).changePending = true) ∧
  (∀ s : State, s.running = true →
    s.cpl.engine ≠ .running ∨ s.sns.engineLink.up = false ∨ 400 ≤ s.sns.engineSpeed →
    ∃ t, exec .cplFrame s = .next t ∧ EngineWant s t) ∧
  (∀ s : State, s.running = true → s.cpl.coupling = .opened →
    ∃ t, exec .cplFrame s = .next t ∧ (s.cpl.engine = .cranking → CrankMoves s t) ∧
      (s.cpl.engine = .off →
        t.cpl.wantOn = false ∨ s.sns.engineLink.up = false ∨ 1 < s.cpl.failureWait ∨ 1 < s.cpl.stallBlock →
        t.cpl.engine = .off ∧ t.cpl.lastMode = .stop ∧ t.wear = s.wear) ∧
      (s.cpl.engine = .lockedOut → t.cpl.engine = .lockedOut ∧ t.cpl.lastMode = .stop ∧ t.wear = s.wear))

/-- CPL's second timer counts the idle-stop countdown down (R86). -/
def Obligations.IdleStopCountdown : Prop :=
  ∀ s : State, s.running = true →
    exec .cplSecondTimer s =
      .next { s with
        cpl := { s.cpl with
          countdown :=
            if s.cpl.engine = .running ∧ s.sns.roadSpeed < 10 ∧ s.dsv.limits.idleStop ≠ 255 then s.cpl.countdown - 1
            else s.cpl.countdown } }

/-- The blend frame: the friction energy of the interval just ended, the brake force and its shares, the slip ratio and the
slip hold, the permission, the regen availability with its return ramp, the recovery request and the pressures (R107 to R111,
R116, R118 to R120, R122, R123); the records of the complement stay. -/
def Obligations.BlendFrameFormsShares : Prop :=
  ∀ s : State, s.running = true → LogInv s →
    let l := s.dsv.limits
    let f := s.spl.demand.mass * s.spl.demand.brake / 100
    ∃ t, exec .blendFrame s = .next t ∧ t.bbl.aReq = s.spl.demand.brake ∧ t.bbl.force = f ∧
      t.bbl.force1 = f * l.phi1 / 1000 ∧ t.bbl.force2 = f * l.phi2 / 1000 ∧
      t.bbl.force3 = f - f * l.phi1 / 1000 - f * l.phi2 / 1000 ∧
      t.bbl.p1 = min 1000 (ceilDiv t.bbl.force1 l.gain1) ∧ t.bbl.p2 = min 1000 (ceilDiv t.bbl.force2 l.gain2) ∧
      t.bbl.slipFormed = (s.sns.vRef.valid && decide (50 ≤ s.sns.vRef.speed)) ∧
      t.bbl.slip =
        (if t.bbl.slipFormed then
          (if s.sns.v3.valid then
            clamp ((((s.sns.vRef.speed : Int) - s.sns.v3.speed) * 1000).tdiv s.sns.vRef.speed) (-1000) 1000
          else 1000)
        else 0) ∧
      t.bbl.permission =
        (decide (s.spl.demand.direction = .forward) &&
          decide (s.dsv.state = .drive ∨ s.dsv.state = .limp ∨ s.dsv.state = .safeStop) && s.sns.brakeLink.up &&
          s.sns.brakeAvailable && !s.sns.absActive && !t.bbl.slipHold && s.sns.vRef.valid && s.sns.v3.valid) ∧
      t.bbl.recoveryActive = (decide (0 < s.spl.demand.brake) && t.bbl.permission) ∧
      SlipSupervised s t ∧ RampApplied s t ∧ FrictionCounted s t ∧
      t.bbl.regenForce =
        (if t.bbl.recoveryActive then min t.bbl.force3 (t.bbl.tRa * l.ratio100 * 10 / l.wheelRadius) else 0) ∧
      t.bbl.regenRequest =
        (if t.bbl.recoveryActive then t.bbl.regenForce * l.wheelRadius / (l.ratio100 * 10) else 0) ∧
      t.bbl.regenRequest ≤ t.bbl.tRa ∧ t.bbl.regenForce ≤ t.bbl.force3 ∧
      (t.bbl.recoveryActive = false → t.bbl.regenRequest = 0 ∧ t.bbl.regenForce = 0) ∧
      t.bbl.motorForce = s.bbl.motorForce ∧ t.bbl.friction3 = s.bbl.friction3 ∧ t.bbl.p3 = s.bbl.p3 ∧
      t.bbl.complementTorque = s.bbl.complementTorque ∧
      t = { s with bbl := t.bbl, wear := t.wear, log := t.log, port := t.port } ∧ EventFrame s t

/-! ## Exchange -/

/-- A sweep that finds nothing pending counts itself, releases each held cell that its hold word no longer names, which
becomes SPARE, rewrites the part-owned words of the directory and the status block from the records, and changes nothing else:
not the vehicle controller's words of the directory, and nothing from the cell headers up but the states of the released cells
(R167, R169, R179, R180). That the status block shows the new sweep count, not the one before it, is log 22. That a released
cell keeps its outcome code, in the header's byte at headerAddr k 1 + 1, is log 21, and that this byte is the word's more
significant one log 6: R179 says only that the cell becomes SPARE. -/
def Obligations.SweepWithNothingPending : Prop :=
  ∀ (writes : List VcWrite) (s : State), s.running = true → MemoryInv s →
    let s0 := vcWrites writes s
    let named (i : Fin 8) (k : CellIndex) : Prop := s0.port.wordAt (dirAddr (8 + i.val) 1) = indexWord (some k)
    (∀ c : OrderChannel, s0.port.wordAt (dirAddr c.number 1) = 0xFFFF) →
    ∃ t, exec (.intakeSweep writes []) s = .next t ∧
      t = { s with
        exc := { s.exc with sweepCount := s.exc.sweepCount + 1, reports := t.exc.reports }, port := t.port } ∧
      t.port.attn = s.port.attn ∧ t.port.attnEn = s.port.attnEn ∧ t.port.powerUps = s.port.powerUps ∧
      (∀ i : Fin 8,
        ((s.reportRow i).held = none → t.reportRow i = s.reportRow i) ∧
        ∀ k : CellIndex, (s.reportRow i).held = some k →
          (named i k → t.reportRow i = s.reportRow i) ∧
          (¬named i k → t.reportRow i = { s.reportRow i with held := none } ∧ t.port.cellState k = cellSpare)) ∧
      (∀ a : Nat, 0x100 ≤ a →
        (∀ i : Fin 8, ∀ k : CellIndex, (s.reportRow i).held = some k → ¬named i k → a ≠ headerAddr k 1) →
        t.port.byteAt a = s0.port.byteAt a) ∧
      t.port.wordsAt (statusAddr 0) 12 = statusItems t ∧
      (∀ i : Nat, 12 ≤ i → i < 64 → t.port.wordAt (statusAddr i) = 0) ∧
      (∀ c : OrderChannel, t.port.wordAt (dirAddr c.number 0) = indexWord (s.orderRow c).current ∧
        t.port.wordAt (dirAddr c.number 1) = 0xFFFF ∧
        t.port.wordAt (dirAddr c.number 2) = (s.orderRow c).takeCount ∧
        t.port.wordAt (dirAddr c.number 3) =
          BitVec.ofNat 16 ((s.orderRow c).lastCode.code + 256 * (s.orderRow c).lastFlags.nibble)) ∧
      (∀ i : Fin 8, t.port.wordAt (dirAddr (8 + i.val) 0) = indexWord (s.reportRow i).published ∧
        t.port.wordAt (dirAddr (8 + i.val) 1) = s0.port.wordAt (dirAddr (8 + i.val) 1) ∧
        t.port.wordAt (dirAddr (8 + i.val) 2) = s0.port.wordAt (dirAddr (8 + i.val) 2) ∧
        t.port.wordAt (dirAddr (8 + i.val) 3) = natWord (s.reportRow i).skips)

/-- A sweep that finds one order pending. The checks in order, with CHANNEL and LENGTH added where header and channel differ;
a refused order changes no block's records but the channel's outcome and its ORDER_RESULT entry, and its FILLED cell becomes
RETURNED with the code; a taken one has the owner's effects, its cell is TAKEN and current, and the cell that was current
becomes RETURNED; the pending word is cleared (R169 to R174). A pending word above 95 is refused with BAD_CELL, and its entry
shows cell 255 and sequence 0 (R170, R174). Of two orders in one sweep the one on the lower channel is examined whole before
the other, which finds the state it has left; so a MODE take that enters PRECHARGE has a LIMITS order refused with STATE
(R169). A pending word that the vehicle controller overwrites while the sweep is in the turn of a channel with an order: that
channel's own word changes nothing of the examination and is cleared only if it holds again the value read, a lower channel's
word is left for the next sweep, and a higher channel's is examined in this one (R169; the three moments of a turn are the
model's choice, log 4). -/
def Obligations.SweepTakesAnOrder : Prop :=
  (∀ (c : OrderChannel) (k : CellIndex) (writes : List VcWrite) (s : State), s.running = true → MemoryInv s →
    let s0 := vcWrites writes s
    let offset := s0.port.offsetOf k
    let differs := decide (s0.port.wordAt (headerAddr k 0) ≠ BitVec.ofNat 16 c.number.val)
    let s1 := if differs then setRamWord (headerAddr k 0) (BitVec.ofNat 16 c.number.val) s0 else s0
    let fixed := c.fixedLength (s0.port.wordAt (dataAddr offset)).toNat
    let length := (s0.port.wordAt (headerAddr k 3)).toNat
    let sequence := s0.port.wordAt (headerAddr k 2)
    let answer := c.answer (s0.port.wordsAt (dataAddr offset) (min fixed 64)) sequence s1
    let named := s0.exc.names k
    let flags : DetailFlags := { DetailFlags.none with channel := differs, length := decide (fixed < length) }
    let refusal : Option (OutcomeCode × DetailFlags) :=
      if blockInside k offset = false ∨ named = true then some (.badCell, DetailFlags.none)
      else if s0.port.cellState k ≠ cellFilled then some (.notFilled, DetailFlags.none)
      else if isLong k ≠ c.long then some (.cellClass, DetailFlags.none)
      else if length < fixed then some (.short, { DetailFlags.none with channel := differs })
      else
        match answer with
        | .refused code => some (code, flags)
        | .taken _ _ => none
    (∀ d : OrderChannel, d ≠ c → s0.port.wordAt (dirAddr d.number 1) = 0xFFFF) →
    s0.port.wordAt (dirAddr c.number 1) = indexWord (some k) →
    (∀ (code : OutcomeCode) (got : DetailFlags), refusal = some (code, got) →
      ∃ t, exec (.intakeSweep writes []) s = .next t ∧
        t.orderRow c =
          { s.orderRow c with
            lastCode := code, lastFlags := got,
            result := { cell := k.val, sequence := sequence, code := code, flags := got } } ∧
        (s0.port.cellState k = cellFilled → named = false →
          t.port.wordAt (headerAddr k 1) = packBytes cellReturned code.code) ∧
        (s0.port.cellState k ≠ cellFilled ∨ named = true → (∀ i : Fin 8, (s.reportRow i).held ≠ some k) →
          t.port.wordAt (headerAddr k 1) = s0.port.wordAt (headerAddr k 1)) ∧
        (t.reportRow 5).changePending = true ∧ t = { s with exc := t.exc, port := t.port } ∧
        t.port.wordAt (dirAddr c.number 1) = 0xFFFF ∧ t.exc.sweepCount = s.exc.sweepCount + 1 ∧
        ∀ d : OrderChannel, d ≠ c → t.orderRow d = s.orderRow d) ∧
    (∀ (added : DetailFlags) (s2 : State), refusal = none → answer = .taken added s2 →
      let got := flags.join added
      let code : OutcomeCode := if got.any then .adjusted else .accepted
      ∃ t, exec (.intakeSweep writes []) s = .next t ∧ (t.orderRow c).current = some k ∧
        (t.orderRow c).takeCount = (s.orderRow c).takeCount + 1 ∧ (t.orderRow c).lastCode = code ∧
        (t.orderRow c).lastFlags = got ∧
        (t.orderRow c).result =
          (if (c = .demand ∨ c = .mode) ∧ code = .accepted then (s.orderRow c).result
          else { cell := k.val, sequence := sequence, code := code, flags := got }) ∧
        t.dsv = s2.dsv ∧ t.faults = s2.faults ∧ t.sns = s2.sns ∧ t.ena = s2.ena ∧ t.spl = s2.spl ∧ t.tqa = s2.tqa ∧
        t.cpl = s2.cpl ∧ t.bbl = s2.bbl ∧ t.wear = s2.wear ∧ t.log = s2.log ∧
        t.port.wordAt (headerAddr k 1) = packBytes cellTaken code.code ∧
        t.port.wordAt (headerAddr k 5) = s.exc.frameNumber ∧
        (∀ p : CellIndex, (s.orderRow c).current = some p → (∀ i : Fin 8, (s.reportRow i).held ≠ some p) →
          t.port.cellState p = cellReturned) ∧
        t.port.wordAt (dirAddr c.number 1) = 0xFFFF ∧ t.exc.sweepCount = s.exc.sweepCount + 1 ∧
        t.supply = s.supply ∧ t.sent = s.sent ∧ t.pending = s.pending ∧
        ∀ d : OrderChannel, d ≠ c → t.orderRow d = s.orderRow d)) ∧
  (∀ (c : OrderChannel) (v : Word) (writes : List VcWrite) (s : State), s.running = true → MemoryInv s →
    let s0 := vcWrites writes s
    (∀ d : OrderChannel, d ≠ c → s0.port.wordAt (dirAddr d.number 1) = 0xFFFF) →
    s0.port.wordAt (dirAddr c.number 1) = v → v ≠ 0xFFFF →
    (96 ≤ v.toNat →
      ∃ t, exec (.intakeSweep writes []) s = .next t ∧
        t.orderRow c =
          { s.orderRow c with
            lastCode := .badCell, lastFlags := DetailFlags.none,
            result := { cell := 255, sequence := 0, code := .badCell, flags := DetailFlags.none } } ∧
        (t.reportRow 5).changePending = true ∧ t = { s with exc := t.exc, port := t.port } ∧
        t.port.wordAt (dirAddr c.number 1) = 0xFFFF ∧ t.exc.sweepCount = s.exc.sweepCount + 1 ∧
        ((∀ i : Fin 8, (s.reportRow i).held = none) →
          ∀ a : Nat, 0x100 ≤ a → t.port.byteAt a = s0.port.byteAt a) ∧
        ∀ d : OrderChannel, d ≠ c → t.orderRow d = s.orderRow d) ∧
    (let x := (orderTurn [] c (s0, false)).1
      ∃ t, exec (.intakeSweep writes []) s = .next t ∧ t = { x with exc := t.exc, port := t.port } ∧
        t.exc.orders = x.exc.orders)) ∧
  (∀ (c d : OrderChannel) (writes : List VcWrite) (s : State), s.running = true → MemoryInv s →
    let s0 := vcWrites writes s
    c.number < d.number →
    (∀ e : OrderChannel, e ≠ c → e ≠ d → s0.port.wordAt (dirAddr e.number 1) = 0xFFFF) →
    let u := (orderTurn [] c (s0, false)).1
    let x := (orderTurn [] d (u, false)).1
    u.port.wordAt (dirAddr d.number 1) = s0.port.wordAt (dirAddr d.number 1) ∧
    ∃ t, exec (.intakeSweep writes []) s = .next t ∧ t = { x with exc := t.exc, port := t.port } ∧
      t.exc.orders = x.exc.orders ∧ t.port.wordAt (dirAddr c.number 1) = 0xFFFF ∧
      t.port.wordAt (dirAddr d.number 1) = 0xFFFF ∧ t.exc.sweepCount = s.exc.sweepCount + 1) ∧
  (∀ (k j : CellIndex) (writes : List VcWrite) (s : State), s.running = true → MemoryInv s →
    let s0 := vcWrites writes s
    let passes (c : OrderChannel) (i : CellIndex) : Prop :=
      s0.port.wordAt (dirAddr c.number 1) = indexWord (some i) ∧ blockInside i (s0.port.offsetOf i) = true ∧
        s0.exc.names i = false ∧ s0.port.cellState i = cellFilled ∧ isLong i = c.long ∧
        c.fixedLength 0 ≤ (s0.port.wordAt (headerAddr i 3)).toNat
    let p := s0.port.wordsAt (dataAddr (s0.port.offsetOf k)) 5
    (∀ e : OrderChannel, e ≠ .mode → e ≠ .limits → s0.port.wordAt (dirAddr e.number 1) = 0xFFFF) →
    passes .mode k → passes .limits j → word p 0 = 1 → word p 1 ≤ 2 → word p 3 ≤ 1 → word p 4 ≤ 1 →
    s.dsv.state = .standby → s.dsv.cooldownTimer = none → s.faults.highest.rank < 3 →
    ∃ t, exec (.intakeSweep writes []) s = .next t ∧ t.dsv.state = .precharge ∧ t.dsv.limits = s.dsv.limits ∧
      (t.orderRow .mode).current = some k ∧ (t.orderRow .limits).lastCode = .state ∧
      (t.orderRow .limits).current = (s.orderRow .limits).current) ∧
  (∀ (c d : OrderChannel) (m : Moment) (value : Word) (writes : List VcWrite) (s : State), s.running = true →
    MemoryInv s →
    let s0 := vcWrites writes s
    let write : VcWrite := { addr := BitVec.ofNat 13 (4 * d.number.val + 1), value := value }
    let read := s0.port.wordAt (dirAddr c.number 1)
    (∀ e : OrderChannel, e ≠ c → s0.port.wordAt (dirAddr e.number 1) = 0xFFFF) → read ≠ 0xFFFF →
    let x := (orderTurn [] c (s0, false)).1
    let y := (orderTurn [] d (vcWrites [write] x, false)).1
    ∃ t, exec (.intakeSweep writes [{ channel := c.number.val, moment := m, write := write }]) s = .next t ∧
      t.exc.sweepCount = s.exc.sweepCount + 1 ∧
      (∀ e : OrderChannel, e ≠ c → e ≠ d → t.port.wordAt (dirAddr e.number 1) = 0xFFFF) ∧
      (d = c → t = { x with exc := t.exc, port := t.port } ∧ t.exc.orders = x.exc.orders ∧
        t.port.wordAt (dirAddr c.number 1) = (if value = read then 0xFFFF else value)) ∧
      (d.number < c.number → t = { x with exc := t.exc, port := t.port } ∧ t.exc.orders = x.exc.orders ∧
        t.port.wordAt (dirAddr c.number 1) = 0xFFFF ∧ t.port.wordAt (dirAddr d.number 1) = value) ∧
      (c.number < d.number → t = { y with exc := t.exc, port := t.port } ∧ t.exc.orders = y.exc.orders ∧
        t.port.wordAt (dirAddr c.number 1) = 0xFFFF ∧ t.port.wordAt (dirAddr d.number 1) = 0xFFFF))

/-- A DEMAND order: what is refused, and what a take stores; a reversal at speed is held (R59 to R61); READY is left for DRIVE
or LIMP by a direction, DRIVE for READY in NEUTRAL at rest, and LIMP for DRIVE at a take that finds the highest class below
LIMP and brings the accelerator to 0 (R8, R9). -/
def Obligations.DemandTake : Prop :=
  ∀ (p : List Word) (sequence : Word) (s : State),
    (2 < word p 2 → checkDemand p sequence s = .refused .range) ∧
    (∀ d : Direction, word p 2 = d.code →
      ∃ flags t, checkDemand p sequence s = .taken flags t ∧ t.spl.demandAge = 0 ∧ t.spl.demandSequence = sequence ∧
        t.spl.demand.accelerator = min (word p 0) 1000 ∧ t.spl.demand.brake = min (word p 1) 500 ∧
        t.spl.demand.mass = max 12000 (min (word p 4) 30000) ∧ t.spl.demand.doorsOpen = decide (word p 3 ≠ 0) ∧
        flags.clamped = decide (1000 < word p 0 ∨ 500 < word p 1 ∨ word p 4 < 12000 ∨ 30000 < word p 4) ∧
        (t.faults.record .demandStale).state ≠ .active ∧ (t.faults.record .demandLost).state ≠ .active ∧
        flags.held = decide (10 ≤ s.sns.roadSpeed ∧
          ((d = .forward ∧ s.spl.lastMoving = .reverse) ∨ (d = .reverse ∧ s.spl.lastMoving = .forward))) ∧
        t.spl.demand.direction = (if flags.held then s.spl.demand.direction else d) ∧
        (flags.held = true → t.spl.lastMoving = s.spl.lastMoving) ∧
        (flags.held = false → t.spl.lastMoving =
          (match d with
          | .neutral => s.spl.lastMoving
          | .forward => .forward
          | .reverse => .reverse)) ∧
        LimpFollows s t ∧ ReadyFollows s t ∧ DriveFollows s t ∧
        (s.dsv.state = .ready ∨ s.dsv.state = .drive ∨ s.dsv.state = .limp →
          t.dsv = { s.dsv with state := t.dsv.state, keepStoreValid := t.dsv.keepStoreValid }) ∧
        t = { s with
          spl := { s.spl with
            demand := t.spl.demand, lastMoving := t.spl.lastMoving, demandAge := 0, demandSequence := sequence },
          dsv := t.dsv, faults := t.faults, wear := { s.wear with windowOpen := t.wear.windowOpen }, exc := t.exc,
          port := t.port })

/-- A MODE order: what is refused, how S_t, permission and service are treated, what DSV does on the key in each state (R4, R7
to R11, R13), what CPL does on a key OFF (R90), and the acknowledgement, which turns every LATCHED record INACTIVE (R14, R15,
R157). Where no cause of a transition holds already, a key ON changes DSV's image alone, and so does any key in STANDBY (but
for R4), SAFE_STOP and POWER_DOWN; where one holds already, DSV acts on it here too (log 15). That service is judged by the
state before the key acts is log 20. -/
def Obligations.ModeTake : Prop :=
  ∀ (p : List Word) (s : State),
    let unmoved : Prop :=
      match s.dsv.state with
      | .standby => word p 0 = 0 ∨ s.dsv.cooldownTimer ≠ none ∨ 3 ≤ s.faults.highest.rank
      | .precharge => word p 0 = 1
      | .ready =>
        word p 0 = 1 ∧ (s.spl.demand.direction = .neutral ∨ s.faults.isActive .configMissing = true ∨
          3 ≤ s.faults.highest.rank)
      | .drive =>
        word p 0 = 1 ∧ s.faults.highest.rank ≠ 2 ∧ (s.spl.demand.direction ≠ .neutral ∨ 10 ≤ s.sns.roadSpeed)
      | .limp => word p 0 = 1 ∧ (2 ≤ s.faults.highest.rank ∨ 0 < s.spl.demand.accelerator)
      | .safeStop => 10 ≤ s.sns.roadSpeed
      | .powerDown => True
      | .faulted => word p 0 = 1
    (1 < word p 0 ∨ 2 < word p 1 ∨ 1 < word p 3 ∨ 1 < word p 4 → checkMode p s = .refused .range) ∧
    (word p 0 ≤ 1 → word p 1 ≤ 2 → word p 3 ≤ 1 → word p 4 ≤ 1 →
      ∃ flags t, checkMode p s = .taken flags t ∧ t.dsv.mode.keyOn = decide (word p 0 = 1) ∧
        t.dsv.mode.permission = (if word p 1 = 0 then .allowed else if word p 1 = 1 then .quiet else .forceRun) ∧
        t.dsv.mode.socTarget = max (s.dsv.limits.sMin + 1000) (min (word p 2) (s.dsv.limits.sMax - 1000)) ∧
        flags.clamped = decide (t.dsv.mode.socTarget ≠ word p 2) ∧
        flags.held = decide (word p 3 = 1 ∧ s.dsv.state ≠ .standby ∧ s.dsv.serviceMode = false) ∧
        t.dsv.serviceMode = (decide (word p 3 = 1) && !flags.held) ∧ t.dsv.mode.acknowledge = false ∧
        (word p 4 = 1 → ∀ k : FaultKind, (t.faults.record k).state ≠ .latched) ∧
        (word p 0 = 1 → s.dsv.state = .standby → s.dsv.cooldownTimer = none → s.faults.highest.rank < 3 →
          t.dsv.state = .precharge ∧ t.dsv.negClosed = true ∧ t.dsv.preClosed = true ∧
          t.dsv.prechargeTimer = some 3000) ∧
        (word p 0 = 0 → s.dsv.state = .precharge →
          t.dsv.state = .standby ∧ t.dsv.prechargeTimer = none ∧ t.dsv.settleTimer = none ∧ t.dsv.negClosed = false ∧
          t.dsv.preClosed = false ∧ t.dsv.posClosed = false) ∧
        (word p 0 = 0 → s.dsv.state = .ready →
          t.dsv.state = .powerDown ∧ t.dsv.stopCause = .keyOff ∧ t.dsv.powerDownTimer = some 500) ∧
        (word p 0 = 0 → s.dsv.state = .drive ∨ s.dsv.state = .limp →
          t.dsv.stopCause = .keyOff ∧ t.dsv.state = (if s.sns.roadSpeed < 10 then .powerDown else .safeStop)) ∧
        (word p 0 = 0 → s.dsv.state = .faulted →
          t.dsv.state = (if s.faults.highest.rank < 3 then .standby else .faulted)) ∧
        (unmoved → t.dsv = { s.dsv with mode := t.dsv.mode, serviceMode := t.dsv.serviceMode }) ∧
        (word p 0 = 1 → t.cpl = s.cpl) ∧
        (word p 0 = 0 →
          t.cpl = { s.cpl with
            crankCount := 0, failureWait := 0,
            engine := if s.cpl.engine = .lockedOut then .off else s.cpl.engine } ∧
          (s.cpl.engine = .lockedOut → (t.faults.record .engineStartFailed).state ≠ .active)))

/-- LIMITS, ENGINE_MAP, COMPENSATION and LOG_FILTER: refusals by state, by content and by the rest timer, and what a take
stores; at a LIMITS take also PACK_OVERTEMP's comparison, the clearing of CONFIG_MISSING with what DSV does on it, and the
clamp of S_t (R8, R14, R16, R36, R44, R47, R48, R53, R73, R145). -/
def Obligations.OtherOwnersChecks : Prop :=
  ∀ (p : List Word) (s : State),
    (s.dsv.state ≠ .standby → s.dsv.state ≠ .ready → checkLimits p s = .refused .state) ∧
    (s.dsv.state = .standby ∨ s.dsv.state = .ready →
      let ranges : List (Nat × Nat) :=
        [(100, 2000), (0, 2000), (100, 3500), (20, 400), (5, 200), (300, 1500), (400, 600), (40, 120), (0, 1000),
          (0, 1000), (0, 1000), (5, 100), (5, 100), (5, 100), (100, 2000), (500, 4000), (6000, 9800), (0, 100), (0, 255),
          (100, 600), (30, 300), (200, 800), (100, 1000), (30, 70), (40, 80)]
      let fits : Prop :=
        (∀ (i lo hi : Nat), ranges[i]? = some (lo, hi) → lo ≤ word p i ∧ word p i ≤ hi) ∧
        word p 8 + word p 9 + word p 10 = 1000 ∧ word p 15 + 2000 ≤ word p 16
      (¬fits → checkLimits p s = .refused .range) ∧
      (fits →
        ∃ t, checkLimits p s = .taken DetailFlags.none t ∧
          t.dsv.limits =
            { motorCeiling := word p 0, regenCeiling := word p 1, tPeak := word p 2, pPeak := word p 3,
              torqueStep := word p 4, ratio100 := word p 5, wheelRadius := word p 6, wheelTeeth := word p 7,
              phi1 := word p 8, phi2 := word p 9, phi3 := word p 10, gain1 := word p 11, gain2 := word p 12,
              gain3 := word p 13, capacity := word p 14, sMin := word p 15, sMax := word p 16, kSoc := word p 17,
              idleStop := word p 18, clutchFill := word p 19, slipLimit := word p 20, maxRoadSpeed := word p 21,
              limpFraction := word p 22, packHot := word p 23, packAbsMax := word p 24 } ∧
          t.dsv.mode =
            { s.dsv.mode with
              socTarget := max (word p 15 + 1000) (min s.dsv.mode.socTarget (word p 16 - 1000)) } ∧
          t.ena = { s.ena with
            capacity := word p 14,
            charge :=
              if word p 14 = s.ena.capacity then s.ena.charge else s.ena.soc * (word p 14 * 3600000) / 10000 } ∧
          t.sns = { s.sns with
            circ := word p 6 * 6283 / 1000, toothConstant := 36000 * (word p 6 * 6283 / 1000) / word p 7 } ∧
          (s.sns.packLink.up = true → OvertempFollows s t (word p 24) s.ena.maxTemp) ∧
          (s.sns.packLink.up = false → t.faults.record .packOvertemp = s.faults.record .packOvertemp) ∧
          t.faults.record .configMissing =
            (if s.faults.isActive .configMissing then { s.faults.record .configMissing with state := .latched }
            else s.faults.record .configMissing) ∧
          (∀ k : FaultKind, k ≠ .packOvertemp → k ≠ .configMissing → t.faults.record k = s.faults.record k) ∧
          (s.dsv.state = .ready → s.sns.packLink.up = true → (word p 24 : Int) ≤ s.ena.maxTemp →
            s.faults.isActive .packOvertemp = false → s.faults.highest.rank < 3 →
            t.dsv.state = .powerDown ∧ t.dsv.stopCause = .fault .packOvertemp) ∧
          (s.sns.packLink.up = false ∨ s.ena.maxTemp < (word p 24 : Int) → s.faults.isActive .configMissing = true →
            ReadyFollows s t) ∧
          t = { s with
            dsv := t.dsv, ena := t.ena, sns := t.sns, faults := t.faults,
            wear := { s.wear with windowOpen := t.wear.windowOpen }, exc := t.exc, port := t.port })) ∧
    (s.cpl.coupling ≠ .opened → checkEngineMap p s = .refused .state) ∧
    (s.cpl.coupling = .opened → word p 0 < 2 ∨ 12 < word p 0 → checkEngineMap p s = .refused .range) ∧
    (s.cpl.coupling = .opened → 2 ≤ word p 0 → word p 0 ≤ 12 →
      let point (i : Nat) : MapPoint :=
        { speed := word p (1 + 3 * i), tOpt := word p (2 + 3 * i), tMax := word p (3 + 3 * i) }
      let fits : Prop :=
        (∀ i, i < word p 0 → 600 ≤ (point i).speed ∧ (point i).speed ≤ 2400 ∧ (point i).tOpt ≤ (point i).tMax ∧
          (point i).tMax ≤ 1500) ∧
        ∀ i, i + 1 < word p 0 → (point i).speed < (point (i + 1)).speed
      (fits →
        checkEngineMap p s =
          .taken DetailFlags.none
            { s with spl := { s.spl with mapPoints := (List.range (word p 0)).map point, mapValid := true } }) ∧
      (¬fits → checkEngineMap p s = .refused .range)) ∧
    (1 < word p 2 ∨ signedWord p 0 < -500 ∨ 500 < signedWord p 0 ∨ signedWord p 1 < -20000 ∨ 20000 < signedWord p 1 ∨
      (word p 2 = 1 ∧ 10000 < word p 3) → checkCompensation p s = .refused .range) ∧
    (word p 2 = 1 → trimsInRange p = true → word p 3 ≤ 10000 → 30 ≤ s.ena.restTimer →
      ∃ t, checkCompensation p s = .taken DetailFlags.none t ∧
        t.ena = { s.ena with
          offset := signedWord p 0, gain := signedWord p 1, charge := word p 3 * (s.ena.capacity * 3600000) / 10000,
          socValid := true } ∧
        (0 < s.ena.capacity → t.ena.soc = word p 3) ∧ (t.faults.record .socUnknown).state ≠ .active ∧
        (∀ k : FaultKind, k ≠ .socUnknown → t.faults.record k = s.faults.record k) ∧
        t = { s with
          ena := t.ena, dsv := t.dsv, faults := t.faults, wear := { s.wear with windowOpen := t.wear.windowOpen },
          exc := t.exc, port := t.port }) ∧
    (word p 2 = 1 → trimsInRange p = true → word p 3 ≤ 10000 → s.ena.restTimer < 30 →
      checkCompensation p s = .refused .notAtRest) ∧
    (word p 2 = 0 → trimsInRange p = true →
      checkCompensation p s =
        .taken DetailFlags.none { s with ena := { s.ena with offset := signedWord p 0, gain := signedWord p 1 } }) ∧
    (2 < word p 1 → checkLogFilter p s = .refused .range) ∧
    (∀ m : Severity, word p 1 = m.code →
      checkLogFilter p s =
        .taken DetailFlags.none { s with log := { s.log with filter := { mask := p.getD 0 0, minimum := m } } })

/-- WEAR_SET: the order of the checks and what is refused (R133), an order that selects no counter (R134), and what a taken
SET_THRESHOLDS, RESEED and CLEAR do to each selected counter, its remainder and, where one is selected, the log (R130, R135 to
R137); of ACCEPTANCE, the content check, and that a take replaces the table alone (R49, R50). -/
def Obligations.WearSetAndAcceptanceChecks : Prop :=
  ∀ (p : List Word) (s : State),
    let selected (c : Counter) : Bool := (p.getD 1 0).getLsbD c.val
    let level (r : WearRecord) : WarnLevel :=
      if r.urgent ≠ 0 ∧ r.urgent ≤ r.value then .urgent
      else if r.advise ≠ 0 ∧ r.advise ≤ r.value then .advise else .none
    let given (r : WearRecord) : WearRecord :=
      if level r = .none then r
      else { r with warned := level r, stampOdometer := s.sns.odometer, stampSeconds := s.dsv.operatingSeconds }
    let warn (c : Counter) (r : WearRecord) (l : LogRing) : LogRing :=
      match level r with
      | .urgent => l.afterAppend (entryNow s .wearUrgent (some c) (some (r.value : Int)) (some r.urgent))
      | .advise => l.afterAppend (entryNow s .wearAdvise (some c) (some (r.value : Int)) (some r.advise))
      | .none => l
    let taken (t : State) (f : Counter → WearRecord) (l : Counter → LogRing) : Prop :=
      (∀ c : Counter, t.counter c = if selected c then f c else s.counter c) ∧
      (∀ c : Counter, p.getD 1 0 = BitVec.ofNat 16 (2 ^ c.val) → t.log = l c)
    let thresholds (c : Counter) : WearRecord :=
      { s.counter c with advise := adviseOf p c, urgent := urgentOf p c, thresholdsSet := true, warned := .none }
    let reseeded (c : Counter) : WearRecord := { s.counter c with value := reseedOf p c, warned := .none }
    (2 < word p 0 ∨ 1024 ≤ word p 1 → checkWearSet p s = .refused .range) ∧
    (word p 1 < 1024 → word p 0 = 2 → s.dsv.serviceMode = false → checkWearSet p s = .refused .notInService) ∧
    (word p 1 < 1024 → word p 0 = 1 → s.wear.windowOpen = false → checkWearSet p s = .refused .windowClosed) ∧
    (word p 0 = 0 → word p 1 < 1024 →
      (∃ c : Counter, selected c = true ∧ adviseOf p c ≠ 0 ∧ urgentOf p c ≠ 0 ∧ urgentOf p c < adviseOf p c) →
      checkWearSet p s = .refused .range) ∧
    (word p 1 = 0 → word p 0 = 0 → checkWearSet p s = .taken DetailFlags.none s) ∧
    (word p 0 = 0 → word p 1 < 1024 →
      (∀ c : Counter, selected c = true → adviseOf p c = 0 ∨ urgentOf p c = 0 ∨ adviseOf p c ≤ urgentOf p c) →
      ∃ t, checkWearSet p s = .taken DetailFlags.none t ∧
        taken t (fun c => given (thresholds c)) (fun c => warn c (thresholds c) s.log) ∧
        t = { s with wear := { s.wear with counters := t.wear.counters }, log := t.log, port := t.port }) ∧
    (word p 0 = 1 → word p 1 < 1024 → s.wear.windowOpen = true →
      ∃ t, checkWearSet p s = .taken DetailFlags.none t ∧
        taken t (fun c => given (reseeded c)) (fun c =>
          warn c (reseeded c) (s.log.afterAppend (entryNow s .reseed (some c) (some (reseedOf p c : Int)) none))) ∧
        t = { s with wear := { s.wear with counters := t.wear.counters }, log := t.log, port := t.port }) ∧
    (word p 0 = 2 → word p 1 < 1024 → s.dsv.serviceMode = true →
      ∃ t, checkWearSet p s = .taken DetailFlags.none t ∧
        taken t (fun c => { s.counter c with value := 0, warned := .none }) (fun c =>
          s.log.afterAppend (entryNow s .serviceClear (some c) (some ((s.counter c).value : Int)) none)) ∧
        t = { s with
          wear := { s.wear with counters := t.wear.counters }, log := t.log, port := t.port,
          bbl := { s.bbl with
            remainder1 := if selected w0 then 0 else s.bbl.remainder1,
            remainder2 := if selected w1 then 0 else s.bbl.remainder2,
            remainder3 := if selected w2 then 0 else s.bbl.remainder3 },
          cpl := { s.cpl with slipRemainder := if selected w3 then 0 else s.cpl.slipRemainder },
          ena := { s.ena with
            dischargeRemainder := if selected w5 then 0 else s.ena.dischargeRemainder,
            chargeRemainder := if selected w6 then 0 else s.ena.chargeRemainder } }) ∧
    let edges : Prop :=
      (∀ i, i < 4 → -40 ≤ signedWord p i ∧ signedWord p i ≤ 125) ∧ (∀ i, i < 3 → word p (4 + i) ≤ 10000) ∧
      (∀ i, i < 3 → signedWord p i < signedWord p (i + 1)) ∧ (∀ i, i < 2 → word p (4 + i) < word p (5 + i)) ∧
      ∀ i, i < 40 → word p (7 + i) ≤ 800
    (¬edges → checkAcceptance p s = .refused .range) ∧
    (edges →
      checkAcceptance p s =
        .taken DetailFlags.none
          { s with
            ena := { s.ena with
              table :=
                { tempEdges := #v[signedWord p 0, signedWord p 1, signedWord p 2, signedWord p 3],
                  socEdges := #v[word p 4, word p 5, word p 6],
                  entries := Vector.ofFn fun i : Fin 20 =>
                    { discharge := word p (7 + 2 * i.val), charge := word p (8 + 2 * i.val) } } } })

/-- A report frame, whatever the vehicle controller writes before and during it, completes, counts itself, and changes nothing
but EXC's records of the reports, the detail cursor, ATTN and the exchange RAM (R175). With nothing written during it, it
shows the count in the status block (R180), leaves the row of each channel that is not due as it was, and either publishes
each due channel, its change-pending flag cleared and its sequence advanced, or counts it as skipped (R175 to R178); a channel
is due by its change-pending flag or, but for ORDER_RESULT, by its filter. -/
def Obligations.ReportFrameCounts : Prop :=
  ∀ (writes : List VcWrite) (late : List LateWrite) (s : State), s.running = true →
    let frame := s.exc.frameNumber + 1
    let filter (c : ReportChannel) : Nat := ((vcWrites writes s).port.wordAt (dirAddr c.number 2)).toNat
    let due (c : ReportChannel) : Prop :=
      (s.reportRow c.row).changePending = true ∨
        (c ≠ .orderResult ∧ (frame.toNat % 256) &&& (filter c / 256) = filter c % 256)
    ∃ t, exec (.reportFrame writes late) s = .next t ∧ t.exc.frameNumber = frame ∧
      t.exc.sweepCount = s.exc.sweepCount ∧ t.exc.orders = s.exc.orders ∧ t.port.attnEn = s.port.attnEn ∧
      t.port.powerUps = s.port.powerUps ∧
      t = { s with exc := t.exc, faults := { s.faults with cursor := t.faults.cursor }, port := t.port } ∧
      (late = [] → MemoryInv s →
        t.port.wordAt (statusAddr 2) = frame ∧
        ∀ c : ReportChannel,
          (¬due c → t.reportRow c.row = s.reportRow c.row) ∧
          (due c →
            ((∃ k : CellIndex, (t.reportRow c.row).published = some k) ∧
              (t.reportRow c.row).sequence = (s.reportRow c.row).sequence + 1 ∧
              (t.reportRow c.row).skips = (s.reportRow c.row).skips ∧ (t.reportRow c.row).changePending = false) ∨
            (t.reportRow c.row =
                { s.reportRow c.row with skips := min ((s.reportRow c.row).skips + 1) 65535 } ∧
              t.causeSet .reportSkipped = true)))

/-- A publication that finds no candidate with its block inside the data area is skipped and counted; a candidate with its
block outside becomes FREE with BAD_CELL (R177). -/
def Obligations.SkippedPublication : Prop :=
  ∀ (c : ReportChannel) (s : State), (∀ k : CellIndex, Candidate c s k → blockInside k (s.port.offsetOf k) = false) →
    let t := publish [] c s
    (MemoryInv s → ∀ k : CellIndex,
      (Candidate c s k → t.port.wordAt (headerAddr k 1) = packBytes cellFree OutcomeCode.badCell.code) ∧
      (¬Candidate c s k → t.port.wordAt (headerAddr k 1) = s.port.wordAt (headerAddr k 1))) ∧
    (t.reportRow c.row).skips = min ((s.reportRow c.row).skips + 1) 65535 ∧
    (t.reportRow c.row).sequence = (s.reportRow c.row).sequence ∧
    (t.reportRow c.row).changePending = (s.reportRow c.row).changePending ∧ t.faults = s.faults ∧
    t.causeSet .reportSkipped = true ∧ (MemoryInv s → t.port.wordAt (dirAddr c.number 3) = natWord (t.reportRow c.row).skips)

/-- A report written into a chosen cell: the payload, word by word as the channel's layout gives it (section 11.4; R37, R57,
R72, R81, R104, R125, R141, R161, R174, R185), length, stamp, sequence, PUBLISHED, and the published cell (R178); of the data
area only the payload's words are written; the detail cursor moves with a FAULTS report (R162). The outgoing cell becomes HELD
and the channel's held cell where the hold word names it, and a cell held before becomes SPARE; else the outgoing cell becomes
SPARE and the held one stays; with no outgoing cell neither happens. No header of another cell changes, nor the row of another
channel (R178). A publication fills the first candidate whose block lies inside the data area, after each candidate before it
has become FREE with BAD_CELL (R177). -/
def Obligations.FilledReport : Prop :=
  (∀ (c : ReportChannel) (k : CellIndex) (s : State), MemoryInv s → s.exc.names k = false → isLong k = c.long →
    blockInside k (s.port.offsetOf k) = true →
    let t := fill [] c k s
    let length := [24, 14, 16, 34, 13, 16, 12, 14].getD c.row.val 0
    let block := dataAddr (s.port.offsetOf k)
    (t.reportRow c.row).published = some k ∧ (t.reportRow c.row).sequence = (s.reportRow c.row).sequence + 1 ∧
    (t.reportRow c.row).changePending = false ∧ t.port.cellState k = cellPublished ∧
    t.port.wordAt (headerAddr k 2) = (s.reportRow c.row).sequence + 1 ∧
    t.port.wordAt (headerAddr k 3) = BitVec.ofNat 16 length ∧ t.port.wordAt (headerAddr k 5) = s.exc.frameNumber ∧
    t.port.wordAt (dirAddr c.number 0) = indexWord (some k) ∧
    ReportWords c s t.faults.cursor (t.port.wordsAt block length) ∧ CursorFollows c s t ∧
    (∀ a : Nat, 0xD80 ≤ a → a < block ∨ block + 2 * length ≤ a → t.port.byteAt a = s.port.byteAt a) ∧
    (c = .orderResult → t.causeSet .orderDone = true) ∧
    (∀ o : CellIndex, (s.reportRow c.row).published = some o →
      (s.port.wordAt (dirAddr c.number 1) = indexWord (some o) → (s.reportRow c.row).held ≠ some o →
        (t.reportRow c.row).held = some o ∧ t.port.cellState o = cellHeld ∧
        ∀ h : CellIndex, (s.reportRow c.row).held = some h → t.port.cellState h = cellSpare) ∧
      (s.port.wordAt (dirAddr c.number 1) ≠ indexWord (some o) →
        (t.reportRow c.row).held = (s.reportRow c.row).held ∧ t.port.cellState o = cellSpare)) ∧
    ((s.reportRow c.row).published = none → (t.reportRow c.row).held = (s.reportRow c.row).held) ∧
    (∀ j : CellIndex, j ≠ k → (s.reportRow c.row).published ≠ some j →
      ((s.reportRow c.row).held = some j →
        ∀ o : CellIndex, (s.reportRow c.row).published = some o →
          s.port.wordAt (dirAddr c.number 1) ≠ indexWord (some o)) →
      t.port.wordsAt (headerAddr j 0) 6 = s.port.wordsAt (headerAddr j 0) 6) ∧
    (∀ i : Fin 8, i ≠ c.row → t.reportRow i = s.reportRow i)) ∧
  (∀ (c : ReportChannel) (k : CellIndex) (s : State), MemoryInv s → Candidate c s k →
    blockInside k (s.port.offsetOf k) = true →
    (∀ j : CellIndex, j < k → Candidate c s j → blockInside j (s.port.offsetOf j) = false) →
    ∃ p : Port, publish [] c s = fill [] c k { s with port := p } ∧ Memory.wf p.ram = true ∧
      p.attn = s.port.attn ∧ p.attnEn = s.port.attnEn ∧ p.powerUps = s.port.powerUps ∧
      (∀ j : CellIndex, j < k → Candidate c s j →
        p.wordAt (headerAddr j 1) = packBytes cellFree OutcomeCode.badCell.code) ∧
      ∀ a : Nat, (∀ j : CellIndex, j < k → Candidate c s j → a ≠ headerAddr j 1 ∧ a ≠ headerAddr j 1 + 1) →
        p.byteAt a = s.port.byteAt a)

/-! ## Invariants that every step keeps -/

/-- The exchange RAM keeps its canonical form. -/
def Obligations.StepKeepsMemoryInv : Prop := ∀ s t : State, MemoryInv s → step s = .next t → MemoryInv t

/-- The ring records agree, and the log holds at most 64 unread entries (R142, R146). -/
def Obligations.StepKeepsLogInv : Prop := ∀ s t : State, LogInv s → step s = .next t → LogInv t

/-- A counter's warned level never exceeds the level its value and thresholds warrant (R130). -/
def Obligations.StepKeepsWarnedInv : Prop := ∀ s t : State, WarnedInv s → step s = .next t → WarnedInv t

/-- No cell is twice in the internal channel table (R168). -/
def Obligations.StepKeepsChannelInv : Prop := ∀ s t : State, ChannelInv s → step s = .next t → ChannelInv t

/-- The clutch position command is above zero only while RUNNING and CLOSING, COUPLED or OPENING (R101), and the count of
failed crank attempts never exceeds three (R88). -/
def Obligations.StepKeepsClutchAndCrankInv : Prop :=
  (∀ s t : State, ClutchInv s → step s = .next t → ClutchInv t) ∧
  (∀ s t : State, CrankInv s → step s = .next t → CrankInv t)

/-- The charge content stays between 0 and the capacity in force (R41). -/
def Obligations.StepKeepsChargeInv : Prop := ∀ s t : State, ChargeInv s → step s = .next t → ChargeInv t

/-- The contactors: POS OPEN in STANDBY and FAULTED, CLOSED together with PRE only during the settle delay (R2). -/
def Obligations.StepKeepsContactorInv : Prop := ∀ s t : State, ContactorInv s → step s = .next t → ContactorInv t
end

