-- ==== Sys2Proof/Laws/State.lean ====
section
/-! SUPPORT. One lemma per field per update of the state, each true by definition. -/

namespace Sys2Proof.Machine

variable (s : State)


@[simp] theorem withDsv_supply (d : Dsv) : (s.withDsv d).supply = s.supply := rfl
@[simp] theorem withDsv_dsv (d : Dsv) : (s.withDsv d).dsv = d := rfl
@[simp] theorem withDsv_faults (d : Dsv) : (s.withDsv d).faults = s.faults := rfl
@[simp] theorem withDsv_sns (d : Dsv) : (s.withDsv d).sns = s.sns := rfl
@[simp] theorem withDsv_ena (d : Dsv) : (s.withDsv d).ena = s.ena := rfl
@[simp] theorem withDsv_spl (d : Dsv) : (s.withDsv d).spl = s.spl := rfl
@[simp] theorem withDsv_tqa (d : Dsv) : (s.withDsv d).tqa = s.tqa := rfl
@[simp] theorem withDsv_cpl (d : Dsv) : (s.withDsv d).cpl = s.cpl := rfl
@[simp] theorem withDsv_bbl (d : Dsv) : (s.withDsv d).bbl = s.bbl := rfl
@[simp] theorem withDsv_wear (d : Dsv) : (s.withDsv d).wear = s.wear := rfl
@[simp] theorem withDsv_log (d : Dsv) : (s.withDsv d).log = s.log := rfl
@[simp] theorem withDsv_exc (d : Dsv) : (s.withDsv d).exc = s.exc := rfl
@[simp] theorem withDsv_port (d : Dsv) : (s.withDsv d).port = s.port := rfl
@[simp] theorem withDsv_sent (d : Dsv) : (s.withDsv d).sent = s.sent := rfl
@[simp] theorem withDsv_pending (d : Dsv) : (s.withDsv d).pending = s.pending := rfl

@[simp] theorem withSns_supply (n : Sns) : (s.withSns n).supply = s.supply := rfl
@[simp] theorem withSns_dsv (n : Sns) : (s.withSns n).dsv = s.dsv := rfl
@[simp] theorem withSns_faults (n : Sns) : (s.withSns n).faults = s.faults := rfl
@[simp] theorem withSns_sns (n : Sns) : (s.withSns n).sns = n := rfl
@[simp] theorem withSns_ena (n : Sns) : (s.withSns n).ena = s.ena := rfl
@[simp] theorem withSns_spl (n : Sns) : (s.withSns n).spl = s.spl := rfl
@[simp] theorem withSns_tqa (n : Sns) : (s.withSns n).tqa = s.tqa := rfl
@[simp] theorem withSns_cpl (n : Sns) : (s.withSns n).cpl = s.cpl := rfl
@[simp] theorem withSns_bbl (n : Sns) : (s.withSns n).bbl = s.bbl := rfl
@[simp] theorem withSns_wear (n : Sns) : (s.withSns n).wear = s.wear := rfl
@[simp] theorem withSns_log (n : Sns) : (s.withSns n).log = s.log := rfl
@[simp] theorem withSns_exc (n : Sns) : (s.withSns n).exc = s.exc := rfl
@[simp] theorem withSns_port (n : Sns) : (s.withSns n).port = s.port := rfl
@[simp] theorem withSns_sent (n : Sns) : (s.withSns n).sent = s.sent := rfl
@[simp] theorem withSns_pending (n : Sns) : (s.withSns n).pending = s.pending := rfl

@[simp] theorem withEna_supply (e : Ena) : (s.withEna e).supply = s.supply := rfl
@[simp] theorem withEna_dsv (e : Ena) : (s.withEna e).dsv = s.dsv := rfl
@[simp] theorem withEna_faults (e : Ena) : (s.withEna e).faults = s.faults := rfl
@[simp] theorem withEna_sns (e : Ena) : (s.withEna e).sns = s.sns := rfl
@[simp] theorem withEna_ena (e : Ena) : (s.withEna e).ena = e := rfl
@[simp] theorem withEna_spl (e : Ena) : (s.withEna e).spl = s.spl := rfl
@[simp] theorem withEna_tqa (e : Ena) : (s.withEna e).tqa = s.tqa := rfl
@[simp] theorem withEna_cpl (e : Ena) : (s.withEna e).cpl = s.cpl := rfl
@[simp] theorem withEna_bbl (e : Ena) : (s.withEna e).bbl = s.bbl := rfl
@[simp] theorem withEna_wear (e : Ena) : (s.withEna e).wear = s.wear := rfl
@[simp] theorem withEna_log (e : Ena) : (s.withEna e).log = s.log := rfl
@[simp] theorem withEna_exc (e : Ena) : (s.withEna e).exc = s.exc := rfl
@[simp] theorem withEna_port (e : Ena) : (s.withEna e).port = s.port := rfl
@[simp] theorem withEna_sent (e : Ena) : (s.withEna e).sent = s.sent := rfl
@[simp] theorem withEna_pending (e : Ena) : (s.withEna e).pending = s.pending := rfl

@[simp] theorem withSpl_supply (p : Spl) : (s.withSpl p).supply = s.supply := rfl
@[simp] theorem withSpl_dsv (p : Spl) : (s.withSpl p).dsv = s.dsv := rfl
@[simp] theorem withSpl_faults (p : Spl) : (s.withSpl p).faults = s.faults := rfl
@[simp] theorem withSpl_sns (p : Spl) : (s.withSpl p).sns = s.sns := rfl
@[simp] theorem withSpl_ena (p : Spl) : (s.withSpl p).ena = s.ena := rfl
@[simp] theorem withSpl_spl (p : Spl) : (s.withSpl p).spl = p := rfl
@[simp] theorem withSpl_tqa (p : Spl) : (s.withSpl p).tqa = s.tqa := rfl
@[simp] theorem withSpl_cpl (p : Spl) : (s.withSpl p).cpl = s.cpl := rfl
@[simp] theorem withSpl_bbl (p : Spl) : (s.withSpl p).bbl = s.bbl := rfl
@[simp] theorem withSpl_wear (p : Spl) : (s.withSpl p).wear = s.wear := rfl
@[simp] theorem withSpl_log (p : Spl) : (s.withSpl p).log = s.log := rfl
@[simp] theorem withSpl_exc (p : Spl) : (s.withSpl p).exc = s.exc := rfl
@[simp] theorem withSpl_port (p : Spl) : (s.withSpl p).port = s.port := rfl
@[simp] theorem withSpl_sent (p : Spl) : (s.withSpl p).sent = s.sent := rfl
@[simp] theorem withSpl_pending (p : Spl) : (s.withSpl p).pending = s.pending := rfl

@[simp] theorem withCpl_supply (c : Cpl) : (s.withCpl c).supply = s.supply := rfl
@[simp] theorem withCpl_dsv (c : Cpl) : (s.withCpl c).dsv = s.dsv := rfl
@[simp] theorem withCpl_faults (c : Cpl) : (s.withCpl c).faults = s.faults := rfl
@[simp] theorem withCpl_sns (c : Cpl) : (s.withCpl c).sns = s.sns := rfl
@[simp] theorem withCpl_ena (c : Cpl) : (s.withCpl c).ena = s.ena := rfl
@[simp] theorem withCpl_spl (c : Cpl) : (s.withCpl c).spl = s.spl := rfl
@[simp] theorem withCpl_tqa (c : Cpl) : (s.withCpl c).tqa = s.tqa := rfl
@[simp] theorem withCpl_cpl (c : Cpl) : (s.withCpl c).cpl = c := rfl
@[simp] theorem withCpl_bbl (c : Cpl) : (s.withCpl c).bbl = s.bbl := rfl
@[simp] theorem withCpl_wear (c : Cpl) : (s.withCpl c).wear = s.wear := rfl
@[simp] theorem withCpl_log (c : Cpl) : (s.withCpl c).log = s.log := rfl
@[simp] theorem withCpl_exc (c : Cpl) : (s.withCpl c).exc = s.exc := rfl
@[simp] theorem withCpl_port (c : Cpl) : (s.withCpl c).port = s.port := rfl
@[simp] theorem withCpl_sent (c : Cpl) : (s.withCpl c).sent = s.sent := rfl
@[simp] theorem withCpl_pending (c : Cpl) : (s.withCpl c).pending = s.pending := rfl

@[simp] theorem withBbl_supply (b : Bbl) : (s.withBbl b).supply = s.supply := rfl
@[simp] theorem withBbl_dsv (b : Bbl) : (s.withBbl b).dsv = s.dsv := rfl
@[simp] theorem withBbl_faults (b : Bbl) : (s.withBbl b).faults = s.faults := rfl
@[simp] theorem withBbl_sns (b : Bbl) : (s.withBbl b).sns = s.sns := rfl
@[simp] theorem withBbl_ena (b : Bbl) : (s.withBbl b).ena = s.ena := rfl
@[simp] theorem withBbl_spl (b : Bbl) : (s.withBbl b).spl = s.spl := rfl
@[simp] theorem withBbl_tqa (b : Bbl) : (s.withBbl b).tqa = s.tqa := rfl
@[simp] theorem withBbl_cpl (b : Bbl) : (s.withBbl b).cpl = s.cpl := rfl
@[simp] theorem withBbl_bbl (b : Bbl) : (s.withBbl b).bbl = b := rfl
@[simp] theorem withBbl_wear (b : Bbl) : (s.withBbl b).wear = s.wear := rfl
@[simp] theorem withBbl_log (b : Bbl) : (s.withBbl b).log = s.log := rfl
@[simp] theorem withBbl_exc (b : Bbl) : (s.withBbl b).exc = s.exc := rfl
@[simp] theorem withBbl_port (b : Bbl) : (s.withBbl b).port = s.port := rfl
@[simp] theorem withBbl_sent (b : Bbl) : (s.withBbl b).sent = s.sent := rfl
@[simp] theorem withBbl_pending (b : Bbl) : (s.withBbl b).pending = s.pending := rfl

@[simp] theorem withPending_supply (q : List Instr) : (s.withPending q).supply = s.supply := rfl
@[simp] theorem withPending_dsv (q : List Instr) : (s.withPending q).dsv = s.dsv := rfl
@[simp] theorem withPending_faults (q : List Instr) : (s.withPending q).faults = s.faults := rfl
@[simp] theorem withPending_sns (q : List Instr) : (s.withPending q).sns = s.sns := rfl
@[simp] theorem withPending_ena (q : List Instr) : (s.withPending q).ena = s.ena := rfl
@[simp] theorem withPending_spl (q : List Instr) : (s.withPending q).spl = s.spl := rfl
@[simp] theorem withPending_tqa (q : List Instr) : (s.withPending q).tqa = s.tqa := rfl
@[simp] theorem withPending_cpl (q : List Instr) : (s.withPending q).cpl = s.cpl := rfl
@[simp] theorem withPending_bbl (q : List Instr) : (s.withPending q).bbl = s.bbl := rfl
@[simp] theorem withPending_wear (q : List Instr) : (s.withPending q).wear = s.wear := rfl
@[simp] theorem withPending_log (q : List Instr) : (s.withPending q).log = s.log := rfl
@[simp] theorem withPending_exc (q : List Instr) : (s.withPending q).exc = s.exc := rfl
@[simp] theorem withPending_port (q : List Instr) : (s.withPending q).port = s.port := rfl
@[simp] theorem withPending_sent (q : List Instr) : (s.withPending q).sent = s.sent := rfl
@[simp] theorem withPending_pending (q : List Instr) : (s.withPending q).pending = q := rfl

@[simp] theorem setCause_supply (c : Cause) : (setCause c s).supply = s.supply := rfl
@[simp] theorem setCause_dsv (c : Cause) : (setCause c s).dsv = s.dsv := rfl
@[simp] theorem setCause_faults (c : Cause) : (setCause c s).faults = s.faults := rfl
@[simp] theorem setCause_sns (c : Cause) : (setCause c s).sns = s.sns := rfl
@[simp] theorem setCause_ena (c : Cause) : (setCause c s).ena = s.ena := rfl
@[simp] theorem setCause_spl (c : Cause) : (setCause c s).spl = s.spl := rfl
@[simp] theorem setCause_tqa (c : Cause) : (setCause c s).tqa = s.tqa := rfl
@[simp] theorem setCause_cpl (c : Cause) : (setCause c s).cpl = s.cpl := rfl
@[simp] theorem setCause_bbl (c : Cause) : (setCause c s).bbl = s.bbl := rfl
@[simp] theorem setCause_wear (c : Cause) : (setCause c s).wear = s.wear := rfl
@[simp] theorem setCause_log (c : Cause) : (setCause c s).log = s.log := rfl
@[simp] theorem setCause_exc (c : Cause) : (setCause c s).exc = s.exc := rfl
@[simp] theorem setCause_port (c : Cause) : (setCause c s).port = s.port.setCause c := rfl
@[simp] theorem setCause_sent (c : Cause) : (setCause c s).sent = s.sent := rfl
@[simp] theorem setCause_pending (c : Cause) : (setCause c s).pending = s.pending := rfl

@[simp] theorem setStatus_supply (i : Nat) (w : Word) : (setStatus i w s).supply = s.supply := rfl
@[simp] theorem setStatus_dsv (i : Nat) (w : Word) : (setStatus i w s).dsv = s.dsv := rfl
@[simp] theorem setStatus_faults (i : Nat) (w : Word) : (setStatus i w s).faults = s.faults := rfl
@[simp] theorem setStatus_sns (i : Nat) (w : Word) : (setStatus i w s).sns = s.sns := rfl
@[simp] theorem setStatus_ena (i : Nat) (w : Word) : (setStatus i w s).ena = s.ena := rfl
@[simp] theorem setStatus_spl (i : Nat) (w : Word) : (setStatus i w s).spl = s.spl := rfl
@[simp] theorem setStatus_tqa (i : Nat) (w : Word) : (setStatus i w s).tqa = s.tqa := rfl
@[simp] theorem setStatus_cpl (i : Nat) (w : Word) : (setStatus i w s).cpl = s.cpl := rfl
@[simp] theorem setStatus_bbl (i : Nat) (w : Word) : (setStatus i w s).bbl = s.bbl := rfl
@[simp] theorem setStatus_wear (i : Nat) (w : Word) : (setStatus i w s).wear = s.wear := rfl
@[simp] theorem setStatus_log (i : Nat) (w : Word) : (setStatus i w s).log = s.log := rfl
@[simp] theorem setStatus_exc (i : Nat) (w : Word) : (setStatus i w s).exc = s.exc := rfl
@[simp] theorem setStatus_port (i : Nat) (w : Word) : (setStatus i w s).port = s.port.setStatus i w := rfl
@[simp] theorem setStatus_sent (i : Nat) (w : Word) : (setStatus i w s).sent = s.sent := rfl
@[simp] theorem setStatus_pending (i : Nat) (w : Word) : (setStatus i w s).pending = s.pending := rfl

@[simp] theorem setRamWord_supply (a : Nat) (w : Word) : (setRamWord a w s).supply = s.supply := rfl
@[simp] theorem setRamWord_dsv (a : Nat) (w : Word) : (setRamWord a w s).dsv = s.dsv := rfl
@[simp] theorem setRamWord_faults (a : Nat) (w : Word) : (setRamWord a w s).faults = s.faults := rfl
@[simp] theorem setRamWord_sns (a : Nat) (w : Word) : (setRamWord a w s).sns = s.sns := rfl
@[simp] theorem setRamWord_ena (a : Nat) (w : Word) : (setRamWord a w s).ena = s.ena := rfl
@[simp] theorem setRamWord_spl (a : Nat) (w : Word) : (setRamWord a w s).spl = s.spl := rfl
@[simp] theorem setRamWord_tqa (a : Nat) (w : Word) : (setRamWord a w s).tqa = s.tqa := rfl
@[simp] theorem setRamWord_cpl (a : Nat) (w : Word) : (setRamWord a w s).cpl = s.cpl := rfl
@[simp] theorem setRamWord_bbl (a : Nat) (w : Word) : (setRamWord a w s).bbl = s.bbl := rfl
@[simp] theorem setRamWord_wear (a : Nat) (w : Word) : (setRamWord a w s).wear = s.wear := rfl
@[simp] theorem setRamWord_log (a : Nat) (w : Word) : (setRamWord a w s).log = s.log := rfl
@[simp] theorem setRamWord_exc (a : Nat) (w : Word) : (setRamWord a w s).exc = s.exc := rfl
@[simp] theorem setRamWord_port (a : Nat) (w : Word) : (setRamWord a w s).port = s.port.setWord a w := rfl
@[simp] theorem setRamWord_sent (a : Nat) (w : Word) : (setRamWord a w s).sent = s.sent := rfl
@[simp] theorem setRamWord_pending (a : Nat) (w : Word) : (setRamWord a w s).pending = s.pending := rfl

@[simp] theorem setCell_supply (k : CellIndex) (x y : Nat) : (setCell k x y s).supply = s.supply := rfl
@[simp] theorem setCell_dsv (k : CellIndex) (x y : Nat) : (setCell k x y s).dsv = s.dsv := rfl
@[simp] theorem setCell_faults (k : CellIndex) (x y : Nat) : (setCell k x y s).faults = s.faults := rfl
@[simp] theorem setCell_sns (k : CellIndex) (x y : Nat) : (setCell k x y s).sns = s.sns := rfl
@[simp] theorem setCell_ena (k : CellIndex) (x y : Nat) : (setCell k x y s).ena = s.ena := rfl
@[simp] theorem setCell_spl (k : CellIndex) (x y : Nat) : (setCell k x y s).spl = s.spl := rfl
@[simp] theorem setCell_tqa (k : CellIndex) (x y : Nat) : (setCell k x y s).tqa = s.tqa := rfl
@[simp] theorem setCell_cpl (k : CellIndex) (x y : Nat) : (setCell k x y s).cpl = s.cpl := rfl
@[simp] theorem setCell_bbl (k : CellIndex) (x y : Nat) : (setCell k x y s).bbl = s.bbl := rfl
@[simp] theorem setCell_wear (k : CellIndex) (x y : Nat) : (setCell k x y s).wear = s.wear := rfl
@[simp] theorem setCell_log (k : CellIndex) (x y : Nat) : (setCell k x y s).log = s.log := rfl
@[simp] theorem setCell_exc (k : CellIndex) (x y : Nat) : (setCell k x y s).exc = s.exc := rfl
@[simp] theorem setCell_port (k : CellIndex) (x y : Nat) : (setCell k x y s).port = s.port.setCell k x y := rfl
@[simp] theorem setCell_sent (k : CellIndex) (x y : Nat) : (setCell k x y s).sent = s.sent := rfl
@[simp] theorem setCell_pending (k : CellIndex) (x y : Nat) : (setCell k x y s).pending = s.pending := rfl

@[simp] theorem setCellState_supply (k : CellIndex) (x : Nat) : (setCellState k x s).supply = s.supply := rfl
@[simp] theorem setCellState_dsv (k : CellIndex) (x : Nat) : (setCellState k x s).dsv = s.dsv := rfl
@[simp] theorem setCellState_faults (k : CellIndex) (x : Nat) : (setCellState k x s).faults = s.faults := rfl
@[simp] theorem setCellState_sns (k : CellIndex) (x : Nat) : (setCellState k x s).sns = s.sns := rfl
@[simp] theorem setCellState_ena (k : CellIndex) (x : Nat) : (setCellState k x s).ena = s.ena := rfl
@[simp] theorem setCellState_spl (k : CellIndex) (x : Nat) : (setCellState k x s).spl = s.spl := rfl
@[simp] theorem setCellState_tqa (k : CellIndex) (x : Nat) : (setCellState k x s).tqa = s.tqa := rfl
@[simp] theorem setCellState_cpl (k : CellIndex) (x : Nat) : (setCellState k x s).cpl = s.cpl := rfl
@[simp] theorem setCellState_bbl (k : CellIndex) (x : Nat) : (setCellState k x s).bbl = s.bbl := rfl
@[simp] theorem setCellState_wear (k : CellIndex) (x : Nat) : (setCellState k x s).wear = s.wear := rfl
@[simp] theorem setCellState_log (k : CellIndex) (x : Nat) : (setCellState k x s).log = s.log := rfl
@[simp] theorem setCellState_exc (k : CellIndex) (x : Nat) : (setCellState k x s).exc = s.exc := rfl
@[simp] theorem setCellState_port (k : CellIndex) (x : Nat) : (setCellState k x s).port = s.port.setCellState k x := rfl
@[simp] theorem setCellState_sent (k : CellIndex) (x : Nat) : (setCellState k x s).sent = s.sent := rfl
@[simp] theorem setCellState_pending (k : CellIndex) (x : Nat) : (setCellState k x s).pending = s.pending := rfl

@[simp] theorem vcWrites_supply (ws : List VcWrite) : (vcWrites ws s).supply = s.supply := rfl
@[simp] theorem vcWrites_dsv (ws : List VcWrite) : (vcWrites ws s).dsv = s.dsv := rfl
@[simp] theorem vcWrites_faults (ws : List VcWrite) : (vcWrites ws s).faults = s.faults := rfl
@[simp] theorem vcWrites_sns (ws : List VcWrite) : (vcWrites ws s).sns = s.sns := rfl
@[simp] theorem vcWrites_ena (ws : List VcWrite) : (vcWrites ws s).ena = s.ena := rfl
@[simp] theorem vcWrites_spl (ws : List VcWrite) : (vcWrites ws s).spl = s.spl := rfl
@[simp] theorem vcWrites_tqa (ws : List VcWrite) : (vcWrites ws s).tqa = s.tqa := rfl
@[simp] theorem vcWrites_cpl (ws : List VcWrite) : (vcWrites ws s).cpl = s.cpl := rfl
@[simp] theorem vcWrites_bbl (ws : List VcWrite) : (vcWrites ws s).bbl = s.bbl := rfl
@[simp] theorem vcWrites_wear (ws : List VcWrite) : (vcWrites ws s).wear = s.wear := rfl
@[simp] theorem vcWrites_log (ws : List VcWrite) : (vcWrites ws s).log = s.log := rfl
@[simp] theorem vcWrites_exc (ws : List VcWrite) : (vcWrites ws s).exc = s.exc := rfl
@[simp] theorem vcWrites_port (ws : List VcWrite) : (vcWrites ws s).port = s.port.vcWrites ws := rfl
@[simp] theorem vcWrites_sent (ws : List VcWrite) : (vcWrites ws s).sent = s.sent := rfl
@[simp] theorem vcWrites_pending (ws : List VcWrite) : (vcWrites ws s).pending = s.pending := rfl

@[simp] theorem rewriteStatus_supply : (rewriteStatus s).supply = s.supply := by simp only [rewriteStatus]
@[simp] theorem rewriteStatus_dsv : (rewriteStatus s).dsv = s.dsv := by simp only [rewriteStatus]
@[simp] theorem rewriteStatus_faults : (rewriteStatus s).faults = s.faults := by simp only [rewriteStatus]
@[simp] theorem rewriteStatus_sns : (rewriteStatus s).sns = s.sns := by simp only [rewriteStatus]
@[simp] theorem rewriteStatus_ena : (rewriteStatus s).ena = s.ena := by simp only [rewriteStatus]
@[simp] theorem rewriteStatus_spl : (rewriteStatus s).spl = s.spl := by simp only [rewriteStatus]
@[simp] theorem rewriteStatus_tqa : (rewriteStatus s).tqa = s.tqa := by simp only [rewriteStatus]
@[simp] theorem rewriteStatus_cpl : (rewriteStatus s).cpl = s.cpl := by simp only [rewriteStatus]
@[simp] theorem rewriteStatus_bbl : (rewriteStatus s).bbl = s.bbl := by simp only [rewriteStatus]
@[simp] theorem rewriteStatus_wear : (rewriteStatus s).wear = s.wear := by simp only [rewriteStatus]
@[simp] theorem rewriteStatus_log : (rewriteStatus s).log = s.log := by simp only [rewriteStatus]
@[simp] theorem rewriteStatus_exc : (rewriteStatus s).exc = s.exc := by simp only [rewriteStatus]
@[simp] theorem rewriteStatus_port : (rewriteStatus s).port = s.port.setWords (statusAddr 0) (statusWords s) := by simp only [rewriteStatus]
@[simp] theorem rewriteStatus_sent : (rewriteStatus s).sent = s.sent := by simp only [rewriteStatus]
@[simp] theorem rewriteStatus_pending : (rewriteStatus s).pending = s.pending := by simp only [rewriteStatus]

@[simp] theorem send_supply (m : FieldMessage) : (send m s).supply = s.supply := rfl
@[simp] theorem send_dsv (m : FieldMessage) : (send m s).dsv = s.dsv := rfl
@[simp] theorem send_faults (m : FieldMessage) : (send m s).faults = s.faults := rfl
@[simp] theorem send_sns (m : FieldMessage) : (send m s).sns = s.sns := rfl
@[simp] theorem send_ena (m : FieldMessage) : (send m s).ena = s.ena := rfl
@[simp] theorem send_spl (m : FieldMessage) : (send m s).spl = s.spl := rfl
@[simp] theorem send_tqa (m : FieldMessage) : (send m s).tqa = s.tqa := rfl
@[simp] theorem send_cpl (m : FieldMessage) : (send m s).cpl = s.cpl := rfl
@[simp] theorem send_bbl (m : FieldMessage) : (send m s).bbl = s.bbl := rfl
@[simp] theorem send_wear (m : FieldMessage) : (send m s).wear = s.wear := rfl
@[simp] theorem send_log (m : FieldMessage) : (send m s).log = s.log := rfl
@[simp] theorem send_exc (m : FieldMessage) : (send m s).exc = s.exc := rfl
@[simp] theorem send_port (m : FieldMessage) : (send m s).port = s.port := rfl
@[simp] theorem send_sent (m : FieldMessage) : (send m s).sent = m :: s.sent := rfl
@[simp] theorem send_pending (m : FieldMessage) : (send m s).pending = s.pending := rfl

@[simp] theorem requestReport_supply (i : Fin 8) : (requestReport i s).supply = s.supply := rfl
@[simp] theorem requestReport_dsv (i : Fin 8) : (requestReport i s).dsv = s.dsv := rfl
@[simp] theorem requestReport_faults (i : Fin 8) : (requestReport i s).faults = s.faults := rfl
@[simp] theorem requestReport_sns (i : Fin 8) : (requestReport i s).sns = s.sns := rfl
@[simp] theorem requestReport_ena (i : Fin 8) : (requestReport i s).ena = s.ena := rfl
@[simp] theorem requestReport_spl (i : Fin 8) : (requestReport i s).spl = s.spl := rfl
@[simp] theorem requestReport_tqa (i : Fin 8) : (requestReport i s).tqa = s.tqa := rfl
@[simp] theorem requestReport_cpl (i : Fin 8) : (requestReport i s).cpl = s.cpl := rfl
@[simp] theorem requestReport_bbl (i : Fin 8) : (requestReport i s).bbl = s.bbl := rfl
@[simp] theorem requestReport_wear (i : Fin 8) : (requestReport i s).wear = s.wear := rfl
@[simp] theorem requestReport_log (i : Fin 8) : (requestReport i s).log = s.log := rfl
@[simp] theorem requestReport_port (i : Fin 8) : (requestReport i s).port = s.port := rfl
@[simp] theorem requestReport_sent (i : Fin 8) : (requestReport i s).sent = s.sent := rfl
@[simp] theorem requestReport_pending (i : Fin 8) : (requestReport i s).pending = s.pending := rfl

@[simp] theorem setOrderRow_supply (c : OrderChannel) (r : OrderRow) : (setOrderRow c r s).supply = s.supply := rfl
@[simp] theorem setOrderRow_dsv (c : OrderChannel) (r : OrderRow) : (setOrderRow c r s).dsv = s.dsv := rfl
@[simp] theorem setOrderRow_faults (c : OrderChannel) (r : OrderRow) : (setOrderRow c r s).faults = s.faults := rfl
@[simp] theorem setOrderRow_sns (c : OrderChannel) (r : OrderRow) : (setOrderRow c r s).sns = s.sns := rfl
@[simp] theorem setOrderRow_ena (c : OrderChannel) (r : OrderRow) : (setOrderRow c r s).ena = s.ena := rfl
@[simp] theorem setOrderRow_spl (c : OrderChannel) (r : OrderRow) : (setOrderRow c r s).spl = s.spl := rfl
@[simp] theorem setOrderRow_tqa (c : OrderChannel) (r : OrderRow) : (setOrderRow c r s).tqa = s.tqa := rfl
@[simp] theorem setOrderRow_cpl (c : OrderChannel) (r : OrderRow) : (setOrderRow c r s).cpl = s.cpl := rfl
@[simp] theorem setOrderRow_bbl (c : OrderChannel) (r : OrderRow) : (setOrderRow c r s).bbl = s.bbl := rfl
@[simp] theorem setOrderRow_wear (c : OrderChannel) (r : OrderRow) : (setOrderRow c r s).wear = s.wear := rfl
@[simp] theorem setOrderRow_log (c : OrderChannel) (r : OrderRow) : (setOrderRow c r s).log = s.log := rfl
@[simp] theorem setOrderRow_port (c : OrderChannel) (r : OrderRow) : (setOrderRow c r s).port = s.port := rfl
@[simp] theorem setOrderRow_sent (c : OrderChannel) (r : OrderRow) : (setOrderRow c r s).sent = s.sent := rfl
@[simp] theorem setOrderRow_pending (c : OrderChannel) (r : OrderRow) : (setOrderRow c r s).pending = s.pending := rfl

@[simp] theorem setReportRow_supply (i : Fin 8) (r : ReportRow) : (setReportRow i r s).supply = s.supply := rfl
@[simp] theorem setReportRow_dsv (i : Fin 8) (r : ReportRow) : (setReportRow i r s).dsv = s.dsv := rfl
@[simp] theorem setReportRow_faults (i : Fin 8) (r : ReportRow) : (setReportRow i r s).faults = s.faults := rfl
@[simp] theorem setReportRow_sns (i : Fin 8) (r : ReportRow) : (setReportRow i r s).sns = s.sns := rfl
@[simp] theorem setReportRow_ena (i : Fin 8) (r : ReportRow) : (setReportRow i r s).ena = s.ena := rfl
@[simp] theorem setReportRow_spl (i : Fin 8) (r : ReportRow) : (setReportRow i r s).spl = s.spl := rfl
@[simp] theorem setReportRow_tqa (i : Fin 8) (r : ReportRow) : (setReportRow i r s).tqa = s.tqa := rfl
@[simp] theorem setReportRow_cpl (i : Fin 8) (r : ReportRow) : (setReportRow i r s).cpl = s.cpl := rfl
@[simp] theorem setReportRow_bbl (i : Fin 8) (r : ReportRow) : (setReportRow i r s).bbl = s.bbl := rfl
@[simp] theorem setReportRow_wear (i : Fin 8) (r : ReportRow) : (setReportRow i r s).wear = s.wear := rfl
@[simp] theorem setReportRow_log (i : Fin 8) (r : ReportRow) : (setReportRow i r s).log = s.log := rfl
@[simp] theorem setReportRow_port (i : Fin 8) (r : ReportRow) : (setReportRow i r s).port = s.port := rfl
@[simp] theorem setReportRow_sent (i : Fin 8) (r : ReportRow) : (setReportRow i r s).sent = s.sent := rfl
@[simp] theorem setReportRow_pending (i : Fin 8) (r : ReportRow) : (setReportRow i r s).pending = s.pending := rfl

@[simp] theorem setCounter_supply (c : Counter) (r : WearRecord) : (setCounter c r s).supply = s.supply := rfl
@[simp] theorem setCounter_dsv (c : Counter) (r : WearRecord) : (setCounter c r s).dsv = s.dsv := rfl
@[simp] theorem setCounter_faults (c : Counter) (r : WearRecord) : (setCounter c r s).faults = s.faults := rfl
@[simp] theorem setCounter_sns (c : Counter) (r : WearRecord) : (setCounter c r s).sns = s.sns := rfl
@[simp] theorem setCounter_ena (c : Counter) (r : WearRecord) : (setCounter c r s).ena = s.ena := rfl
@[simp] theorem setCounter_spl (c : Counter) (r : WearRecord) : (setCounter c r s).spl = s.spl := rfl
@[simp] theorem setCounter_tqa (c : Counter) (r : WearRecord) : (setCounter c r s).tqa = s.tqa := rfl
@[simp] theorem setCounter_cpl (c : Counter) (r : WearRecord) : (setCounter c r s).cpl = s.cpl := rfl
@[simp] theorem setCounter_bbl (c : Counter) (r : WearRecord) : (setCounter c r s).bbl = s.bbl := rfl
@[simp] theorem setCounter_log (c : Counter) (r : WearRecord) : (setCounter c r s).log = s.log := rfl
@[simp] theorem setCounter_exc (c : Counter) (r : WearRecord) : (setCounter c r s).exc = s.exc := rfl
@[simp] theorem setCounter_port (c : Counter) (r : WearRecord) : (setCounter c r s).port = s.port := rfl
@[simp] theorem setCounter_sent (c : Counter) (r : WearRecord) : (setCounter c r s).sent = s.sent := rfl
@[simp] theorem setCounter_pending (c : Counter) (r : WearRecord) : (setCounter c r s).pending = s.pending := rfl

@[simp] theorem setRecord_supply (k : FaultKind) (r : FaultRecord) : (setRecord k r s).supply = s.supply := rfl
@[simp] theorem setRecord_dsv (k : FaultKind) (r : FaultRecord) : (setRecord k r s).dsv = s.dsv := rfl
@[simp] theorem setRecord_sns (k : FaultKind) (r : FaultRecord) : (setRecord k r s).sns = s.sns := rfl
@[simp] theorem setRecord_ena (k : FaultKind) (r : FaultRecord) : (setRecord k r s).ena = s.ena := rfl
@[simp] theorem setRecord_spl (k : FaultKind) (r : FaultRecord) : (setRecord k r s).spl = s.spl := rfl
@[simp] theorem setRecord_tqa (k : FaultKind) (r : FaultRecord) : (setRecord k r s).tqa = s.tqa := rfl
@[simp] theorem setRecord_cpl (k : FaultKind) (r : FaultRecord) : (setRecord k r s).cpl = s.cpl := rfl
@[simp] theorem setRecord_bbl (k : FaultKind) (r : FaultRecord) : (setRecord k r s).bbl = s.bbl := rfl
@[simp] theorem setRecord_wear (k : FaultKind) (r : FaultRecord) : (setRecord k r s).wear = s.wear := rfl
@[simp] theorem setRecord_log (k : FaultKind) (r : FaultRecord) : (setRecord k r s).log = s.log := rfl
@[simp] theorem setRecord_exc (k : FaultKind) (r : FaultRecord) : (setRecord k r s).exc = s.exc := rfl
@[simp] theorem setRecord_port (k : FaultKind) (r : FaultRecord) : (setRecord k r s).port = s.port := rfl
@[simp] theorem setRecord_sent (k : FaultKind) (r : FaultRecord) : (setRecord k r s).sent = s.sent := rfl
@[simp] theorem setRecord_pending (k : FaultKind) (r : FaultRecord) : (setRecord k r s).pending = s.pending := rfl

@[simp] theorem logAppend_supply (q : Bool) (e : LogEntry) : (logAppend q e s).supply = s.supply := rfl
@[simp] theorem logAppend_dsv (q : Bool) (e : LogEntry) : (logAppend q e s).dsv = s.dsv := rfl
@[simp] theorem logAppend_faults (q : Bool) (e : LogEntry) : (logAppend q e s).faults = s.faults := rfl
@[simp] theorem logAppend_sns (q : Bool) (e : LogEntry) : (logAppend q e s).sns = s.sns := rfl
@[simp] theorem logAppend_ena (q : Bool) (e : LogEntry) : (logAppend q e s).ena = s.ena := rfl
@[simp] theorem logAppend_spl (q : Bool) (e : LogEntry) : (logAppend q e s).spl = s.spl := rfl
@[simp] theorem logAppend_tqa (q : Bool) (e : LogEntry) : (logAppend q e s).tqa = s.tqa := rfl
@[simp] theorem logAppend_cpl (q : Bool) (e : LogEntry) : (logAppend q e s).cpl = s.cpl := rfl
@[simp] theorem logAppend_bbl (q : Bool) (e : LogEntry) : (logAppend q e s).bbl = s.bbl := rfl
@[simp] theorem logAppend_wear (q : Bool) (e : LogEntry) : (logAppend q e s).wear = s.wear := rfl
@[simp] theorem logAppend_log (q : Bool) (e : LogEntry) : (logAppend q e s).log = s.log.afterAppend e := rfl
@[simp] theorem logAppend_exc (q : Bool) (e : LogEntry) : (logAppend q e s).exc = s.exc := rfl
@[simp] theorem logAppend_port (q : Bool) (e : LogEntry) : (logAppend q e s).port = s.port.afterAppend q s.log e := rfl
@[simp] theorem logAppend_sent (q : Bool) (e : LogEntry) : (logAppend q e s).sent = s.sent := rfl
@[simp] theorem logAppend_pending (q : Bool) (e : LogEntry) : (logAppend q e s).pending = s.pending := rfl

@[simp] theorem logNow_supply (k : LogKind) (c : Option Counter) (v : Option Int) : (logNow k c v s).supply = s.supply := rfl
@[simp] theorem logNow_dsv (k : LogKind) (c : Option Counter) (v : Option Int) : (logNow k c v s).dsv = s.dsv := rfl
@[simp] theorem logNow_faults (k : LogKind) (c : Option Counter) (v : Option Int) : (logNow k c v s).faults = s.faults := rfl
@[simp] theorem logNow_sns (k : LogKind) (c : Option Counter) (v : Option Int) : (logNow k c v s).sns = s.sns := rfl
@[simp] theorem logNow_ena (k : LogKind) (c : Option Counter) (v : Option Int) : (logNow k c v s).ena = s.ena := rfl
@[simp] theorem logNow_spl (k : LogKind) (c : Option Counter) (v : Option Int) : (logNow k c v s).spl = s.spl := rfl
@[simp] theorem logNow_tqa (k : LogKind) (c : Option Counter) (v : Option Int) : (logNow k c v s).tqa = s.tqa := rfl
@[simp] theorem logNow_cpl (k : LogKind) (c : Option Counter) (v : Option Int) : (logNow k c v s).cpl = s.cpl := rfl
@[simp] theorem logNow_bbl (k : LogKind) (c : Option Counter) (v : Option Int) : (logNow k c v s).bbl = s.bbl := rfl
@[simp] theorem logNow_wear (k : LogKind) (c : Option Counter) (v : Option Int) : (logNow k c v s).wear = s.wear := rfl
@[simp] theorem logNow_log (k : LogKind) (c : Option Counter) (v : Option Int) : (logNow k c v s).log = s.log.afterAppend (entryNow s k c v none) := rfl
@[simp] theorem logNow_exc (k : LogKind) (c : Option Counter) (v : Option Int) : (logNow k c v s).exc = s.exc := rfl
@[simp] theorem logNow_port (k : LogKind) (c : Option Counter) (v : Option Int) : (logNow k c v s).port = s.port.afterAppend false s.log (entryNow s k c v none) := rfl
@[simp] theorem logNow_sent (k : LogKind) (c : Option Counter) (v : Option Int) : (logNow k c v s).sent = s.sent := rfl
@[simp] theorem logNow_pending (k : LogKind) (c : Option Counter) (v : Option Int) : (logNow k c v s).pending = s.pending := rfl

@[simp] theorem setDrivelineState_supply (st : DrivelineState) : (setDrivelineState st s).supply = s.supply := rfl
@[simp] theorem setDrivelineState_dsv (st : DrivelineState) : (setDrivelineState st s).dsv = { s.dsv with state := st } := rfl
@[simp] theorem setDrivelineState_faults (st : DrivelineState) : (setDrivelineState st s).faults = s.faults := rfl
@[simp] theorem setDrivelineState_sns (st : DrivelineState) : (setDrivelineState st s).sns = s.sns := rfl
@[simp] theorem setDrivelineState_ena (st : DrivelineState) : (setDrivelineState st s).ena = s.ena := rfl
@[simp] theorem setDrivelineState_spl (st : DrivelineState) : (setDrivelineState st s).spl = s.spl := rfl
@[simp] theorem setDrivelineState_tqa (st : DrivelineState) : (setDrivelineState st s).tqa = s.tqa := rfl
@[simp] theorem setDrivelineState_cpl (st : DrivelineState) : (setDrivelineState st s).cpl = s.cpl := rfl
@[simp] theorem setDrivelineState_bbl (st : DrivelineState) : (setDrivelineState st s).bbl = s.bbl := rfl
@[simp] theorem setDrivelineState_wear (st : DrivelineState) : (setDrivelineState st s).wear = s.wear := rfl
@[simp] theorem setDrivelineState_log (st : DrivelineState) : (setDrivelineState st s).log = s.log := rfl
@[simp] theorem setDrivelineState_exc (st : DrivelineState) : (setDrivelineState st s).exc = s.exc := rfl
@[simp] theorem setDrivelineState_port (st : DrivelineState) : (setDrivelineState st s).port = (s.port.setStatus 1 (natWord st.code)).setCause .stateChange := rfl
@[simp] theorem setDrivelineState_sent (st : DrivelineState) : (setDrivelineState st s).sent = s.sent := rfl
@[simp] theorem setDrivelineState_pending (st : DrivelineState) : (setDrivelineState st s).pending = s.pending := rfl

@[simp] theorem setStopCause_supply (c : StopCause) : (setStopCause c s).supply = s.supply := rfl
@[simp] theorem setStopCause_dsv (c : StopCause) : (setStopCause c s).dsv = { s.dsv with stopCause := c } := rfl
@[simp] theorem setStopCause_faults (c : StopCause) : (setStopCause c s).faults = s.faults := rfl
@[simp] theorem setStopCause_sns (c : StopCause) : (setStopCause c s).sns = s.sns := rfl
@[simp] theorem setStopCause_ena (c : StopCause) : (setStopCause c s).ena = s.ena := rfl
@[simp] theorem setStopCause_spl (c : StopCause) : (setStopCause c s).spl = s.spl := rfl
@[simp] theorem setStopCause_tqa (c : StopCause) : (setStopCause c s).tqa = s.tqa := rfl
@[simp] theorem setStopCause_cpl (c : StopCause) : (setStopCause c s).cpl = s.cpl := rfl
@[simp] theorem setStopCause_bbl (c : StopCause) : (setStopCause c s).bbl = s.bbl := rfl
@[simp] theorem setStopCause_wear (c : StopCause) : (setStopCause c s).wear = s.wear := rfl
@[simp] theorem setStopCause_log (c : StopCause) : (setStopCause c s).log = s.log := rfl
@[simp] theorem setStopCause_exc (c : StopCause) : (setStopCause c s).exc = s.exc := rfl
@[simp] theorem setStopCause_port (c : StopCause) : (setStopCause c s).port = s.port := rfl
@[simp] theorem setStopCause_sent (c : StopCause) : (setStopCause c s).sent = s.sent := rfl
@[simp] theorem setStopCause_pending (c : StopCause) : (setStopCause c s).pending = s.pending := rfl

@[simp] theorem notifyFaults_supply : (notifyFaults s).supply = s.supply := rfl
@[simp] theorem notifyFaults_dsv : (notifyFaults s).dsv = s.dsv := rfl
@[simp] theorem notifyFaults_faults : (notifyFaults s).faults = s.faults := rfl
@[simp] theorem notifyFaults_sns : (notifyFaults s).sns = s.sns := rfl
@[simp] theorem notifyFaults_ena : (notifyFaults s).ena = s.ena := rfl
@[simp] theorem notifyFaults_spl : (notifyFaults s).spl = s.spl := rfl
@[simp] theorem notifyFaults_tqa : (notifyFaults s).tqa = s.tqa := rfl
@[simp] theorem notifyFaults_cpl : (notifyFaults s).cpl = s.cpl := rfl
@[simp] theorem notifyFaults_bbl : (notifyFaults s).bbl = s.bbl := rfl
@[simp] theorem notifyFaults_wear : (notifyFaults s).wear = s.wear := rfl
@[simp] theorem notifyFaults_log : (notifyFaults s).log = s.log := rfl
@[simp] theorem notifyFaults_port : (notifyFaults s).port = s.port.setCause .faultChange := rfl
@[simp] theorem notifyFaults_sent : (notifyFaults s).sent = s.sent := rfl
@[simp] theorem notifyFaults_pending : (notifyFaults s).pending = s.pending := rfl

@[simp] theorem forceOpen_supply : (forceOpen s).supply = s.supply := rfl
@[simp] theorem forceOpen_dsv : (forceOpen s).dsv = { s.dsv with negClosed := false, preClosed := false, posClosed := false } := rfl
@[simp] theorem forceOpen_faults : (forceOpen s).faults = s.faults := rfl
@[simp] theorem forceOpen_sns : (forceOpen s).sns = s.sns := rfl
@[simp] theorem forceOpen_ena : (forceOpen s).ena = s.ena := rfl
@[simp] theorem forceOpen_spl : (forceOpen s).spl = s.spl := rfl
@[simp] theorem forceOpen_tqa : (forceOpen s).tqa = s.tqa := rfl
@[simp] theorem forceOpen_cpl : (forceOpen s).cpl = s.cpl := rfl
@[simp] theorem forceOpen_bbl : (forceOpen s).bbl = s.bbl := rfl
@[simp] theorem forceOpen_wear : (forceOpen s).wear = s.wear := rfl
@[simp] theorem forceOpen_log : (forceOpen s).log = s.log := rfl
@[simp] theorem forceOpen_exc : (forceOpen s).exc = s.exc := rfl
@[simp] theorem forceOpen_port : (forceOpen s).port = s.port := rfl
@[simp] theorem forceOpen_sent : (forceOpen s).sent = s.sent := rfl
@[simp] theorem forceOpen_pending : (forceOpen s).pending = s.pending := rfl

end Sys2Proof.Machine
end

