-- ==== Sys2Proof/Laws/Memory.lean ====
section
/-! SUPPORT. The exchange RAM: reading after writing, and the canonical form, which every operation keeps. -/

namespace Sys2Proof.Machine

/-! ## Reading after a change of the list -/

theorem Memory.find_put_same (a : Nat) (b : Byte) (m : Memory) : Memory.find (Memory.put a b m) a = some b := by
  induction m with
  | nil => simp [Memory.put, Memory.find]
  | cons c m ih =>
    obtain ⟨k, v⟩ := c
    rcases Nat.lt_trichotomy a k with h | h | h
    · simp [Memory.put, Memory.find, h]
    · simp [Memory.put, Memory.find, h]
    · simp [Memory.put, Memory.find, Nat.not_lt.2 h.le, h.ne', h.ne, ih]

theorem Memory.find_put_other {a x : Nat} (b : Byte) (m : Memory) (h : x ≠ a) :
    Memory.find (Memory.put a b m) x = Memory.find m x := by
  induction m with
  | nil => simp [Memory.put, Memory.find, h.symm]
  | cons c m ih =>
    obtain ⟨k, v⟩ := c
    rcases Nat.lt_trichotomy a k with h1 | h1 | h1
    · simp [Memory.put, Memory.find, h1, h.symm]
    · subst h1; simp [Memory.put, Memory.find, h.symm]
    · simp [Memory.put, Memory.find, Nat.not_lt.2 h1.le, h1.ne', ih]

theorem Memory.find_drop_other {a x : Nat} (m : Memory) (h : x ≠ a) :
    Memory.find (Memory.drop a m) x = Memory.find m x := by
  induction m with
  | nil => rfl
  | cons c m ih =>
    obtain ⟨k, v⟩ := c
    by_cases h1 : a = k
    · subst h1; simp [Memory.drop, Memory.find, h.symm]
    · simp [Memory.drop, Memory.find, h1, ih]

/-! ## The rising order -/

theorem Memory.rising_cons (a : Nat) (b : Byte) (m : Memory) :
    Memory.rising ((a, b) :: m) = true ↔ (∀ c ∈ m, a < c.1) ∧ Memory.rising m = true := by
  induction m generalizing a b with
  | nil => simp [Memory.rising]
  | cons c m ih =>
    obtain ⟨k, v⟩ := c
    simp only [Memory.rising, Bool.and_eq_true, decide_eq_true_eq, List.mem_cons, forall_eq_or_imp, ih]
    constructor
    · rintro ⟨h1, h2, h3⟩
      exact ⟨⟨h1, fun c hc => h1.trans (h2 c hc)⟩, h2, h3⟩
    · rintro ⟨⟨h1, _⟩, h2, h3⟩
      exact ⟨h1, h2, h3⟩

theorem Memory.mem_put {a : Nat} {b : Byte} {m : Memory} {c : Host.Cell} (h : c ∈ Memory.put a b m) :
    c = (a, b) ∨ c ∈ m := by
  induction m with
  | nil => simpa [Memory.put] using h
  | cons d m ih =>
    obtain ⟨k, v⟩ := d
    simp only [Memory.put] at h
    split at h
    · simpa using h
    · split at h
      · rcases List.mem_cons.1 h with h | h
        · exact .inl h
        · exact .inr (List.mem_cons_of_mem _ h)
      · rcases List.mem_cons.1 h with h | h
        · exact .inr (by simp [h])
        · rcases ih h with h | h
          · exact .inl h
          · exact .inr (List.mem_cons_of_mem _ h)

theorem Memory.mem_drop {a : Nat} {m : Memory} {c : Host.Cell} (h : c ∈ Memory.drop a m) : c ∈ m := by
  induction m with
  | nil => simp [Memory.drop] at h
  | cons d m ih =>
    obtain ⟨k, v⟩ := d
    simp only [Memory.drop] at h
    split at h
    · exact List.mem_cons_of_mem _ h
    · rcases List.mem_cons.1 h with h | h
      · simp [h]
      · exact List.mem_cons_of_mem _ (ih h)

theorem Memory.rising_put (a : Nat) (b : Byte) {m : Memory} (h : Memory.rising m = true) :
    Memory.rising (Memory.put a b m) = true := by
  induction m with
  | nil => rfl
  | cons d m ih =>
    obtain ⟨k, v⟩ := d
    have hk := (Memory.rising_cons k v m).1 h
    simp only [Memory.put]
    split
    · rename_i h1
      refine (Memory.rising_cons _ _ _).2 ⟨?_, h⟩
      intro c hc
      rcases List.mem_cons.1 hc with rfl | hc
      · exact h1
      · exact h1.trans (hk.1 c hc)
    · split
      · rename_i h1
        exact (Memory.rising_cons _ _ _).2 ⟨fun c hc => h1 ▸ hk.1 c hc, hk.2⟩
      · rename_i h1 h2
        refine (Memory.rising_cons _ _ _).2 ⟨?_, ih hk.2⟩
        intro c hc
        rcases Memory.mem_put hc with rfl | hc
        · exact lt_of_le_of_ne (Nat.not_lt.1 h1) (Ne.symm h2)
        · exact hk.1 c hc

theorem Memory.rising_drop (a : Nat) {m : Memory} (h : Memory.rising m = true) :
    Memory.rising (Memory.drop a m) = true := by
  induction m with
  | nil => rfl
  | cons d m ih =>
    obtain ⟨k, v⟩ := d
    have hk := (Memory.rising_cons k v m).1 h
    simp only [Memory.drop]
    split
    · exact hk.2
    · exact (Memory.rising_cons _ _ _).2 ⟨fun c hc => hk.1 c (Memory.mem_drop hc), ih hk.2⟩

theorem Memory.find_eq_none {x : Nat} {m : Memory} (h : ∀ c ∈ m, x < c.1) : Memory.find m x = none := by
  induction m with
  | nil => rfl
  | cons d m ih =>
    obtain ⟨k, v⟩ := d
    have h1 := (h (k, v) (by simp)).ne'
    simp [Memory.find, h1, ih fun c hc => h c (List.mem_cons_of_mem _ hc)]

theorem Memory.find_drop_same (a : Nat) {m : Memory} (h : Memory.rising m = true) :
    Memory.find (Memory.drop a m) a = none := by
  induction m with
  | nil => rfl
  | cons d m ih =>
    obtain ⟨k, v⟩ := d
    have hk := (Memory.rising_cons k v m).1 h
    simp only [Memory.drop]
    split
    · rename_i h1
      subst h1
      exact Memory.find_eq_none hk.1
    · rename_i h1
      simp [Memory.find, Ne.symm h1, ih hk.2]

/-! ## The canonical form -/

theorem Memory.wf_iff (m : Memory) :
    Memory.wf m = true ↔
      Memory.rising m = true ∧ ∀ c ∈ m, c.1 < ramBytes ∧ unlistedByte c.1 ≠ some c.2 := by
  simp [Memory.wf, List.all_eq_true]

/-- A write keeps the canonical form. -/
theorem Memory.wf_store {m : Memory} (a : Nat) (b : Byte) (h : Memory.wf m = true) :
    Memory.wf (Memory.store m a b) = true := by
  rw [Memory.wf_iff] at h ⊢
  unfold Memory.store
  split
  · rename_i ha
    split
    · exact ⟨Memory.rising_drop a h.1, fun c hc => h.2 c (Memory.mem_drop hc)⟩
    · rename_i hb
      refine ⟨Memory.rising_put a b h.1, fun c hc => ?_⟩
      rcases Memory.mem_put hc with rfl | hc
      · exact ⟨ha, hb⟩
      · exact h.2 c hc
  · exact h

theorem Memory.wf_reset : Memory.wf Memory.reset = true := by decide

theorem Memory.rising_filter (f : Host.Cell → Bool) {m : Memory} (h : Memory.rising m = true) :
    Memory.rising (m.filter f) = true := by
  induction m with
  | nil => rfl
  | cons d m ih =>
    obtain ⟨k, v⟩ := d
    have hk := (Memory.rising_cons k v m).1 h
    simp only [List.filter]
    split
    · exact (Memory.rising_cons _ _ _).2 ⟨fun c hc => hk.1 c (List.mem_of_mem_filter hc), ih hk.2⟩
    · exact ih hk.2

/-- What a reset does to the exchange RAM keeps the canonical form. -/
theorem Memory.wf_establish {m : Memory} (h : Memory.wf m = true) : Memory.wf m.establish = true := by
  rw [Memory.wf_iff] at h ⊢
  exact ⟨Memory.rising_filter _ h.1, fun c hc => h.2 c (List.mem_of_mem_filter hc)⟩

/-! ## Bytes and words of the exchange RAM -/

theorem Memory.find_store_other (m : Memory) {a x : Nat} (b : Byte) (h : x ≠ a) :
    Memory.find (Memory.store m a b) x = Memory.find m x := by
  unfold Memory.store
  split
  · split
    · exact Memory.find_drop_other _ h
    · exact Memory.find_put_other _ _ h
  · rfl

/-- A byte written at another address is not seen. -/
theorem Port.byteAt_setByte_other (p : Port) {a x : Nat} (b : Byte) (h : x ≠ a) :
    (p.setByte a b).byteAt x = p.byteAt x := by
  simp only [Port.setByte, Port.byteAt, Memory.find_store_other _ _ h]

/-- A byte reads as it was written. -/
theorem Port.byteAt_setByte_same (p : Port) {a : Nat} (b : Byte) (ha : a < ramBytes) (h : Memory.wf p.ram = true) :
    (p.setByte a b).byteAt a = b := by
  simp only [Port.setByte, Port.byteAt, Memory.store, if_pos ha]
  by_cases hb : unlistedByte a = some b
  · rw [if_pos hb, Memory.find_drop_same a ((Memory.wf_iff _).1 h).1]
    simp [hb]
  · rw [if_neg hb, Memory.find_put_same]

theorem Port.wf_setByte (p : Port) (a : Nat) (b : Byte) (h : Memory.wf p.ram = true) :
    Memory.wf (p.setByte a b).ram = true := Memory.wf_store a b h

theorem Port.wf_setWord (p : Port) (a : Nat) (w : Word) (h : Memory.wf p.ram = true) :
    Memory.wf (p.setWord a w).ram = true := Port.wf_setByte _ _ _ (Port.wf_setByte _ _ _ h)

theorem Port.wf_setWords (p : Port) (a : Nat) (ws : List Word) (h : Memory.wf p.ram = true) :
    Memory.wf (p.setWords a ws).ram = true := by
  induction ws generalizing p a with
  | nil => exact h
  | cons w ws ih => exact ih _ _ (Port.wf_setWord p a w h)

theorem Port.wf_vcWrites (p : Port) (ws : List VcWrite) (h : Memory.wf p.ram = true) :
    Memory.wf (p.vcWrites ws).ram = true := by
  induction ws generalizing p with
  | nil => exact h
  | cons w ws ih => exact ih _ (Port.wf_setWord p _ _ h)

/-- A word written leaves every byte outside it as it was. -/
theorem Port.byteAt_setWord_other (p : Port) {a x : Nat} (w : Word) (h0 : x ≠ a) (h1 : x ≠ a + 1) :
    (p.setWord a w).byteAt x = p.byteAt x := by
  unfold Port.setWord
  rw [Port.byteAt_setByte_other _ _ h1, Port.byteAt_setByte_other _ _ h0]

/-- Words written leave every byte outside their run as it was. -/
theorem Port.byteAt_setWords_other (p : Port) {a x : Nat} (ws : List Word) (h : x < a ∨ a + 2 * ws.length ≤ x) :
    (p.setWords a ws).byteAt x = p.byteAt x := by
  induction ws generalizing p a with
  | nil => rfl
  | cons w ws ih =>
    simp only [List.length_cons] at h
    rw [Port.setWords, ih (p.setWord a w) (by omega), Port.byteAt_setWord_other _ _ (by omega) (by omega)]

/-- A word reads as it was written (R164). -/
theorem Port.wordAt_setWord_same (p : Port) {a : Nat} (w : Word) (ha : a + 1 < ramBytes) (h : Memory.wf p.ram = true) :
    (p.setWord a w).wordAt a = w := by
  unfold Port.wordAt Port.setWord
  rw [Port.byteAt_setByte_same _ _ ha (Port.wf_setByte _ _ _ h), Port.byteAt_setByte_other _ _ (by omega),
    Port.byteAt_setByte_same _ _ (by omega) h]
  ext i hi
  simp only [BitVec.getElem_append]
  split
  · simp [BitVec.getLsbD_eq_getElem hi]
  · rename_i h8
    simp only [BitVec.getElem_setWidth, BitVec.getLsbD_ushiftRight]
    rw [show 8 + (i - 8) = i by omega]
    rw [BitVec.getLsbD_eq_getElem hi]

/-- A word reads as before a write of another word. -/
theorem Port.wordAt_setWord_other (p : Port) {a x : Nat} (w : Word) (h : x + 1 < a ∨ a + 1 < x) :
    (p.setWord a w).wordAt x = p.wordAt x := by
  unfold Port.wordAt
  rw [Port.byteAt_setWord_other _ _ (by omega) (by omega), Port.byteAt_setWord_other _ _ (by omega) (by omega)]

/-- A word reads as before a write of words elsewhere. -/
theorem Port.wordAt_setWords_other (p : Port) {a x : Nat} (ws : List Word) (h : x + 1 < a ∨ a + 2 * ws.length ≤ x) :
    (p.setWords a ws).wordAt x = p.wordAt x := by
  unfold Port.wordAt
  rw [Port.byteAt_setWords_other _ _ (by omega), Port.byteAt_setWords_other _ _ (by omega)]

/-- Each of the words written in a run reads as it was written (R164). -/
theorem Port.wordAt_setWords_get (p : Port) {a : Nat} (ws : List Word) {i : Nat} (hi : i < ws.length)
    (ha : a + 2 * ws.length ≤ ramBytes) (h : Memory.wf p.ram = true) :
    (p.setWords a ws).wordAt (a + 2 * i) = ws[i] := by
  induction ws generalizing p a i with
  | nil => simp at hi
  | cons w ws ih =>
    simp only [List.length_cons] at ha hi
    rw [Port.setWords]
    cases i with
    | zero =>
      rw [Port.wordAt_setWords_other _ _ (by omega)]
      exact Port.wordAt_setWord_same p w (by omega) h
    | succ i =>
      have := ih (p.setWord a w) (a := a + 2) (i := i) (by omega) (by omega) (Port.wf_setWord p a w h)
      rw [show a + 2 * (i + 1) = a + 2 + 2 * i by omega]
      simpa using this

/-! ## What the writes leave of the registers -/

@[simp] theorem Port.setWord_attn (p : Port) (a : Nat) (w : Word) : (p.setWord a w).attn = p.attn := rfl
@[simp] theorem Port.setWord_attnEn (p : Port) (a : Nat) (w : Word) : (p.setWord a w).attnEn = p.attnEn := rfl
@[simp] theorem Port.setWord_powerUps (p : Port) (a : Nat) (w : Word) : (p.setWord a w).powerUps = p.powerUps := rfl
@[simp] theorem Port.setStatus_attn (p : Port) (i : Nat) (w : Word) : (p.setStatus i w).attn = p.attn := rfl
@[simp] theorem Port.setStatus_attnEn (p : Port) (i : Nat) (w : Word) : (p.setStatus i w).attnEn = p.attnEn := rfl
@[simp] theorem Port.setStatus_powerUps (p : Port) (i : Nat) (w : Word) : (p.setStatus i w).powerUps = p.powerUps := rfl
@[simp] theorem Port.setCell_attn (p : Port) (k : CellIndex) (x y : Nat) : (p.setCell k x y).attn = p.attn := rfl
@[simp] theorem Port.setCellState_attn (p : Port) (k : CellIndex) (x : Nat) : (p.setCellState k x).attn = p.attn := rfl

@[simp] theorem Port.setWords_attn (p : Port) (a : Nat) (ws : List Word) : (p.setWords a ws).attn = p.attn := by
  induction ws generalizing p a with
  | nil => rfl
  | cons w ws ih => rw [Port.setWords, ih]; rfl

@[simp] theorem Port.setWords_attnEn (p : Port) (a : Nat) (ws : List Word) : (p.setWords a ws).attnEn = p.attnEn := by
  induction ws generalizing p a with
  | nil => rfl
  | cons w ws ih => rw [Port.setWords, ih]; rfl

@[simp] theorem Port.setWords_powerUps (p : Port) (a : Nat) (ws : List Word) :
    (p.setWords a ws).powerUps = p.powerUps := by
  induction ws generalizing p a with
  | nil => rfl
  | cons w ws ih => rw [Port.setWords, ih]; rfl

@[simp] theorem Port.vcWrites_attn (p : Port) (ws : List VcWrite) : (p.vcWrites ws).attn = p.attn := by
  induction ws generalizing p with
  | nil => rfl
  | cons w ws ih => rw [Port.vcWrites, ih]; rfl

/-! ## ATTN -/

/-- ATTN holds what was put into it. -/
@[simp] theorem Port.setAttn_attn (p : Port) (a : BitVec 8) : (p.setAttn a).attn = a := by
  unfold Port.setAttn
  split
  · rename_i h; exact h.symm
  · rfl

@[simp] theorem Port.setAttn_attnEn (p : Port) (a : BitVec 8) : (p.setAttn a).attnEn = p.attnEn := by
  unfold Port.setAttn; split <;> rfl

@[simp] theorem Port.setAttn_powerUps (p : Port) (a : BitVec 8) : (p.setAttn a).powerUps = p.powerUps := by
  unfold Port.setAttn; split <;> rfl

/-- A change of ATTN writes the attention mirror and nothing else (R182). -/
theorem Port.byteAt_setAttn_other (p : Port) (a : BitVec 8) {x : Nat} (h0 : x ≠ statusAddr 11)
    (h1 : x ≠ statusAddr 11 + 1) : (p.setAttn a).byteAt x = p.byteAt x := by
  unfold Port.setAttn
  split
  · rfl
  · exact Port.byteAt_setWord_other _ _ h0 h1

theorem Port.wf_setAttn (p : Port) (a : BitVec 8) (h : Memory.wf p.ram = true) :
    Memory.wf (p.setAttn a).ram = true := by
  unfold Port.setAttn
  split
  · exact h
  · exact Port.wf_setWord _ _ _ h

theorem Port.wf_setCause (p : Port) (c : Cause) (h : Memory.wf p.ram = true) : Memory.wf (p.setCause c).ram = true :=
  Port.wf_setAttn _ _ h

theorem Port.wf_setStatus (p : Port) (i : Nat) (w : Word) (h : Memory.wf p.ram = true) :
    Memory.wf (p.setStatus i w).ram = true := Port.wf_setWord _ _ _ h

theorem Port.wf_setLogStatus (p : Port) (r : LogRing) (h : Memory.wf p.ram = true) :
    Memory.wf (p.setLogStatus r).ram = true :=
  Port.wf_setStatus _ _ _ (Port.wf_setStatus _ _ _ (Port.wf_setStatus _ _ _ (Port.wf_setStatus _ _ _ h)))

theorem Port.wf_afterAppend (p : Port) (q : Bool) (r : LogRing) (e : LogEntry) (h : Memory.wf p.ram = true) :
    Memory.wf (p.afterAppend q r e).ram = true := by
  unfold Port.afterAppend
  split
  · split
    · have h1 := Port.wf_setLogStatus _ (r.afterAppend e) (Port.wf_setWords p (slotAddr r.writePos) (e.words r.nextSequence) h)
      cases q
      · exact Port.wf_setCause _ _ h1
      · exact h1
    · have h1 := Port.wf_setLogStatus p (r.afterAppend e) h
      cases q
      · exact Port.wf_setCause _ _ h1
      · exact h1
  · exact h

end Sys2Proof.Machine
end

