-- ==== Sys2Proof/Laws/Shared.lean ====
section
/-! SUPPORT. What each shared operation of the wear monitor, the log, the fault table and the driveline supervisor leaves as
it was: one lemma per operation for the records no such operation touches, and one per field. -/

namespace Sys2Proof.Machine

/-- The records that no operation of the log, the wear monitor, the fault table or the driveline supervisor changes. -/
structure Rest where
  supply : Supply
  sns : Sns
  ena : Ena
  spl : Spl
  tqa : Tqa
  cpl : Cpl
  bbl : Bbl
  sent : List FieldMessage
  pending : List Instr

/-- Those records of a state. -/
def State.rest (s : State) : Rest :=
  { supply := s.supply, sns := s.sns, ena := s.ena, spl := s.spl, tqa := s.tqa, cpl := s.cpl, bbl := s.bbl, sent := s.sent,
    pending := s.pending }

@[simp] theorem withDsv_rest (d : Dsv) (s : State) : (s.withDsv d).rest = s.rest := rfl
@[simp] theorem setCause_rest (c : Cause) (s : State) : (setCause c s).rest = s.rest := rfl
@[simp] theorem setStatus_rest (i : Nat) (w : Word) (s : State) : (setStatus i w s).rest = s.rest := rfl
@[simp] theorem setRamWord_rest (a : Nat) (w : Word) (s : State) : (setRamWord a w s).rest = s.rest := rfl
@[simp] theorem requestReport_rest (i : Fin 8) (s : State) : (requestReport i s).rest = s.rest := rfl
@[simp] theorem setCounter_rest (c : Counter) (r : WearRecord) (s : State) : (setCounter c r s).rest = s.rest := rfl
@[simp] theorem setRecord_rest (k : FaultKind) (r : FaultRecord) (s : State) : (setRecord k r s).rest = s.rest := rfl
@[simp] theorem logAppend_rest (q : Bool) (e : LogEntry) (s : State) : (logAppend q e s).rest = s.rest := rfl
@[simp] theorem logNow_rest (k : LogKind) (c : Option Counter) (v : Option Int) (s : State) : (logNow k c v s).rest = s.rest := rfl
@[simp] theorem setDrivelineState_rest (st : DrivelineState) (s : State) : (setDrivelineState st s).rest = s.rest := rfl
@[simp] theorem setStopCause_rest (c : StopCause) (s : State) : (setStopCause c s).rest = s.rest := rfl
@[simp] theorem notifyFaults_rest (s : State) : (notifyFaults s).rest = s.rest := rfl
@[simp] theorem setReportRow_rest (i : Fin 8) (r : ReportRow) (s : State) : (setReportRow i r s).rest = s.rest := rfl
@[simp] theorem setOrderRow_rest (c : OrderChannel) (r : OrderRow) (s : State) : (setOrderRow c r s).rest = s.rest := rfl
@[simp] theorem setCell_rest (k : CellIndex) (x y : Nat) (s : State) : (setCell k x y s).rest = s.rest := rfl
@[simp] theorem setCellState_rest (k : CellIndex) (x : Nat) (s : State) : (setCellState k x s).rest = s.rest := rfl
@[simp] theorem vcWrites_rest (ws : List VcWrite) (s : State) : (vcWrites ws s).rest = s.rest := rfl

@[simp] theorem closeWindow_rest (s : State) : (closeWindow s).rest = s.rest := by
  unfold closeWindow; split <;> rfl
@[simp] theorem closeWindow_faults (s : State) : (closeWindow s).faults = s.faults := by
  unfold closeWindow; split <;> rfl
@[simp] theorem closeWindow_log (s : State) : (closeWindow s).log = s.log := by
  unfold closeWindow; split <;> rfl
@[simp] theorem closeWindow_exc (s : State) : (closeWindow s).exc = s.exc := by
  unfold closeWindow; split <;> rfl
@[simp] theorem closeWindow_supply (s : State) : (closeWindow s).supply = s.supply := congrArg Rest.supply (closeWindow_rest s)
@[simp] theorem closeWindow_sns (s : State) : (closeWindow s).sns = s.sns := congrArg Rest.sns (closeWindow_rest s)
@[simp] theorem closeWindow_ena (s : State) : (closeWindow s).ena = s.ena := congrArg Rest.ena (closeWindow_rest s)
@[simp] theorem closeWindow_spl (s : State) : (closeWindow s).spl = s.spl := congrArg Rest.spl (closeWindow_rest s)
@[simp] theorem closeWindow_tqa (s : State) : (closeWindow s).tqa = s.tqa := congrArg Rest.tqa (closeWindow_rest s)
@[simp] theorem closeWindow_cpl (s : State) : (closeWindow s).cpl = s.cpl := congrArg Rest.cpl (closeWindow_rest s)
@[simp] theorem closeWindow_bbl (s : State) : (closeWindow s).bbl = s.bbl := congrArg Rest.bbl (closeWindow_rest s)
@[simp] theorem closeWindow_sent (s : State) : (closeWindow s).sent = s.sent := congrArg Rest.sent (closeWindow_rest s)
@[simp] theorem closeWindow_pending (s : State) : (closeWindow s).pending = s.pending := congrArg Rest.pending (closeWindow_rest s)

@[simp] theorem thresholdCheck_rest (q : Bool) (c : Counter) (s : State) : (thresholdCheck q c s).rest = s.rest := by
  unfold thresholdCheck; split <;> rfl
@[simp] theorem thresholdCheck_dsv (q : Bool) (c : Counter) (s : State) : (thresholdCheck q c s).dsv = s.dsv := by
  unfold thresholdCheck; split <;> rfl
@[simp] theorem thresholdCheck_faults (q : Bool) (c : Counter) (s : State) : (thresholdCheck q c s).faults = s.faults := by
  unfold thresholdCheck; split <;> rfl
@[simp] theorem thresholdCheck_exc (q : Bool) (c : Counter) (s : State) : (thresholdCheck q c s).exc = s.exc := by
  unfold thresholdCheck; split <;> rfl
@[simp] theorem thresholdCheck_supply (q : Bool) (c : Counter) (s : State) : (thresholdCheck q c s).supply = s.supply := congrArg Rest.supply (thresholdCheck_rest q c s)
@[simp] theorem thresholdCheck_sns (q : Bool) (c : Counter) (s : State) : (thresholdCheck q c s).sns = s.sns := congrArg Rest.sns (thresholdCheck_rest q c s)
@[simp] theorem thresholdCheck_ena (q : Bool) (c : Counter) (s : State) : (thresholdCheck q c s).ena = s.ena := congrArg Rest.ena (thresholdCheck_rest q c s)
@[simp] theorem thresholdCheck_spl (q : Bool) (c : Counter) (s : State) : (thresholdCheck q c s).spl = s.spl := congrArg Rest.spl (thresholdCheck_rest q c s)
@[simp] theorem thresholdCheck_tqa (q : Bool) (c : Counter) (s : State) : (thresholdCheck q c s).tqa = s.tqa := congrArg Rest.tqa (thresholdCheck_rest q c s)
@[simp] theorem thresholdCheck_cpl (q : Bool) (c : Counter) (s : State) : (thresholdCheck q c s).cpl = s.cpl := congrArg Rest.cpl (thresholdCheck_rest q c s)
@[simp] theorem thresholdCheck_bbl (q : Bool) (c : Counter) (s : State) : (thresholdCheck q c s).bbl = s.bbl := congrArg Rest.bbl (thresholdCheck_rest q c s)
@[simp] theorem thresholdCheck_sent (q : Bool) (c : Counter) (s : State) : (thresholdCheck q c s).sent = s.sent := congrArg Rest.sent (thresholdCheck_rest q c s)
@[simp] theorem thresholdCheck_pending (q : Bool) (c : Counter) (s : State) : (thresholdCheck q c s).pending = s.pending := congrArg Rest.pending (thresholdCheck_rest q c s)

@[simp] theorem wearIncrement_rest (q : Bool) (c : Counter) (s : State) : (wearIncrement q c s).rest = s.rest := by
  unfold wearIncrement; simp
@[simp] theorem wearIncrement_dsv (q : Bool) (c : Counter) (s : State) : (wearIncrement q c s).dsv = s.dsv := by
  unfold wearIncrement; simp
@[simp] theorem wearIncrement_faults (q : Bool) (c : Counter) (s : State) : (wearIncrement q c s).faults = s.faults := by
  unfold wearIncrement; simp
@[simp] theorem wearIncrement_exc (q : Bool) (c : Counter) (s : State) : (wearIncrement q c s).exc = s.exc := by
  unfold wearIncrement; simp
@[simp] theorem wearIncrement_supply (q : Bool) (c : Counter) (s : State) : (wearIncrement q c s).supply = s.supply := congrArg Rest.supply (wearIncrement_rest q c s)
@[simp] theorem wearIncrement_sns (q : Bool) (c : Counter) (s : State) : (wearIncrement q c s).sns = s.sns := congrArg Rest.sns (wearIncrement_rest q c s)
@[simp] theorem wearIncrement_ena (q : Bool) (c : Counter) (s : State) : (wearIncrement q c s).ena = s.ena := congrArg Rest.ena (wearIncrement_rest q c s)
@[simp] theorem wearIncrement_spl (q : Bool) (c : Counter) (s : State) : (wearIncrement q c s).spl = s.spl := congrArg Rest.spl (wearIncrement_rest q c s)
@[simp] theorem wearIncrement_tqa (q : Bool) (c : Counter) (s : State) : (wearIncrement q c s).tqa = s.tqa := congrArg Rest.tqa (wearIncrement_rest q c s)
@[simp] theorem wearIncrement_cpl (q : Bool) (c : Counter) (s : State) : (wearIncrement q c s).cpl = s.cpl := congrArg Rest.cpl (wearIncrement_rest q c s)
@[simp] theorem wearIncrement_bbl (q : Bool) (c : Counter) (s : State) : (wearIncrement q c s).bbl = s.bbl := congrArg Rest.bbl (wearIncrement_rest q c s)
@[simp] theorem wearIncrement_sent (q : Bool) (c : Counter) (s : State) : (wearIncrement q c s).sent = s.sent := congrArg Rest.sent (wearIncrement_rest q c s)
@[simp] theorem wearIncrement_pending (q : Bool) (c : Counter) (s : State) : (wearIncrement q c s).pending = s.pending := congrArg Rest.pending (wearIncrement_rest q c s)

@[simp] theorem wearIncrements_rest (c : Counter) (n : Nat) (s : State) : (wearIncrements c n s).rest = s.rest := by
  induction n generalizing s with
  | zero => rfl
  | succ n ih => rw [wearIncrements, ih]; simp
@[simp] theorem wearIncrements_dsv (c : Counter) (n : Nat) (s : State) : (wearIncrements c n s).dsv = s.dsv := by
  induction n generalizing s with
  | zero => rfl
  | succ n ih => rw [wearIncrements, ih]; simp
@[simp] theorem wearIncrements_faults (c : Counter) (n : Nat) (s : State) : (wearIncrements c n s).faults = s.faults := by
  induction n generalizing s with
  | zero => rfl
  | succ n ih => rw [wearIncrements, ih]; simp
@[simp] theorem wearIncrements_exc (c : Counter) (n : Nat) (s : State) : (wearIncrements c n s).exc = s.exc := by
  induction n generalizing s with
  | zero => rfl
  | succ n ih => rw [wearIncrements, ih]; simp
@[simp] theorem wearIncrements_supply (c : Counter) (n : Nat) (s : State) : (wearIncrements c n s).supply = s.supply := congrArg Rest.supply (wearIncrements_rest c n s)
@[simp] theorem wearIncrements_sns (c : Counter) (n : Nat) (s : State) : (wearIncrements c n s).sns = s.sns := congrArg Rest.sns (wearIncrements_rest c n s)
@[simp] theorem wearIncrements_ena (c : Counter) (n : Nat) (s : State) : (wearIncrements c n s).ena = s.ena := congrArg Rest.ena (wearIncrements_rest c n s)
@[simp] theorem wearIncrements_spl (c : Counter) (n : Nat) (s : State) : (wearIncrements c n s).spl = s.spl := congrArg Rest.spl (wearIncrements_rest c n s)
@[simp] theorem wearIncrements_tqa (c : Counter) (n : Nat) (s : State) : (wearIncrements c n s).tqa = s.tqa := congrArg Rest.tqa (wearIncrements_rest c n s)
@[simp] theorem wearIncrements_cpl (c : Counter) (n : Nat) (s : State) : (wearIncrements c n s).cpl = s.cpl := congrArg Rest.cpl (wearIncrements_rest c n s)
@[simp] theorem wearIncrements_bbl (c : Counter) (n : Nat) (s : State) : (wearIncrements c n s).bbl = s.bbl := congrArg Rest.bbl (wearIncrements_rest c n s)
@[simp] theorem wearIncrements_sent (c : Counter) (n : Nat) (s : State) : (wearIncrements c n s).sent = s.sent := congrArg Rest.sent (wearIncrements_rest c n s)
@[simp] theorem wearIncrements_pending (c : Counter) (n : Nat) (s : State) : (wearIncrements c n s).pending = s.pending := congrArg Rest.pending (wearIncrements_rest c n s)

@[simp] theorem setThresholds_rest (c : Counter) (x y : Nat) (s : State) : (setThresholds c x y s).rest = s.rest := by
  unfold setThresholds; simp
@[simp] theorem setThresholds_dsv (c : Counter) (x y : Nat) (s : State) : (setThresholds c x y s).dsv = s.dsv := by
  unfold setThresholds; simp
@[simp] theorem setThresholds_faults (c : Counter) (x y : Nat) (s : State) : (setThresholds c x y s).faults = s.faults := by
  unfold setThresholds; simp
@[simp] theorem setThresholds_exc (c : Counter) (x y : Nat) (s : State) : (setThresholds c x y s).exc = s.exc := by
  unfold setThresholds; simp
@[simp] theorem setThresholds_supply (c : Counter) (x y : Nat) (s : State) : (setThresholds c x y s).supply = s.supply := congrArg Rest.supply (setThresholds_rest c x y s)
@[simp] theorem setThresholds_sns (c : Counter) (x y : Nat) (s : State) : (setThresholds c x y s).sns = s.sns := congrArg Rest.sns (setThresholds_rest c x y s)
@[simp] theorem setThresholds_ena (c : Counter) (x y : Nat) (s : State) : (setThresholds c x y s).ena = s.ena := congrArg Rest.ena (setThresholds_rest c x y s)
@[simp] theorem setThresholds_spl (c : Counter) (x y : Nat) (s : State) : (setThresholds c x y s).spl = s.spl := congrArg Rest.spl (setThresholds_rest c x y s)
@[simp] theorem setThresholds_tqa (c : Counter) (x y : Nat) (s : State) : (setThresholds c x y s).tqa = s.tqa := congrArg Rest.tqa (setThresholds_rest c x y s)
@[simp] theorem setThresholds_cpl (c : Counter) (x y : Nat) (s : State) : (setThresholds c x y s).cpl = s.cpl := congrArg Rest.cpl (setThresholds_rest c x y s)
@[simp] theorem setThresholds_bbl (c : Counter) (x y : Nat) (s : State) : (setThresholds c x y s).bbl = s.bbl := congrArg Rest.bbl (setThresholds_rest c x y s)
@[simp] theorem setThresholds_sent (c : Counter) (x y : Nat) (s : State) : (setThresholds c x y s).sent = s.sent := congrArg Rest.sent (setThresholds_rest c x y s)
@[simp] theorem setThresholds_pending (c : Counter) (x y : Nat) (s : State) : (setThresholds c x y s).pending = s.pending := congrArg Rest.pending (setThresholds_rest c x y s)

@[simp] theorem reseedCounter_rest (c : Counter) (x : Nat) (s : State) : (reseedCounter c x s).rest = s.rest := by
  unfold reseedCounter; simp
@[simp] theorem reseedCounter_dsv (c : Counter) (x : Nat) (s : State) : (reseedCounter c x s).dsv = s.dsv := by
  unfold reseedCounter; simp
@[simp] theorem reseedCounter_faults (c : Counter) (x : Nat) (s : State) : (reseedCounter c x s).faults = s.faults := by
  unfold reseedCounter; simp
@[simp] theorem reseedCounter_exc (c : Counter) (x : Nat) (s : State) : (reseedCounter c x s).exc = s.exc := by
  unfold reseedCounter; simp
@[simp] theorem reseedCounter_supply (c : Counter) (x : Nat) (s : State) : (reseedCounter c x s).supply = s.supply := congrArg Rest.supply (reseedCounter_rest c x s)
@[simp] theorem reseedCounter_sns (c : Counter) (x : Nat) (s : State) : (reseedCounter c x s).sns = s.sns := congrArg Rest.sns (reseedCounter_rest c x s)
@[simp] theorem reseedCounter_ena (c : Counter) (x : Nat) (s : State) : (reseedCounter c x s).ena = s.ena := congrArg Rest.ena (reseedCounter_rest c x s)
@[simp] theorem reseedCounter_spl (c : Counter) (x : Nat) (s : State) : (reseedCounter c x s).spl = s.spl := congrArg Rest.spl (reseedCounter_rest c x s)
@[simp] theorem reseedCounter_tqa (c : Counter) (x : Nat) (s : State) : (reseedCounter c x s).tqa = s.tqa := congrArg Rest.tqa (reseedCounter_rest c x s)
@[simp] theorem reseedCounter_cpl (c : Counter) (x : Nat) (s : State) : (reseedCounter c x s).cpl = s.cpl := congrArg Rest.cpl (reseedCounter_rest c x s)
@[simp] theorem reseedCounter_bbl (c : Counter) (x : Nat) (s : State) : (reseedCounter c x s).bbl = s.bbl := congrArg Rest.bbl (reseedCounter_rest c x s)
@[simp] theorem reseedCounter_sent (c : Counter) (x : Nat) (s : State) : (reseedCounter c x s).sent = s.sent := congrArg Rest.sent (reseedCounter_rest c x s)
@[simp] theorem reseedCounter_pending (c : Counter) (x : Nat) (s : State) : (reseedCounter c x s).pending = s.pending := congrArg Rest.pending (reseedCounter_rest c x s)

@[simp] theorem judgeOpening_rest (s : State) : (judgeOpening s).rest = s.rest := by
  unfold judgeOpening; split <;> simp
@[simp] theorem judgeOpening_dsv (s : State) : (judgeOpening s).dsv = s.dsv := by
  unfold judgeOpening; split <;> simp
@[simp] theorem judgeOpening_faults (s : State) : (judgeOpening s).faults = s.faults := by
  unfold judgeOpening; split <;> simp
@[simp] theorem judgeOpening_exc (s : State) : (judgeOpening s).exc = s.exc := by
  unfold judgeOpening; split <;> simp
@[simp] theorem judgeOpening_supply (s : State) : (judgeOpening s).supply = s.supply := congrArg Rest.supply (judgeOpening_rest s)
@[simp] theorem judgeOpening_sns (s : State) : (judgeOpening s).sns = s.sns := congrArg Rest.sns (judgeOpening_rest s)
@[simp] theorem judgeOpening_ena (s : State) : (judgeOpening s).ena = s.ena := congrArg Rest.ena (judgeOpening_rest s)
@[simp] theorem judgeOpening_spl (s : State) : (judgeOpening s).spl = s.spl := congrArg Rest.spl (judgeOpening_rest s)
@[simp] theorem judgeOpening_tqa (s : State) : (judgeOpening s).tqa = s.tqa := congrArg Rest.tqa (judgeOpening_rest s)
@[simp] theorem judgeOpening_cpl (s : State) : (judgeOpening s).cpl = s.cpl := congrArg Rest.cpl (judgeOpening_rest s)
@[simp] theorem judgeOpening_bbl (s : State) : (judgeOpening s).bbl = s.bbl := congrArg Rest.bbl (judgeOpening_rest s)
@[simp] theorem judgeOpening_sent (s : State) : (judgeOpening s).sent = s.sent := congrArg Rest.sent (judgeOpening_rest s)
@[simp] theorem judgeOpening_pending (s : State) : (judgeOpening s).pending = s.pending := congrArg Rest.pending (judgeOpening_rest s)

@[simp] theorem openPos_rest (s : State) : (openPos s).rest = s.rest := by
  unfold openPos; split <;> simp
@[simp] theorem openPos_faults (s : State) : (openPos s).faults = s.faults := by
  unfold openPos; split <;> simp
@[simp] theorem openPos_exc (s : State) : (openPos s).exc = s.exc := by
  unfold openPos; split <;> simp
@[simp] theorem openPos_supply (s : State) : (openPos s).supply = s.supply := congrArg Rest.supply (openPos_rest s)
@[simp] theorem openPos_sns (s : State) : (openPos s).sns = s.sns := congrArg Rest.sns (openPos_rest s)
@[simp] theorem openPos_ena (s : State) : (openPos s).ena = s.ena := congrArg Rest.ena (openPos_rest s)
@[simp] theorem openPos_spl (s : State) : (openPos s).spl = s.spl := congrArg Rest.spl (openPos_rest s)
@[simp] theorem openPos_tqa (s : State) : (openPos s).tqa = s.tqa := congrArg Rest.tqa (openPos_rest s)
@[simp] theorem openPos_cpl (s : State) : (openPos s).cpl = s.cpl := congrArg Rest.cpl (openPos_rest s)
@[simp] theorem openPos_bbl (s : State) : (openPos s).bbl = s.bbl := congrArg Rest.bbl (openPos_rest s)
@[simp] theorem openPos_sent (s : State) : (openPos s).sent = s.sent := congrArg Rest.sent (openPos_rest s)
@[simp] theorem openPos_pending (s : State) : (openPos s).pending = s.pending := congrArg Rest.pending (openPos_rest s)

@[simp] theorem openAll_rest (s : State) : (openAll s).rest = s.rest := by
  unfold openAll; simp
@[simp] theorem openAll_faults (s : State) : (openAll s).faults = s.faults := by
  unfold openAll; simp
@[simp] theorem openAll_exc (s : State) : (openAll s).exc = s.exc := by
  unfold openAll; simp
@[simp] theorem openAll_supply (s : State) : (openAll s).supply = s.supply := congrArg Rest.supply (openAll_rest s)
@[simp] theorem openAll_sns (s : State) : (openAll s).sns = s.sns := congrArg Rest.sns (openAll_rest s)
@[simp] theorem openAll_ena (s : State) : (openAll s).ena = s.ena := congrArg Rest.ena (openAll_rest s)
@[simp] theorem openAll_spl (s : State) : (openAll s).spl = s.spl := congrArg Rest.spl (openAll_rest s)
@[simp] theorem openAll_tqa (s : State) : (openAll s).tqa = s.tqa := congrArg Rest.tqa (openAll_rest s)
@[simp] theorem openAll_cpl (s : State) : (openAll s).cpl = s.cpl := congrArg Rest.cpl (openAll_rest s)
@[simp] theorem openAll_bbl (s : State) : (openAll s).bbl = s.bbl := congrArg Rest.bbl (openAll_rest s)
@[simp] theorem openAll_sent (s : State) : (openAll s).sent = s.sent := congrArg Rest.sent (openAll_rest s)
@[simp] theorem openAll_pending (s : State) : (openAll s).pending = s.pending := congrArg Rest.pending (openAll_rest s)

@[simp] theorem enterStandby_rest (s : State) : (enterStandby s).rest = s.rest := by
  unfold enterStandby; simp
@[simp] theorem enterStandby_faults (s : State) : (enterStandby s).faults = s.faults := by
  unfold enterStandby; simp
@[simp] theorem enterStandby_wear (s : State) : (enterStandby s).wear = s.wear := by
  unfold enterStandby; simp
@[simp] theorem enterStandby_log (s : State) : (enterStandby s).log = s.log := by
  unfold enterStandby; simp
@[simp] theorem enterStandby_exc (s : State) : (enterStandby s).exc = s.exc := by
  unfold enterStandby; simp
@[simp] theorem enterStandby_supply (s : State) : (enterStandby s).supply = s.supply := congrArg Rest.supply (enterStandby_rest s)
@[simp] theorem enterStandby_sns (s : State) : (enterStandby s).sns = s.sns := congrArg Rest.sns (enterStandby_rest s)
@[simp] theorem enterStandby_ena (s : State) : (enterStandby s).ena = s.ena := congrArg Rest.ena (enterStandby_rest s)
@[simp] theorem enterStandby_spl (s : State) : (enterStandby s).spl = s.spl := congrArg Rest.spl (enterStandby_rest s)
@[simp] theorem enterStandby_tqa (s : State) : (enterStandby s).tqa = s.tqa := congrArg Rest.tqa (enterStandby_rest s)
@[simp] theorem enterStandby_cpl (s : State) : (enterStandby s).cpl = s.cpl := congrArg Rest.cpl (enterStandby_rest s)
@[simp] theorem enterStandby_bbl (s : State) : (enterStandby s).bbl = s.bbl := congrArg Rest.bbl (enterStandby_rest s)
@[simp] theorem enterStandby_sent (s : State) : (enterStandby s).sent = s.sent := congrArg Rest.sent (enterStandby_rest s)
@[simp] theorem enterStandby_pending (s : State) : (enterStandby s).pending = s.pending := congrArg Rest.pending (enterStandby_rest s)

@[simp] theorem enterPrecharge_rest (s : State) : (enterPrecharge s).rest = s.rest := by
  unfold enterPrecharge; simp
@[simp] theorem enterPrecharge_faults (s : State) : (enterPrecharge s).faults = s.faults := by
  unfold enterPrecharge; simp
@[simp] theorem enterPrecharge_wear (s : State) : (enterPrecharge s).wear = s.wear := by
  unfold enterPrecharge; simp
@[simp] theorem enterPrecharge_log (s : State) : (enterPrecharge s).log = s.log := by
  unfold enterPrecharge; simp
@[simp] theorem enterPrecharge_exc (s : State) : (enterPrecharge s).exc = s.exc := by
  unfold enterPrecharge; simp
@[simp] theorem enterPrecharge_supply (s : State) : (enterPrecharge s).supply = s.supply := congrArg Rest.supply (enterPrecharge_rest s)
@[simp] theorem enterPrecharge_sns (s : State) : (enterPrecharge s).sns = s.sns := congrArg Rest.sns (enterPrecharge_rest s)
@[simp] theorem enterPrecharge_ena (s : State) : (enterPrecharge s).ena = s.ena := congrArg Rest.ena (enterPrecharge_rest s)
@[simp] theorem enterPrecharge_spl (s : State) : (enterPrecharge s).spl = s.spl := congrArg Rest.spl (enterPrecharge_rest s)
@[simp] theorem enterPrecharge_tqa (s : State) : (enterPrecharge s).tqa = s.tqa := congrArg Rest.tqa (enterPrecharge_rest s)
@[simp] theorem enterPrecharge_cpl (s : State) : (enterPrecharge s).cpl = s.cpl := congrArg Rest.cpl (enterPrecharge_rest s)
@[simp] theorem enterPrecharge_bbl (s : State) : (enterPrecharge s).bbl = s.bbl := congrArg Rest.bbl (enterPrecharge_rest s)
@[simp] theorem enterPrecharge_sent (s : State) : (enterPrecharge s).sent = s.sent := congrArg Rest.sent (enterPrecharge_rest s)
@[simp] theorem enterPrecharge_pending (s : State) : (enterPrecharge s).pending = s.pending := congrArg Rest.pending (enterPrecharge_rest s)

@[simp] theorem enterDrive_rest (s : State) : (enterDrive s).rest = s.rest := by
  unfold enterDrive; simp
@[simp] theorem enterDrive_faults (s : State) : (enterDrive s).faults = s.faults := by
  unfold enterDrive; simp
@[simp] theorem enterDrive_log (s : State) : (enterDrive s).log = s.log := by
  unfold enterDrive; simp
@[simp] theorem enterDrive_exc (s : State) : (enterDrive s).exc = s.exc := by
  unfold enterDrive; simp
@[simp] theorem enterDrive_supply (s : State) : (enterDrive s).supply = s.supply := congrArg Rest.supply (enterDrive_rest s)
@[simp] theorem enterDrive_sns (s : State) : (enterDrive s).sns = s.sns := congrArg Rest.sns (enterDrive_rest s)
@[simp] theorem enterDrive_ena (s : State) : (enterDrive s).ena = s.ena := congrArg Rest.ena (enterDrive_rest s)
@[simp] theorem enterDrive_spl (s : State) : (enterDrive s).spl = s.spl := congrArg Rest.spl (enterDrive_rest s)
@[simp] theorem enterDrive_tqa (s : State) : (enterDrive s).tqa = s.tqa := congrArg Rest.tqa (enterDrive_rest s)
@[simp] theorem enterDrive_cpl (s : State) : (enterDrive s).cpl = s.cpl := congrArg Rest.cpl (enterDrive_rest s)
@[simp] theorem enterDrive_bbl (s : State) : (enterDrive s).bbl = s.bbl := congrArg Rest.bbl (enterDrive_rest s)
@[simp] theorem enterDrive_sent (s : State) : (enterDrive s).sent = s.sent := congrArg Rest.sent (enterDrive_rest s)
@[simp] theorem enterDrive_pending (s : State) : (enterDrive s).pending = s.pending := congrArg Rest.pending (enterDrive_rest s)

@[simp] theorem enterSafeStop_rest (s : State) : (enterSafeStop s).rest = s.rest := by
  unfold enterSafeStop; simp
@[simp] theorem enterSafeStop_faults (s : State) : (enterSafeStop s).faults = s.faults := by
  unfold enterSafeStop; simp
@[simp] theorem enterSafeStop_wear (s : State) : (enterSafeStop s).wear = s.wear := by
  unfold enterSafeStop; simp
@[simp] theorem enterSafeStop_log (s : State) : (enterSafeStop s).log = s.log := by
  unfold enterSafeStop; simp
@[simp] theorem enterSafeStop_exc (s : State) : (enterSafeStop s).exc = s.exc := by
  unfold enterSafeStop; simp
@[simp] theorem enterSafeStop_supply (s : State) : (enterSafeStop s).supply = s.supply := congrArg Rest.supply (enterSafeStop_rest s)
@[simp] theorem enterSafeStop_sns (s : State) : (enterSafeStop s).sns = s.sns := congrArg Rest.sns (enterSafeStop_rest s)
@[simp] theorem enterSafeStop_ena (s : State) : (enterSafeStop s).ena = s.ena := congrArg Rest.ena (enterSafeStop_rest s)
@[simp] theorem enterSafeStop_spl (s : State) : (enterSafeStop s).spl = s.spl := congrArg Rest.spl (enterSafeStop_rest s)
@[simp] theorem enterSafeStop_tqa (s : State) : (enterSafeStop s).tqa = s.tqa := congrArg Rest.tqa (enterSafeStop_rest s)
@[simp] theorem enterSafeStop_cpl (s : State) : (enterSafeStop s).cpl = s.cpl := congrArg Rest.cpl (enterSafeStop_rest s)
@[simp] theorem enterSafeStop_bbl (s : State) : (enterSafeStop s).bbl = s.bbl := congrArg Rest.bbl (enterSafeStop_rest s)
@[simp] theorem enterSafeStop_sent (s : State) : (enterSafeStop s).sent = s.sent := congrArg Rest.sent (enterSafeStop_rest s)
@[simp] theorem enterSafeStop_pending (s : State) : (enterSafeStop s).pending = s.pending := congrArg Rest.pending (enterSafeStop_rest s)

@[simp] theorem enterPowerDown_rest (s : State) : (enterPowerDown s).rest = s.rest := by
  unfold enterPowerDown; simp
@[simp] theorem enterPowerDown_faults (s : State) : (enterPowerDown s).faults = s.faults := by
  unfold enterPowerDown; simp
@[simp] theorem enterPowerDown_wear (s : State) : (enterPowerDown s).wear = s.wear := by
  unfold enterPowerDown; simp
@[simp] theorem enterPowerDown_log (s : State) : (enterPowerDown s).log = s.log := by
  unfold enterPowerDown; simp
@[simp] theorem enterPowerDown_exc (s : State) : (enterPowerDown s).exc = s.exc := by
  unfold enterPowerDown; simp
@[simp] theorem enterPowerDown_supply (s : State) : (enterPowerDown s).supply = s.supply := congrArg Rest.supply (enterPowerDown_rest s)
@[simp] theorem enterPowerDown_sns (s : State) : (enterPowerDown s).sns = s.sns := congrArg Rest.sns (enterPowerDown_rest s)
@[simp] theorem enterPowerDown_ena (s : State) : (enterPowerDown s).ena = s.ena := congrArg Rest.ena (enterPowerDown_rest s)
@[simp] theorem enterPowerDown_spl (s : State) : (enterPowerDown s).spl = s.spl := congrArg Rest.spl (enterPowerDown_rest s)
@[simp] theorem enterPowerDown_tqa (s : State) : (enterPowerDown s).tqa = s.tqa := congrArg Rest.tqa (enterPowerDown_rest s)
@[simp] theorem enterPowerDown_cpl (s : State) : (enterPowerDown s).cpl = s.cpl := congrArg Rest.cpl (enterPowerDown_rest s)
@[simp] theorem enterPowerDown_bbl (s : State) : (enterPowerDown s).bbl = s.bbl := congrArg Rest.bbl (enterPowerDown_rest s)
@[simp] theorem enterPowerDown_sent (s : State) : (enterPowerDown s).sent = s.sent := congrArg Rest.sent (enterPowerDown_rest s)
@[simp] theorem enterPowerDown_pending (s : State) : (enterPowerDown s).pending = s.pending := congrArg Rest.pending (enterPowerDown_rest s)

@[simp] theorem abortPrecharge_rest (s : State) : (abortPrecharge s).rest = s.rest := by
  unfold abortPrecharge; simp
@[simp] theorem abortPrecharge_faults (s : State) : (abortPrecharge s).faults = s.faults := by
  unfold abortPrecharge; simp
@[simp] theorem abortPrecharge_exc (s : State) : (abortPrecharge s).exc = s.exc := by
  unfold abortPrecharge; simp
@[simp] theorem abortPrecharge_supply (s : State) : (abortPrecharge s).supply = s.supply := congrArg Rest.supply (abortPrecharge_rest s)
@[simp] theorem abortPrecharge_sns (s : State) : (abortPrecharge s).sns = s.sns := congrArg Rest.sns (abortPrecharge_rest s)
@[simp] theorem abortPrecharge_ena (s : State) : (abortPrecharge s).ena = s.ena := congrArg Rest.ena (abortPrecharge_rest s)
@[simp] theorem abortPrecharge_spl (s : State) : (abortPrecharge s).spl = s.spl := congrArg Rest.spl (abortPrecharge_rest s)
@[simp] theorem abortPrecharge_tqa (s : State) : (abortPrecharge s).tqa = s.tqa := congrArg Rest.tqa (abortPrecharge_rest s)
@[simp] theorem abortPrecharge_cpl (s : State) : (abortPrecharge s).cpl = s.cpl := congrArg Rest.cpl (abortPrecharge_rest s)
@[simp] theorem abortPrecharge_bbl (s : State) : (abortPrecharge s).bbl = s.bbl := congrArg Rest.bbl (abortPrecharge_rest s)
@[simp] theorem abortPrecharge_sent (s : State) : (abortPrecharge s).sent = s.sent := congrArg Rest.sent (abortPrecharge_rest s)
@[simp] theorem abortPrecharge_pending (s : State) : (abortPrecharge s).pending = s.pending := congrArg Rest.pending (abortPrecharge_rest s)

@[simp] theorem stopTimers_rest (s : State) : (stopTimers s).rest = s.rest := by
  unfold stopTimers; simp
@[simp] theorem stopTimers_faults (s : State) : (stopTimers s).faults = s.faults := by
  unfold stopTimers; simp
@[simp] theorem stopTimers_wear (s : State) : (stopTimers s).wear = s.wear := by
  unfold stopTimers; simp
@[simp] theorem stopTimers_log (s : State) : (stopTimers s).log = s.log := by
  unfold stopTimers; simp
@[simp] theorem stopTimers_exc (s : State) : (stopTimers s).exc = s.exc := by
  unfold stopTimers; simp
@[simp] theorem stopTimers_supply (s : State) : (stopTimers s).supply = s.supply := congrArg Rest.supply (stopTimers_rest s)
@[simp] theorem stopTimers_sns (s : State) : (stopTimers s).sns = s.sns := congrArg Rest.sns (stopTimers_rest s)
@[simp] theorem stopTimers_ena (s : State) : (stopTimers s).ena = s.ena := congrArg Rest.ena (stopTimers_rest s)
@[simp] theorem stopTimers_spl (s : State) : (stopTimers s).spl = s.spl := congrArg Rest.spl (stopTimers_rest s)
@[simp] theorem stopTimers_tqa (s : State) : (stopTimers s).tqa = s.tqa := congrArg Rest.tqa (stopTimers_rest s)
@[simp] theorem stopTimers_cpl (s : State) : (stopTimers s).cpl = s.cpl := congrArg Rest.cpl (stopTimers_rest s)
@[simp] theorem stopTimers_bbl (s : State) : (stopTimers s).bbl = s.bbl := congrArg Rest.bbl (stopTimers_rest s)
@[simp] theorem stopTimers_sent (s : State) : (stopTimers s).sent = s.sent := congrArg Rest.sent (stopTimers_rest s)
@[simp] theorem stopTimers_pending (s : State) : (stopTimers s).pending = s.pending := congrArg Rest.pending (stopTimers_rest s)

@[simp] theorem shutdown_rest (k : FaultKind) (s : State) : (shutdown k s).rest = s.rest := by
  unfold shutdown; simp
@[simp] theorem shutdown_faults (k : FaultKind) (s : State) : (shutdown k s).faults = s.faults := by
  unfold shutdown; simp
@[simp] theorem shutdown_exc (k : FaultKind) (s : State) : (shutdown k s).exc = s.exc := by
  unfold shutdown; simp
@[simp] theorem shutdown_supply (k : FaultKind) (s : State) : (shutdown k s).supply = s.supply := congrArg Rest.supply (shutdown_rest k s)
@[simp] theorem shutdown_sns (k : FaultKind) (s : State) : (shutdown k s).sns = s.sns := congrArg Rest.sns (shutdown_rest k s)
@[simp] theorem shutdown_ena (k : FaultKind) (s : State) : (shutdown k s).ena = s.ena := congrArg Rest.ena (shutdown_rest k s)
@[simp] theorem shutdown_spl (k : FaultKind) (s : State) : (shutdown k s).spl = s.spl := congrArg Rest.spl (shutdown_rest k s)
@[simp] theorem shutdown_tqa (k : FaultKind) (s : State) : (shutdown k s).tqa = s.tqa := congrArg Rest.tqa (shutdown_rest k s)
@[simp] theorem shutdown_cpl (k : FaultKind) (s : State) : (shutdown k s).cpl = s.cpl := congrArg Rest.cpl (shutdown_rest k s)
@[simp] theorem shutdown_bbl (k : FaultKind) (s : State) : (shutdown k s).bbl = s.bbl := congrArg Rest.bbl (shutdown_rest k s)
@[simp] theorem shutdown_sent (k : FaultKind) (s : State) : (shutdown k s).sent = s.sent := congrArg Rest.sent (shutdown_rest k s)
@[simp] theorem shutdown_pending (k : FaultKind) (s : State) : (shutdown k s).pending = s.pending := congrArg Rest.pending (shutdown_rest k s)

@[simp] theorem dsvTest_rest (s : State) : (dsvTest s).rest = s.rest := by
  unfold dsvTest; dsimp only; split <;> (try split) <;> (try split) <;> (try split) <;> simp
@[simp] theorem dsvTest_faults (s : State) : (dsvTest s).faults = s.faults := by
  unfold dsvTest; dsimp only; split <;> (try split) <;> (try split) <;> (try split) <;> simp
@[simp] theorem dsvTest_log (s : State) : (dsvTest s).log = s.log := by
  unfold dsvTest; dsimp only; split <;> (try split) <;> (try split) <;> (try split) <;> simp
@[simp] theorem dsvTest_exc (s : State) : (dsvTest s).exc = s.exc := by
  unfold dsvTest; dsimp only; split <;> (try split) <;> (try split) <;> (try split) <;> simp
@[simp] theorem dsvTest_supply (s : State) : (dsvTest s).supply = s.supply := congrArg Rest.supply (dsvTest_rest s)
@[simp] theorem dsvTest_sns (s : State) : (dsvTest s).sns = s.sns := congrArg Rest.sns (dsvTest_rest s)
@[simp] theorem dsvTest_ena (s : State) : (dsvTest s).ena = s.ena := congrArg Rest.ena (dsvTest_rest s)
@[simp] theorem dsvTest_spl (s : State) : (dsvTest s).spl = s.spl := congrArg Rest.spl (dsvTest_rest s)
@[simp] theorem dsvTest_tqa (s : State) : (dsvTest s).tqa = s.tqa := congrArg Rest.tqa (dsvTest_rest s)
@[simp] theorem dsvTest_cpl (s : State) : (dsvTest s).cpl = s.cpl := congrArg Rest.cpl (dsvTest_rest s)
@[simp] theorem dsvTest_bbl (s : State) : (dsvTest s).bbl = s.bbl := congrArg Rest.bbl (dsvTest_rest s)
@[simp] theorem dsvTest_sent (s : State) : (dsvTest s).sent = s.sent := congrArg Rest.sent (dsvTest_rest s)
@[simp] theorem dsvTest_pending (s : State) : (dsvTest s).pending = s.pending := congrArg Rest.pending (dsvTest_rest s)

@[simp] theorem dsvSettle_rest (s : State) : (dsvSettle s).rest = s.rest := by
  unfold dsvSettle; simp
@[simp] theorem dsvSettle_faults (s : State) : (dsvSettle s).faults = s.faults := by
  unfold dsvSettle; simp
@[simp] theorem dsvSettle_log (s : State) : (dsvSettle s).log = s.log := by
  unfold dsvSettle; simp
@[simp] theorem dsvSettle_exc (s : State) : (dsvSettle s).exc = s.exc := by
  unfold dsvSettle; simp
@[simp] theorem dsvSettle_supply (s : State) : (dsvSettle s).supply = s.supply := congrArg Rest.supply (dsvSettle_rest s)
@[simp] theorem dsvSettle_sns (s : State) : (dsvSettle s).sns = s.sns := congrArg Rest.sns (dsvSettle_rest s)
@[simp] theorem dsvSettle_ena (s : State) : (dsvSettle s).ena = s.ena := congrArg Rest.ena (dsvSettle_rest s)
@[simp] theorem dsvSettle_spl (s : State) : (dsvSettle s).spl = s.spl := congrArg Rest.spl (dsvSettle_rest s)
@[simp] theorem dsvSettle_tqa (s : State) : (dsvSettle s).tqa = s.tqa := congrArg Rest.tqa (dsvSettle_rest s)
@[simp] theorem dsvSettle_cpl (s : State) : (dsvSettle s).cpl = s.cpl := congrArg Rest.cpl (dsvSettle_rest s)
@[simp] theorem dsvSettle_bbl (s : State) : (dsvSettle s).bbl = s.bbl := congrArg Rest.bbl (dsvSettle_rest s)
@[simp] theorem dsvSettle_sent (s : State) : (dsvSettle s).sent = s.sent := congrArg Rest.sent (dsvSettle_rest s)
@[simp] theorem dsvSettle_pending (s : State) : (dsvSettle s).pending = s.pending := congrArg Rest.pending (dsvSettle_rest s)

@[simp] theorem safeStopReaction_rest (k : FaultKind) (b : Bool) (s : State) : (safeStopReaction k b s).rest = s.rest := by
  unfold safeStopReaction; split <;> (try split) <;> simp
@[simp] theorem safeStopReaction_faults (k : FaultKind) (b : Bool) (s : State) : (safeStopReaction k b s).faults = s.faults := by
  unfold safeStopReaction; split <;> (try split) <;> simp
@[simp] theorem safeStopReaction_exc (k : FaultKind) (b : Bool) (s : State) : (safeStopReaction k b s).exc = s.exc := by
  unfold safeStopReaction; split <;> (try split) <;> simp
@[simp] theorem safeStopReaction_supply (k : FaultKind) (b : Bool) (s : State) : (safeStopReaction k b s).supply = s.supply := congrArg Rest.supply (safeStopReaction_rest k b s)
@[simp] theorem safeStopReaction_sns (k : FaultKind) (b : Bool) (s : State) : (safeStopReaction k b s).sns = s.sns := congrArg Rest.sns (safeStopReaction_rest k b s)
@[simp] theorem safeStopReaction_ena (k : FaultKind) (b : Bool) (s : State) : (safeStopReaction k b s).ena = s.ena := congrArg Rest.ena (safeStopReaction_rest k b s)
@[simp] theorem safeStopReaction_spl (k : FaultKind) (b : Bool) (s : State) : (safeStopReaction k b s).spl = s.spl := congrArg Rest.spl (safeStopReaction_rest k b s)
@[simp] theorem safeStopReaction_tqa (k : FaultKind) (b : Bool) (s : State) : (safeStopReaction k b s).tqa = s.tqa := congrArg Rest.tqa (safeStopReaction_rest k b s)
@[simp] theorem safeStopReaction_cpl (k : FaultKind) (b : Bool) (s : State) : (safeStopReaction k b s).cpl = s.cpl := congrArg Rest.cpl (safeStopReaction_rest k b s)
@[simp] theorem safeStopReaction_bbl (k : FaultKind) (b : Bool) (s : State) : (safeStopReaction k b s).bbl = s.bbl := congrArg Rest.bbl (safeStopReaction_rest k b s)
@[simp] theorem safeStopReaction_sent (k : FaultKind) (b : Bool) (s : State) : (safeStopReaction k b s).sent = s.sent := congrArg Rest.sent (safeStopReaction_rest k b s)
@[simp] theorem safeStopReaction_pending (k : FaultKind) (b : Bool) (s : State) : (safeStopReaction k b s).pending = s.pending := congrArg Rest.pending (safeStopReaction_rest k b s)

@[simp] theorem shutdownReaction_rest (k : FaultKind) (b : Bool) (s : State) : (shutdownReaction k b s).rest = s.rest := by
  unfold shutdownReaction; split <;> (try split) <;> simp
@[simp] theorem shutdownReaction_faults (k : FaultKind) (b : Bool) (s : State) : (shutdownReaction k b s).faults = s.faults := by
  unfold shutdownReaction; split <;> (try split) <;> simp
@[simp] theorem shutdownReaction_exc (k : FaultKind) (b : Bool) (s : State) : (shutdownReaction k b s).exc = s.exc := by
  unfold shutdownReaction; split <;> (try split) <;> simp
@[simp] theorem shutdownReaction_supply (k : FaultKind) (b : Bool) (s : State) : (shutdownReaction k b s).supply = s.supply := congrArg Rest.supply (shutdownReaction_rest k b s)
@[simp] theorem shutdownReaction_sns (k : FaultKind) (b : Bool) (s : State) : (shutdownReaction k b s).sns = s.sns := congrArg Rest.sns (shutdownReaction_rest k b s)
@[simp] theorem shutdownReaction_ena (k : FaultKind) (b : Bool) (s : State) : (shutdownReaction k b s).ena = s.ena := congrArg Rest.ena (shutdownReaction_rest k b s)
@[simp] theorem shutdownReaction_spl (k : FaultKind) (b : Bool) (s : State) : (shutdownReaction k b s).spl = s.spl := congrArg Rest.spl (shutdownReaction_rest k b s)
@[simp] theorem shutdownReaction_tqa (k : FaultKind) (b : Bool) (s : State) : (shutdownReaction k b s).tqa = s.tqa := congrArg Rest.tqa (shutdownReaction_rest k b s)
@[simp] theorem shutdownReaction_cpl (k : FaultKind) (b : Bool) (s : State) : (shutdownReaction k b s).cpl = s.cpl := congrArg Rest.cpl (shutdownReaction_rest k b s)
@[simp] theorem shutdownReaction_bbl (k : FaultKind) (b : Bool) (s : State) : (shutdownReaction k b s).bbl = s.bbl := congrArg Rest.bbl (shutdownReaction_rest k b s)
@[simp] theorem shutdownReaction_sent (k : FaultKind) (b : Bool) (s : State) : (shutdownReaction k b s).sent = s.sent := congrArg Rest.sent (shutdownReaction_rest k b s)
@[simp] theorem shutdownReaction_pending (k : FaultKind) (b : Bool) (s : State) : (shutdownReaction k b s).pending = s.pending := congrArg Rest.pending (shutdownReaction_rest k b s)

@[simp] theorem dsvOnRaise_rest (k : FaultKind) (b : Bool) (s : State) : (dsvOnRaise k b s).rest = s.rest := by
  unfold dsvOnRaise; rw [dsvSettle_rest]; split <;> simp
@[simp] theorem dsvOnRaise_faults (k : FaultKind) (b : Bool) (s : State) : (dsvOnRaise k b s).faults = s.faults := by
  unfold dsvOnRaise; rw [dsvSettle_faults]; split <;> simp
@[simp] theorem dsvOnRaise_exc (k : FaultKind) (b : Bool) (s : State) : (dsvOnRaise k b s).exc = s.exc := by
  unfold dsvOnRaise; rw [dsvSettle_exc]; split <;> simp
@[simp] theorem dsvOnRaise_supply (k : FaultKind) (b : Bool) (s : State) : (dsvOnRaise k b s).supply = s.supply := congrArg Rest.supply (dsvOnRaise_rest k b s)
@[simp] theorem dsvOnRaise_sns (k : FaultKind) (b : Bool) (s : State) : (dsvOnRaise k b s).sns = s.sns := congrArg Rest.sns (dsvOnRaise_rest k b s)
@[simp] theorem dsvOnRaise_ena (k : FaultKind) (b : Bool) (s : State) : (dsvOnRaise k b s).ena = s.ena := congrArg Rest.ena (dsvOnRaise_rest k b s)
@[simp] theorem dsvOnRaise_spl (k : FaultKind) (b : Bool) (s : State) : (dsvOnRaise k b s).spl = s.spl := congrArg Rest.spl (dsvOnRaise_rest k b s)
@[simp] theorem dsvOnRaise_tqa (k : FaultKind) (b : Bool) (s : State) : (dsvOnRaise k b s).tqa = s.tqa := congrArg Rest.tqa (dsvOnRaise_rest k b s)
@[simp] theorem dsvOnRaise_cpl (k : FaultKind) (b : Bool) (s : State) : (dsvOnRaise k b s).cpl = s.cpl := congrArg Rest.cpl (dsvOnRaise_rest k b s)
@[simp] theorem dsvOnRaise_bbl (k : FaultKind) (b : Bool) (s : State) : (dsvOnRaise k b s).bbl = s.bbl := congrArg Rest.bbl (dsvOnRaise_rest k b s)
@[simp] theorem dsvOnRaise_sent (k : FaultKind) (b : Bool) (s : State) : (dsvOnRaise k b s).sent = s.sent := congrArg Rest.sent (dsvOnRaise_rest k b s)
@[simp] theorem dsvOnRaise_pending (k : FaultKind) (b : Bool) (s : State) : (dsvOnRaise k b s).pending = s.pending := congrArg Rest.pending (dsvOnRaise_rest k b s)

@[simp] theorem raiseFault_rest (k : FaultKind) (s : State) : (raiseFault k s).rest = s.rest := by
  unfold raiseFault; simp
@[simp] theorem raiseFault_supply (k : FaultKind) (s : State) : (raiseFault k s).supply = s.supply := congrArg Rest.supply (raiseFault_rest k s)
@[simp] theorem raiseFault_sns (k : FaultKind) (s : State) : (raiseFault k s).sns = s.sns := congrArg Rest.sns (raiseFault_rest k s)
@[simp] theorem raiseFault_ena (k : FaultKind) (s : State) : (raiseFault k s).ena = s.ena := congrArg Rest.ena (raiseFault_rest k s)
@[simp] theorem raiseFault_spl (k : FaultKind) (s : State) : (raiseFault k s).spl = s.spl := congrArg Rest.spl (raiseFault_rest k s)
@[simp] theorem raiseFault_tqa (k : FaultKind) (s : State) : (raiseFault k s).tqa = s.tqa := congrArg Rest.tqa (raiseFault_rest k s)
@[simp] theorem raiseFault_cpl (k : FaultKind) (s : State) : (raiseFault k s).cpl = s.cpl := congrArg Rest.cpl (raiseFault_rest k s)
@[simp] theorem raiseFault_bbl (k : FaultKind) (s : State) : (raiseFault k s).bbl = s.bbl := congrArg Rest.bbl (raiseFault_rest k s)
@[simp] theorem raiseFault_sent (k : FaultKind) (s : State) : (raiseFault k s).sent = s.sent := congrArg Rest.sent (raiseFault_rest k s)
@[simp] theorem raiseFault_pending (k : FaultKind) (s : State) : (raiseFault k s).pending = s.pending := congrArg Rest.pending (raiseFault_rest k s)

@[simp] theorem clearFault_rest (k : FaultKind) (s : State) : (clearFault k s).rest = s.rest := by
  unfold clearFault; split <;> simp
@[simp] theorem clearFault_log (k : FaultKind) (s : State) : (clearFault k s).log = s.log := by
  unfold clearFault; split <;> simp
@[simp] theorem clearFault_supply (k : FaultKind) (s : State) : (clearFault k s).supply = s.supply := congrArg Rest.supply (clearFault_rest k s)
@[simp] theorem clearFault_sns (k : FaultKind) (s : State) : (clearFault k s).sns = s.sns := congrArg Rest.sns (clearFault_rest k s)
@[simp] theorem clearFault_ena (k : FaultKind) (s : State) : (clearFault k s).ena = s.ena := congrArg Rest.ena (clearFault_rest k s)
@[simp] theorem clearFault_spl (k : FaultKind) (s : State) : (clearFault k s).spl = s.spl := congrArg Rest.spl (clearFault_rest k s)
@[simp] theorem clearFault_tqa (k : FaultKind) (s : State) : (clearFault k s).tqa = s.tqa := congrArg Rest.tqa (clearFault_rest k s)
@[simp] theorem clearFault_cpl (k : FaultKind) (s : State) : (clearFault k s).cpl = s.cpl := congrArg Rest.cpl (clearFault_rest k s)
@[simp] theorem clearFault_bbl (k : FaultKind) (s : State) : (clearFault k s).bbl = s.bbl := congrArg Rest.bbl (clearFault_rest k s)
@[simp] theorem clearFault_sent (k : FaultKind) (s : State) : (clearFault k s).sent = s.sent := congrArg Rest.sent (clearFault_rest k s)
@[simp] theorem clearFault_pending (k : FaultKind) (s : State) : (clearFault k s).pending = s.pending := congrArg Rest.pending (clearFault_rest k s)

@[simp] theorem momentaryFault_rest (k : FaultKind) (s : State) : (momentaryFault k s).rest = s.rest := by
  unfold momentaryFault; simp
@[simp] theorem momentaryFault_dsv (k : FaultKind) (s : State) : (momentaryFault k s).dsv = s.dsv := by
  unfold momentaryFault; simp
@[simp] theorem momentaryFault_wear (k : FaultKind) (s : State) : (momentaryFault k s).wear = s.wear := by
  unfold momentaryFault; simp
@[simp] theorem momentaryFault_log (k : FaultKind) (s : State) : (momentaryFault k s).log = s.log := by
  unfold momentaryFault; simp
@[simp] theorem momentaryFault_supply (k : FaultKind) (s : State) : (momentaryFault k s).supply = s.supply := congrArg Rest.supply (momentaryFault_rest k s)
@[simp] theorem momentaryFault_sns (k : FaultKind) (s : State) : (momentaryFault k s).sns = s.sns := congrArg Rest.sns (momentaryFault_rest k s)
@[simp] theorem momentaryFault_ena (k : FaultKind) (s : State) : (momentaryFault k s).ena = s.ena := congrArg Rest.ena (momentaryFault_rest k s)
@[simp] theorem momentaryFault_spl (k : FaultKind) (s : State) : (momentaryFault k s).spl = s.spl := congrArg Rest.spl (momentaryFault_rest k s)
@[simp] theorem momentaryFault_tqa (k : FaultKind) (s : State) : (momentaryFault k s).tqa = s.tqa := congrArg Rest.tqa (momentaryFault_rest k s)
@[simp] theorem momentaryFault_cpl (k : FaultKind) (s : State) : (momentaryFault k s).cpl = s.cpl := congrArg Rest.cpl (momentaryFault_rest k s)
@[simp] theorem momentaryFault_bbl (k : FaultKind) (s : State) : (momentaryFault k s).bbl = s.bbl := congrArg Rest.bbl (momentaryFault_rest k s)
@[simp] theorem momentaryFault_sent (k : FaultKind) (s : State) : (momentaryFault k s).sent = s.sent := congrArg Rest.sent (momentaryFault_rest k s)
@[simp] theorem momentaryFault_pending (k : FaultKind) (s : State) : (momentaryFault k s).pending = s.pending := congrArg Rest.pending (momentaryFault_rest k s)

@[simp] theorem acknowledgeFaults_rest (s : State) : (acknowledgeFaults s).rest = s.rest := by
  unfold acknowledgeFaults; split <;> rfl
@[simp] theorem acknowledgeFaults_dsv (s : State) : (acknowledgeFaults s).dsv = s.dsv := by
  unfold acknowledgeFaults; split <;> rfl
@[simp] theorem acknowledgeFaults_wear (s : State) : (acknowledgeFaults s).wear = s.wear := by
  unfold acknowledgeFaults; split <;> rfl
@[simp] theorem acknowledgeFaults_log (s : State) : (acknowledgeFaults s).log = s.log := by
  unfold acknowledgeFaults; split <;> rfl
@[simp] theorem acknowledgeFaults_supply (s : State) : (acknowledgeFaults s).supply = s.supply := congrArg Rest.supply (acknowledgeFaults_rest s)
@[simp] theorem acknowledgeFaults_sns (s : State) : (acknowledgeFaults s).sns = s.sns := congrArg Rest.sns (acknowledgeFaults_rest s)
@[simp] theorem acknowledgeFaults_ena (s : State) : (acknowledgeFaults s).ena = s.ena := congrArg Rest.ena (acknowledgeFaults_rest s)
@[simp] theorem acknowledgeFaults_spl (s : State) : (acknowledgeFaults s).spl = s.spl := congrArg Rest.spl (acknowledgeFaults_rest s)
@[simp] theorem acknowledgeFaults_tqa (s : State) : (acknowledgeFaults s).tqa = s.tqa := congrArg Rest.tqa (acknowledgeFaults_rest s)
@[simp] theorem acknowledgeFaults_cpl (s : State) : (acknowledgeFaults s).cpl = s.cpl := congrArg Rest.cpl (acknowledgeFaults_rest s)
@[simp] theorem acknowledgeFaults_bbl (s : State) : (acknowledgeFaults s).bbl = s.bbl := congrArg Rest.bbl (acknowledgeFaults_rest s)
@[simp] theorem acknowledgeFaults_sent (s : State) : (acknowledgeFaults s).sent = s.sent := congrArg Rest.sent (acknowledgeFaults_rest s)
@[simp] theorem acknowledgeFaults_pending (s : State) : (acknowledgeFaults s).pending = s.pending := congrArg Rest.pending (acknowledgeFaults_rest s)

@[simp] theorem dsvKey_rest (s : State) : (dsvKey s).rest = s.rest := by
  unfold dsvKey; rw [dsvSettle_rest]; split <;> (try split) <;> (try split) <;> simp
@[simp] theorem dsvKey_faults (s : State) : (dsvKey s).faults = s.faults := by
  unfold dsvKey; rw [dsvSettle_faults]; split <;> (try split) <;> (try split) <;> simp
@[simp] theorem dsvKey_exc (s : State) : (dsvKey s).exc = s.exc := by
  unfold dsvKey; rw [dsvSettle_exc]; split <;> (try split) <;> (try split) <;> simp
@[simp] theorem dsvKey_supply (s : State) : (dsvKey s).supply = s.supply := congrArg Rest.supply (dsvKey_rest s)
@[simp] theorem dsvKey_sns (s : State) : (dsvKey s).sns = s.sns := congrArg Rest.sns (dsvKey_rest s)
@[simp] theorem dsvKey_ena (s : State) : (dsvKey s).ena = s.ena := congrArg Rest.ena (dsvKey_rest s)
@[simp] theorem dsvKey_spl (s : State) : (dsvKey s).spl = s.spl := congrArg Rest.spl (dsvKey_rest s)
@[simp] theorem dsvKey_tqa (s : State) : (dsvKey s).tqa = s.tqa := congrArg Rest.tqa (dsvKey_rest s)
@[simp] theorem dsvKey_cpl (s : State) : (dsvKey s).cpl = s.cpl := congrArg Rest.cpl (dsvKey_rest s)
@[simp] theorem dsvKey_bbl (s : State) : (dsvKey s).bbl = s.bbl := congrArg Rest.bbl (dsvKey_rest s)
@[simp] theorem dsvKey_sent (s : State) : (dsvKey s).sent = s.sent := congrArg Rest.sent (dsvKey_rest s)
@[simp] theorem dsvKey_pending (s : State) : (dsvKey s).pending = s.pending := congrArg Rest.pending (dsvKey_rest s)

@[simp] theorem voltageTest_rest (s : State) : (voltageTest s).rest = s.rest := by
  unfold voltageTest; split <;> simp
@[simp] theorem voltageTest_faults (s : State) : (voltageTest s).faults = s.faults := by
  unfold voltageTest; split <;> simp
@[simp] theorem voltageTest_wear (s : State) : (voltageTest s).wear = s.wear := by
  unfold voltageTest; split <;> simp
@[simp] theorem voltageTest_log (s : State) : (voltageTest s).log = s.log := by
  unfold voltageTest; split <;> simp
@[simp] theorem voltageTest_exc (s : State) : (voltageTest s).exc = s.exc := by
  unfold voltageTest; split <;> simp
@[simp] theorem voltageTest_port (s : State) : (voltageTest s).port = s.port := by
  unfold voltageTest; split <;> simp
@[simp] theorem voltageTest_supply (s : State) : (voltageTest s).supply = s.supply := congrArg Rest.supply (voltageTest_rest s)
@[simp] theorem voltageTest_sns (s : State) : (voltageTest s).sns = s.sns := congrArg Rest.sns (voltageTest_rest s)
@[simp] theorem voltageTest_ena (s : State) : (voltageTest s).ena = s.ena := congrArg Rest.ena (voltageTest_rest s)
@[simp] theorem voltageTest_spl (s : State) : (voltageTest s).spl = s.spl := congrArg Rest.spl (voltageTest_rest s)
@[simp] theorem voltageTest_tqa (s : State) : (voltageTest s).tqa = s.tqa := congrArg Rest.tqa (voltageTest_rest s)
@[simp] theorem voltageTest_cpl (s : State) : (voltageTest s).cpl = s.cpl := congrArg Rest.cpl (voltageTest_rest s)
@[simp] theorem voltageTest_bbl (s : State) : (voltageTest s).bbl = s.bbl := congrArg Rest.bbl (voltageTest_rest s)
@[simp] theorem voltageTest_sent (s : State) : (voltageTest s).sent = s.sent := congrArg Rest.sent (voltageTest_rest s)
@[simp] theorem voltageTest_pending (s : State) : (voltageTest s).pending = s.pending := congrArg Rest.pending (voltageTest_rest s)

@[simp] theorem completePowerDown_rest (s : State) : (completePowerDown s).rest = s.rest := by
  unfold completePowerDown; dsimp only; rw [dsvSettle_rest]; split <;> simp
@[simp] theorem completePowerDown_faults (s : State) : (completePowerDown s).faults = s.faults := by
  unfold completePowerDown; dsimp only; rw [dsvSettle_faults]; split <;> simp
@[simp] theorem completePowerDown_exc (s : State) : (completePowerDown s).exc = s.exc := by
  unfold completePowerDown; dsimp only; rw [dsvSettle_exc]; split <;> simp
@[simp] theorem completePowerDown_supply (s : State) : (completePowerDown s).supply = s.supply := congrArg Rest.supply (completePowerDown_rest s)
@[simp] theorem completePowerDown_sns (s : State) : (completePowerDown s).sns = s.sns := congrArg Rest.sns (completePowerDown_rest s)
@[simp] theorem completePowerDown_ena (s : State) : (completePowerDown s).ena = s.ena := congrArg Rest.ena (completePowerDown_rest s)
@[simp] theorem completePowerDown_spl (s : State) : (completePowerDown s).spl = s.spl := congrArg Rest.spl (completePowerDown_rest s)
@[simp] theorem completePowerDown_tqa (s : State) : (completePowerDown s).tqa = s.tqa := congrArg Rest.tqa (completePowerDown_rest s)
@[simp] theorem completePowerDown_cpl (s : State) : (completePowerDown s).cpl = s.cpl := congrArg Rest.cpl (completePowerDown_rest s)
@[simp] theorem completePowerDown_bbl (s : State) : (completePowerDown s).bbl = s.bbl := congrArg Rest.bbl (completePowerDown_rest s)
@[simp] theorem completePowerDown_sent (s : State) : (completePowerDown s).sent = s.sent := congrArg Rest.sent (completePowerDown_rest s)
@[simp] theorem completePowerDown_pending (s : State) : (completePowerDown s).pending = s.pending := congrArg Rest.pending (completePowerDown_rest s)

end Sys2Proof.Machine
end

