-- ==== Sys2Proof/Laws/Kept.lean ====
section
/-! SUPPORT. One lemma per shared operation that says everything it keeps: the invariants of the exchange RAM, the log and the
wear counters, the causes and change-pending flags already set, and the frame of an event. -/

namespace Sys2Proof.Machine

/-- What a shared operation keeps on the way from s to t. -/
structure Kept (s t : State) : Prop where
  memory : MemoryInv s → MemoryInv t
  log : LogInv s → LogInv t
  warned : WarnedInv s → WarnedInv t
  causes : ∀ c : Cause, s.causeSet c = true → t.causeSet c = true
  changes : ∀ i : Fin 8, (s.reportRow i).changePending = true → (t.reportRow i).changePending = true
  frame : LogInv s → EventFrame s t

/-! ## Composition -/

theorem EventFrame.refl (s : State) : EventFrame s s :=
  ⟨rfl, rfl, rfl, rfl, rfl, rfl, rfl, rfl, rfl, rfl, fun _ => rfl, rfl, rfl, rfl, fun _ _ _ => rfl⟩

theorem EventFrame.trans {s t u : State} (h : EventFrame s t) (k : EventFrame t u) : EventFrame s u := by
  obtain ⟨h1, h2, h3, h4, h5, h6, h7, h8, h9, h10, h11, h12, h13, h14, h15⟩ := h
  obtain ⟨k1, k2, k3, k4, k5, k6, k7, k8, k9, k10, k11, k12, k13, k14, k15⟩ := k
  refine ⟨k1.trans h1, k2.trans h2, k3.trans h3, k4.trans h4, k5.trans h5, k6.trans h6, k7.trans h7, k8.trans h8,
    k9.trans h9, k10.trans h10, fun i => ?_, k12.trans h12, k13.trans h13, k14.trans h14,
    fun a ha hb => (k15 a ha hb).trans (h15 a ha hb)⟩
  rw [k11 i, h11 i]

theorem Kept.refl (s : State) : Kept s s :=
  ⟨id, id, id, fun _ => id, fun _ => id, fun _ => EventFrame.refl s⟩

theorem Kept.trans {s t u : State} (h : Kept s t) (k : Kept t u) : Kept s u :=
  ⟨fun m => k.memory (h.memory m), fun m => k.log (h.log m), fun m => k.warned (h.warned m),
    fun c m => k.causes c (h.causes c m), fun i m => k.changes i (h.changes i m),
    fun m => (h.frame m).trans (k.frame (h.log m))⟩

/-- The same, the later operation first. -/
theorem Kept.after {s t u : State} (k : Kept t u) (h : Kept s t) : Kept s u := h.trans k

theorem Kept.ite {s t u : State} {p : Prop} [Decidable p] (h : p → Kept s t) (k : ¬p → Kept s u) :
    Kept s (if p then t else u) := by
  split
  · exact h ‹_›
  · exact k ‹_›

/-- An operation that touches no record of the log, the wear monitor, EXC or the exchange RAM, and no setting of DSV. -/
theorem Kept.of_same {s t : State} (hport : t.port = s.port) (hlog : t.log = s.log) (hwear : t.wear.counters = s.wear.counters)
    (hexc : t.exc = s.exc) (hcursor : t.faults.cursor = s.faults.cursor) (hsupply : t.supply = s.supply)
    (hpending : t.pending = s.pending) (hmode : t.dsv.mode = s.dsv.mode) (hservice : t.dsv.serviceMode = s.dsv.serviceMode)
    (hlimits : t.dsv.limits = s.dsv.limits) (hcause : t.dsv.resetCause = s.dsv.resetCause) : Kept s t := by
  refine ⟨?_, ?_, ?_, ?_, ?_, fun _ => ⟨hsupply, hmode, hservice, hlimits, hcause, hcursor, by rw [hlog], by rw [hexc],
    by rw [hexc], by rw [hexc], fun i => ?_, by rw [hport], by rw [hport], hpending, fun a _ _ => by rw [hport]⟩⟩
  · unfold MemoryInv; rw [hport]; exact id
  · unfold LogInv; rw [hlog]; exact id
  · unfold WarnedInv State.counter; rw [hwear]; exact id
  · intro c; unfold State.causeSet; rw [hport]; exact id
  · intro i; unfold State.reportRow; rw [hexc]; exact id
  · unfold State.reportRow; rw [hexc]

/-! ## Attention, status block, change publications -/

theorem cause_kept (a b : BitVec 8) (c : Cause) (h : a &&& c.bit ≠ 0) : (a ||| b) &&& c.bit ≠ 0 := by
  intro hz
  apply h
  have e : a &&& c.bit = a &&& ((a ||| b) &&& c.bit) := by
    ext i
    simp only [BitVec.getElem_and, BitVec.getElem_or]
    cases a[i] <;> simp
  rw [e, hz]
  simp

theorem cause_set (a : BitVec 8) (c : Cause) : (a ||| c.bit) &&& c.bit ≠ 0 := by
  revert a; cases c <;> decide +kernel

theorem Port.byteAt_setCause_other (p : Port) (c : Cause) {x : Nat} (h : ¬(0x80 ≤ x ∧ x < 0x98)) :
    (p.setCause c).byteAt x = p.byteAt x := by
  apply Port.byteAt_setAttn_other <;> (unfold statusAddr; omega)

/-- The exchange RAM or ATTN changed: the status block's items and the log slots only, no cause cleared. -/
theorem Kept.of_port {s : State} {p : Port} (hm : Memory.wf s.port.ram = true → Memory.wf p.ram = true)
    (hc : ∀ c : Cause, s.causeSet c = true → ({ s with port := p } : State).causeSet c = true)
    (he : p.attnEn = s.port.attnEn) (hu : p.powerUps = s.port.powerUps)
    (hb : LogInv s → ∀ a : Nat, ¬(0x80 ≤ a ∧ a < 0x98) → ¬(0x580 ≤ a ∧ a < 0xD80) → p.byteAt a = s.port.byteAt a) :
    Kept s { s with port := p } :=
  ⟨hm, id, id, hc, fun _ => id,
    fun hl => ⟨rfl, rfl, rfl, rfl, rfl, rfl, rfl, rfl, rfl, rfl, fun _ => rfl, he, hu, rfl, hb hl⟩⟩

theorem setCause_kept (c : Cause) (s : State) : Kept s (setCause c s) := by
  refine Kept.of_port (Port.wf_setCause s.port c) ?_ ?_ ?_ fun _ a ha _ => Port.byteAt_setCause_other s.port c ha
  · intro d hd
    have h : s.port.attn &&& d.bit ≠ 0 := of_decide_eq_true hd
    exact decide_eq_true (by simpa [Port.setCause] using cause_kept s.port.attn c.bit d h)
  · simp [Port.setCause]
  · simp [Port.setCause]

/-- A cause that has been set is set. -/
theorem setCause_causeSet (c : Cause) (s : State) : (setCause c s).causeSet c = true :=
  decide_eq_true (by simpa [setCause, Port.setCause] using cause_set s.port.attn c)

theorem setStatus_kept {i : Nat} (hi : i < 12) (w : Word) (s : State) : Kept s (setStatus i w s) := by
  refine Kept.of_port (Port.wf_setStatus s.port i w) (fun _ h => h) rfl rfl fun _ a ha _ => ?_
  apply Port.byteAt_setWord_other <;> (unfold statusAddr; omega)

theorem putAt_get_same {α : Type} {n : Nat} (v : Vector α n) (i : Fin n) (x : α) : (putAt v i x).get i = x := by
  simp [putAt, Vector.get_eq_getElem]

theorem putAt_get_other {α : Type} {n : Nat} (v : Vector α n) {i j : Fin n} (x : α) (h : j ≠ i) :
    (putAt v i x).get j = v.get j := by
  have : i.val ≠ j.val := fun e => h (Fin.ext e.symm)
  simp [putAt, Vector.get_eq_getElem, this]

theorem requestReport_row_same (i : Fin 8) (s : State) :
    (requestReport i s).reportRow i = { s.reportRow i with changePending := true } := putAt_get_same _ _ _

theorem requestReport_row_other {i j : Fin 8} (s : State) (h : j ≠ i) : (requestReport i s).reportRow j = s.reportRow j :=
  putAt_get_other _ _ h

theorem requestReport_kept (i : Fin 8) (s : State) : Kept s (requestReport i s) := by
  refine ⟨id, id, id, fun _ => id, ?_, fun _ => ⟨rfl, rfl, rfl, rfl, rfl, rfl, rfl, rfl, rfl, rfl, ?_, rfl, rfl, rfl,
    fun _ _ _ => rfl⟩⟩
  · intro j h
    by_cases e : j = i
    · subst e; rw [requestReport_row_same]
    · rw [requestReport_row_other s e]; exact h
  · intro j
    by_cases e : j = i
    · subst e; rw [requestReport_row_same]
    · rw [requestReport_row_other s e]

/-! ## The log -/

theorem LogEntry.words_length (e : LogEntry) (n : Word) : (e.words n).length = 16 := by
  have h : ∀ i : Int, (wideIntWords i).length = 2 := by intro i; unfold wideIntWords; split <;> rfl
  unfold LogEntry.words
  cases e.source <;> cases e.value <;> cases e.threshold <;> simp [h, wideWords, absentWide]

theorem LogInv.writePos_lt {s : State} (h : LogInv s) : s.log.writePos < 64 := by
  have := h.2.2; omega

theorem Port.byteAt_setLogStatus_other (p : Port) (r : LogRing) {x : Nat} (h : ¬(0x80 ≤ x ∧ x < 0x98)) :
    (p.setLogStatus r).byteAt x = p.byteAt x := by
  unfold Port.setLogStatus Port.setStatus
  repeat rw [Port.byteAt_setWord_other _ _ (by unfold statusAddr; omega) (by unfold statusAddr; omega)]

theorem LogRing.filter_afterAppend (r : LogRing) (e : LogEntry) : (r.afterAppend e).filter = r.filter := by
  unfold LogRing.afterAppend; split
  · split <;> rfl
  · rfl

theorem Port.attnEn_afterAppend (p : Port) (q : Bool) (r : LogRing) (e : LogEntry) :
    (p.afterAppend q r e).attnEn = p.attnEn ∧ (p.afterAppend q r e).powerUps = p.powerUps := by
  unfold Port.afterAppend Port.setLogStatus Port.setCause
  split
  · split <;> cases q <;> simp
  · exact ⟨rfl, rfl⟩

theorem Port.attn_afterAppend (p : Port) (q : Bool) (r : LogRing) (e : LogEntry) (c : Cause) (h : p.attn &&& c.bit ≠ 0) :
    (p.afterAppend q r e).attn &&& c.bit ≠ 0 := by
  unfold Port.afterAppend Port.setLogStatus Port.setCause
  split
  · split <;> cases q <;> simp <;> first | exact h | exact cause_kept _ _ c h
  · exact h

theorem Port.byteAt_afterAppend (p : Port) (q : Bool) (r : LogRing) (e : LogEntry) (hr : r.writePos < 64) {a : Nat}
    (h : ¬(0x80 ≤ a ∧ a < 0x98)) (h' : ¬(0x580 ≤ a ∧ a < 0xD80)) : (p.afterAppend q r e).byteAt a = p.byteAt a := by
  have hs : (p.setWords (slotAddr r.writePos) (e.words r.nextSequence)).byteAt a = p.byteAt a := by
    apply Port.byteAt_setWords_other
    rw [LogEntry.words_length]; unfold slotAddr; omega
  unfold Port.afterAppend
  split
  · split <;> cases q
    · rw [if_neg Bool.false_ne_true, Port.byteAt_setCause_other _ _ h, Port.byteAt_setLogStatus_other _ _ h, hs]
    · rw [if_pos rfl, Port.byteAt_setLogStatus_other _ _ h, hs]
    · rw [if_neg Bool.false_ne_true, Port.byteAt_setCause_other _ _ h, Port.byteAt_setLogStatus_other _ _ h]
    · rw [if_pos rfl, Port.byteAt_setLogStatus_other _ _ h]
  · rfl

theorem LogRing.inv_afterAppend (r : LogRing) (e : LogEntry)
    (h : r.occupancy ≤ 64 ∧ r.readPos < 64 ∧ r.writePos = (r.readPos + r.occupancy) % 64) :
    (r.afterAppend e).occupancy ≤ 64 ∧ (r.afterAppend e).readPos < 64 ∧
      (r.afterAppend e).writePos = ((r.afterAppend e).readPos + (r.afterAppend e).occupancy) % 64 := by
  unfold LogRing.afterAppend
  split
  · split
    · refine ⟨?_, h.2.1, ?_⟩
      · show r.occupancy + 1 ≤ 64
        omega
      show (r.writePos + 1) % 64 = (r.readPos + (r.occupancy + 1)) % 64
      omega
    · exact h
  · exact h

theorem logAppend_kept (q : Bool) (e : LogEntry) (s : State) : Kept s (logAppend q e s) := by
  refine ⟨Port.wf_afterAppend s.port q s.log e, LogRing.inv_afterAppend s.log e, id, ?_, fun _ => id, fun hl => ?_⟩
  · intro c h
    exact decide_eq_true (Port.attn_afterAppend s.port q s.log e c (of_decide_eq_true h))
  · exact ⟨rfl, rfl, rfl, rfl, rfl, rfl, LogRing.filter_afterAppend s.log e, rfl, rfl, rfl, fun _ => rfl,
      (Port.attnEn_afterAppend s.port q s.log e).1, (Port.attnEn_afterAppend s.port q s.log e).2, rfl,
      fun a ha hb => Port.byteAt_afterAppend s.port q s.log e hl.writePos_lt ha hb⟩

theorem logNow_kept (k : LogKind) (c : Option Counter) (v : Option Int) (s : State) : Kept s (logNow k c v s) :=
  logAppend_kept _ _ s

theorem logTake_kept (s : State) : Kept s (logTake s) := by
  unfold logTake
  split
  · exact Kept.refl s
  · refine ⟨Port.wf_setLogStatus s.port _, ?_, id, fun c h => ?_, fun _ => id, fun _ => ?_⟩
    · rintro ⟨h1, h2, h3⟩
      refine ⟨?_, ?_, ?_⟩
      · show s.log.occupancy - 1 ≤ 64
        omega
      · show (s.log.readPos + 1) % 64 < 64
        omega
      · show s.log.writePos = ((s.log.readPos + 1) % 64 + (s.log.occupancy - 1)) % 64
        omega
    · exact h
    · exact ⟨rfl, rfl, rfl, rfl, rfl, rfl, rfl, rfl, rfl, rfl, fun _ => rfl, rfl, rfl, rfl,
        fun a ha _ => Port.byteAt_setLogStatus_other s.port _ ha⟩

/-! ## Wear counters -/

theorem setCounter_counter_same (c : Counter) (r : WearRecord) (s : State) : (setCounter c r s).counter c = r :=
  putAt_get_same _ _ _

theorem setCounter_counter_other {c d : Counter} (r : WearRecord) (s : State) (h : d ≠ c) :
    (setCounter c r s).counter d = s.counter d := putAt_get_other _ _ h

theorem setCounter_kept (c : Counter) (r : WearRecord) (s : State)
    (h : WarnedInv s → r.value ≤ 4294967295 ∧ r.warned.code ≤ r.warranted.code) : Kept s (setCounter c r s) := by
  refine ⟨id, id, fun hw d => ?_, fun _ => id, fun _ => id, fun _ => ⟨rfl, rfl, rfl, rfl, rfl, rfl, rfl, rfl, rfl, rfl,
    fun _ => rfl, rfl, rfl, rfl, fun _ _ _ => rfl⟩⟩
  by_cases e : d = c
  · subst e; rw [setCounter_counter_same]; exact h hw
  · rw [setCounter_counter_other r s e]; exact hw d

theorem thresholdCheck_counter_other (q : Bool) {c d : Counter} (s : State) (h : d ≠ c) :
    (thresholdCheck q c s).counter d = s.counter d := by
  unfold thresholdCheck
  split
  · rfl
  · exact setCounter_counter_other _ s h

theorem thresholdCheck_value (q : Bool) (c : Counter) (s : State) :
    ((thresholdCheck q c s).counter c).value = (s.counter c).value := by
  unfold thresholdCheck
  split
  · rfl
  · rename_i level _
    exact (congrArg WearRecord.value (setCounter_counter_same c { s.counter c with
      warned := level, stampOdometer := s.sns.odometer, stampSeconds := s.dsv.operatingSeconds } s) : _)

theorem thresholdCheck_kept (q : Bool) (c : Counter) (s : State) : Kept s (thresholdCheck q c s) := by
  unfold thresholdCheck
  split
  · exact Kept.refl s
  · rename_i level h
    refine (logAppend_kept _ _ _).after (setCounter_kept c _ s fun hw => ⟨(hw c).1, ?_⟩)
    unfold WearRecord.due at h
    show level.code ≤ (s.counter c).warranted.code
    unfold WearRecord.warranted
    split at h
    · rename_i h1
      rw [if_pos ⟨h1.1, h1.2.1⟩]; cases h; exact Nat.le_refl _
    · split at h
      · rename_i h1 h2
        cases h
        split
        · decide
        · rw [if_pos ⟨h2.1, h2.2.1⟩]
      · exact absurd h (by simp)

theorem WearRecord.warranted_mono {r : WearRecord} {v : Nat} (h : r.value ≤ v) :
    r.warranted.code ≤ ({ r with value := v } : WearRecord).warranted.code := by
  unfold WearRecord.warranted
  by_cases h1 : r.urgent ≠ 0 ∧ r.urgent ≤ r.value
  · rw [if_pos h1, if_pos ⟨h1.1, Nat.le_trans h1.2 h⟩]
  · rw [if_neg h1]
    by_cases h2 : r.advise ≠ 0 ∧ r.advise ≤ r.value
    · rw [if_pos h2]
      split
      · decide
      · rw [if_pos ⟨h2.1, Nat.le_trans h2.2 h⟩]
    · rw [if_neg h2]; exact Nat.zero_le _

theorem wearIncrement_counter_other (q : Bool) {c d : Counter} (s : State) (h : d ≠ c) :
    (wearIncrement q c s).counter d = s.counter d := by
  unfold wearIncrement
  rw [thresholdCheck_counter_other q _ h, setCounter_counter_other _ s h]

theorem wearIncrement_value (q : Bool) (c : Counter) (s : State) :
    ((wearIncrement q c s).counter c).value = min ((s.counter c).value + 1) 4294967295 := by
  unfold wearIncrement
  rw [thresholdCheck_value, setCounter_counter_same]
  rfl

theorem wearIncrement_kept (q : Bool) (c : Counter) (s : State) : Kept s (wearIncrement q c s) := by
  unfold wearIncrement
  refine (setCounter_kept c _ s fun hw => ⟨Nat.min_le_right _ _, ?_⟩).trans (thresholdCheck_kept q c _)
  refine Nat.le_trans (hw c).2 (WearRecord.warranted_mono ?_)
  exact Nat.le_min.mpr ⟨Nat.le_succ _, (hw c).1⟩

theorem wearIncrements_kept (c : Counter) (n : Nat) (s : State) : Kept s (wearIncrements c n s) := by
  induction n generalizing s with
  | zero => exact Kept.refl s
  | succ n ih => exact (wearIncrement_kept false c s).trans (ih _)

theorem setThresholds_kept (c : Counter) (x y : Nat) (s : State) : Kept s (setThresholds c x y s) := by
  unfold setThresholds
  exact (thresholdCheck_kept _ _ _).after (setCounter_kept c _ s fun hw => ⟨(hw c).1, Nat.zero_le _⟩)

theorem reseedCounter_kept (c : Counter) {x : Nat} (hx : x ≤ 4294967295) (s : State) : Kept s (reseedCounter c x s) := by
  unfold reseedCounter
  exact ((setCounter_kept c _ s fun _ => ⟨hx, Nat.zero_le _⟩).trans (logNow_kept _ _ _ _)).trans (thresholdCheck_kept _ _ _)

theorem clearRemainder_kept (c : Counter) (s : State) : Kept s (clearRemainder c s) := by
  unfold clearRemainder
  split <;> exact Kept.of_same rfl rfl rfl rfl rfl rfl rfl rfl rfl rfl rfl

theorem clearCounter_kept (c : Counter) (s : State) : Kept s (clearCounter c s) := by
  unfold clearCounter
  exact ((logNow_kept _ _ _ s).trans (setCounter_kept c _ _ fun _ => ⟨Nat.zero_le _, Nat.zero_le _⟩)).trans
    ((clearRemainder_kept c _).trans (thresholdCheck_kept _ _ _))

theorem closeWindow_kept (s : State) : Kept s (closeWindow s) := by
  unfold closeWindow
  split
  · refine (setStatus_kept (i := 4) (by omega) _ _).after ((setStatus_kept (i := 5) (by omega) _ _).after ?_)
    exact Kept.of_same rfl rfl rfl rfl rfl rfl rfl rfl rfl rfl rfl
  · exact Kept.refl s

/-! ## The driveline supervisor -/

/-- DSV's records changed, but for its settings. -/
theorem withDsv_kept {d : Dsv} {s : State} (hmode : d.mode = s.dsv.mode) (hservice : d.serviceMode = s.dsv.serviceMode)
    (hlimits : d.limits = s.dsv.limits) (hcause : d.resetCause = s.dsv.resetCause) : Kept s (s.withDsv d) :=
  Kept.of_same rfl rfl rfl rfl rfl rfl rfl hmode hservice hlimits hcause

theorem setDrivelineState_kept (st : DrivelineState) (s : State) : Kept s (setDrivelineState st s) := by
  unfold setDrivelineState
  exact (setCause_kept _ _).after ((setStatus_kept (i := 1) (by omega) _ _).after (withDsv_kept rfl rfl rfl rfl))

theorem setStopCause_kept (c : StopCause) (s : State) : Kept s (setStopCause c s) := withDsv_kept rfl rfl rfl rfl

theorem stopTimers_kept (s : State) : Kept s (stopTimers s) := withDsv_kept rfl rfl rfl rfl

theorem judgeOpening_kept (s : State) : Kept s (judgeOpening s) := by
  unfold judgeOpening
  exact Kept.ite (fun _ => (logNow_kept _ _ _ _).trans (wearIncrement_kept _ _ _)) fun _ => Kept.refl s

theorem openPos_kept (s : State) : Kept s (openPos s) := by
  unfold openPos
  exact Kept.ite (fun _ => (judgeOpening_kept s).trans (withDsv_kept rfl rfl rfl rfl)) fun _ => Kept.refl s

theorem openAll_kept (s : State) : Kept s (openAll s) := (openPos_kept s).trans (withDsv_kept rfl rfl rfl rfl)

theorem enterStandby_kept (s : State) : Kept s (enterStandby s) :=
  (setStopCause_kept _ s).trans (setDrivelineState_kept _ _)

theorem enterPrecharge_kept (s : State) : Kept s (enterPrecharge s) :=
  (setDrivelineState_kept _ _).after (withDsv_kept rfl rfl rfl rfl)

theorem enterDrive_kept (s : State) : Kept s (enterDrive s) := (setDrivelineState_kept _ s).trans (closeWindow_kept _)

theorem enterSafeStop_kept (s : State) : Kept s (enterSafeStop s) :=
  (setDrivelineState_kept _ _).after (withDsv_kept rfl rfl rfl rfl)

theorem enterPowerDown_kept (s : State) : Kept s (enterPowerDown s) :=
  (setDrivelineState_kept _ _).after (withDsv_kept rfl rfl rfl rfl)

theorem abortPrecharge_kept (s : State) : Kept s (abortPrecharge s) :=
  (enterStandby_kept _).after ((openAll_kept s).trans (withDsv_kept rfl rfl rfl rfl))

theorem shutdown_kept (k : FaultKind) (s : State) : Kept s (shutdown k s) :=
  ((stopTimers_kept s).trans ((setStopCause_kept _ _).trans (openAll_kept _))).trans
    ((logNow_kept _ _ _ _).trans (setDrivelineState_kept _ _))

theorem dsvTest_kept (s : State) : Kept s (dsvTest s) := by
  unfold dsvTest
  have hd := setDrivelineState_kept
  cases s.dsv.state
  · exact Kept.ite (fun _ => enterPrecharge_kept s) fun _ => Kept.refl s
  · exact Kept.refl s
  · exact Kept.ite (fun _ => Kept.ite (fun _ => enterDrive_kept s) fun _ => Kept.ite (fun _ => hd _ s) fun _ => Kept.refl s)
      fun _ => Kept.refl s
  · exact Kept.ite (fun _ => hd _ s) fun _ => Kept.ite (fun _ => hd _ s) fun _ => Kept.refl s
  · exact Kept.ite (fun _ => enterDrive_kept s) fun _ => Kept.refl s
  · exact Kept.ite (fun _ => enterPowerDown_kept s) fun _ => Kept.refl s
  · exact Kept.refl s
  · exact Kept.refl s

theorem dsvSettle_kept (s : State) : Kept s (dsvSettle s) := (dsvTest_kept s).trans (dsvTest_kept _)

/-! ## The fault table -/

theorem setRecord_kept (k : FaultKind) (r : FaultRecord) (s : State) : Kept s (setRecord k r s) :=
  Kept.of_same rfl rfl rfl rfl rfl rfl rfl rfl rfl rfl rfl

theorem notifyFaults_kept (s : State) : Kept s (notifyFaults s) := (setCause_kept _ s).trans (requestReport_kept _ _)

/-- The change of records is notified (R160). -/
theorem notifyFaults_notifies (s : State) :
    (notifyFaults s).causeSet .faultChange = true ∧ ((notifyFaults s).reportRow 4).changePending = true :=
  ⟨setCause_causeSet .faultChange s, by unfold notifyFaults; rw [requestReport_row_same]⟩

theorem safeStopReaction_kept (k : FaultKind) (b : Bool) (s : State) : Kept s (safeStopReaction k b s) := by
  unfold safeStopReaction
  have hstop : Kept s (enterSafeStop (logNow .safeStopEntered none (some (k.number.val : Int)) (setStopCause (.fault k) s))) :=
    (setStopCause_kept _ s).trans ((logNow_kept _ _ _ _).trans (enterSafeStop_kept _))
  cases s.dsv.state
  · exact Kept.refl s
  · exact Kept.ite (fun _ => abortPrecharge_kept s) fun _ => Kept.refl s
  · exact Kept.ite (fun _ => (setStopCause_kept _ s).trans (enterPowerDown_kept _)) fun _ => Kept.refl s
  · exact Kept.ite (fun _ => hstop) fun _ => Kept.refl s
  · exact Kept.ite (fun _ => hstop) fun _ => Kept.refl s
  · exact Kept.ite (fun _ => (setStopCause_kept _ s).trans (logNow_kept _ _ _ _)) fun _ => Kept.refl s
  · exact Kept.ite (fun _ => setStopCause_kept _ s) fun _ => Kept.refl s
  · exact Kept.refl s

theorem shutdownReaction_kept (k : FaultKind) (b : Bool) (s : State) : Kept s (shutdownReaction k b s) := by
  unfold shutdownReaction
  have h : Kept s (if b = true then shutdown k s else s) := Kept.ite (fun _ => shutdown_kept k s) fun _ => Kept.refl s
  cases s.dsv.state <;> first | exact Kept.refl s | exact h

theorem dsvOnRaise_kept (k : FaultKind) (b : Bool) (s : State) : Kept s (dsvOnRaise k b s) := by
  unfold dsvOnRaise
  refine Kept.trans ?_ (dsvSettle_kept _)
  cases k.reactionClass
  · exact Kept.refl s
  · exact Kept.refl s
  · exact Kept.refl s
  · exact safeStopReaction_kept k b s
  · exact shutdownReaction_kept k b s

theorem raiseFault_kept (k : FaultKind) (s : State) : Kept s (raiseFault k s) :=
  ((setRecord_kept k _ s).trans (notifyFaults_kept _)).trans (dsvOnRaise_kept k _ _)

theorem clearFault_kept (k : FaultKind) (s : State) : Kept s (clearFault k s) := by
  unfold clearFault
  exact Kept.ite (fun _ => ((setRecord_kept k _ s).trans (notifyFaults_kept _)).trans (dsvSettle_kept _)) fun _ => Kept.refl s

theorem momentaryFault_kept (k : FaultKind) (s : State) : Kept s (momentaryFault k s) :=
  (setRecord_kept k _ s).trans (notifyFaults_kept _)

theorem acknowledgeFaults_kept (s : State) : Kept s (acknowledgeFaults s) := by
  unfold acknowledgeFaults
  refine Kept.ite (fun _ => Kept.trans ?_ (notifyFaults_kept _)) fun _ => Kept.refl s
  exact Kept.of_same rfl rfl rfl rfl rfl rfl rfl rfl rfl rfl rfl

theorem dsvKey_kept (s : State) : Kept s (dsvKey s) := by
  unfold dsvKey
  refine Kept.trans (Kept.ite (fun _ => Kept.refl s) fun _ => ?_) (dsvSettle_kept _)
  cases s.dsv.state
  · exact Kept.refl s
  · exact abortPrecharge_kept s
  · exact (setStopCause_kept _ s).trans (enterPowerDown_kept _)
  · exact (setStopCause_kept _ s).trans (enterSafeStop_kept _)
  · exact (setStopCause_kept _ s).trans (enterSafeStop_kept _)
  · exact Kept.refl s
  · exact Kept.refl s
  · exact Kept.ite (fun _ => enterStandby_kept s) fun _ => Kept.refl s

theorem voltageTest_kept (s : State) : Kept s (voltageTest s) := by
  unfold voltageTest
  exact Kept.ite (fun _ => withDsv_kept rfl rfl rfl rfl) fun _ => Kept.refl s

theorem completePowerDown_kept (s : State) : Kept s (completePowerDown s) := by
  unfold completePowerDown
  refine (dsvSettle_kept _).after ?_
  refine Kept.trans ((openPos_kept s).trans
    (withDsv_kept (d := { (openPos s).dsv with negClosed := false, powerDownTimer := none }) rfl rfl rfl rfl)) ?_
  split
  · exact (logNow_kept _ _ _ _).trans (setDrivelineState_kept _ _)
  · exact enterStandby_kept _
  · exact enterStandby_kept _

end Sys2Proof.Machine
end

