-- ==== Sys2Proof/Laws/Events.lean ====
section
/-! SUPPORT. What each event of the part keeps, by the lemmas of its shared operations. -/

namespace Sys2Proof.Machine

/-- SNS's records changed. -/
theorem withSns_kept (n : Sns) (s : State) : Kept s (s.withSns n) :=
  Kept.of_same rfl rfl rfl rfl rfl rfl rfl rfl rfl rfl rfl

/-- ENA's records changed. -/
theorem withEna_kept (e : Ena) (s : State) : Kept s (s.withEna e) :=
  Kept.of_same rfl rfl rfl rfl rfl rfl rfl rfl rfl rfl rfl

/-- SPL's records changed. -/
theorem withSpl_kept (p : Spl) (s : State) : Kept s (s.withSpl p) :=
  Kept.of_same rfl rfl rfl rfl rfl rfl rfl rfl rfl rfl rfl

/-- CPL's records changed. -/
theorem withCpl_kept (c : Cpl) (s : State) : Kept s (s.withCpl c) :=
  Kept.of_same rfl rfl rfl rfl rfl rfl rfl rfl rfl rfl rfl

/-- BBL's records changed. -/
theorem withBbl_kept (b : Bbl) (s : State) : Kept s (s.withBbl b) :=
  Kept.of_same rfl rfl rfl rfl rfl rfl rfl rfl rfl rfl rfl

/-- A message handed to its link. -/
theorem send_kept (m : FieldMessage) (s : State) : Kept s (send m s) :=
  Kept.of_same rfl rfl rfl rfl rfl rfl rfl rfl rfl rfl rfl

theorem whileRunning_kept {f : State → State} (h : ∀ s, Kept s (f s)) (s : State) : Kept s (whileRunning f s) :=
  Kept.ite (fun _ => h s) fun _ => Kept.refl s

/-! ## DSV's timers -/

theorem prechargeExpiry_kept (s : State) : Kept s (prechargeExpiry s) := by
  unfold prechargeExpiry
  refine Kept.ite (fun _ => ?_) fun _ => Kept.refl s
  refine (dsvSettle_kept _).after ((enterStandby_kept _).after ?_)
  refine Kept.trans ?_ (withDsv_kept rfl rfl rfl rfl)
  refine (logNow_kept _ _ _ _).after ((momentaryFault_kept _ _).after ((openAll_kept _).after ?_))
  exact withDsv_kept rfl rfl rfl rfl

theorem settleExpiry_kept (s : State) : Kept s (settleExpiry s) :=
  Kept.ite (fun _ => (dsvSettle_kept _).after ((setDrivelineState_kept _ _).after (withDsv_kept rfl rfl rfl rfl)))
    fun _ => Kept.refl s

theorem cooldownExpiry_kept (s : State) : Kept s (cooldownExpiry s) :=
  Kept.ite (fun _ => (dsvSettle_kept _).after (withDsv_kept rfl rfl rfl rfl)) fun _ => Kept.refl s

theorem powerDownExpiry_kept (s : State) : Kept s (powerDownExpiry s) :=
  Kept.ite (fun _ => (completePowerDown_kept _).after (withDsv_kept rfl rfl rfl rfl)) fun _ => Kept.refl s

theorem safeStopExpiry_kept (s : State) : Kept s (safeStopExpiry s) :=
  Kept.ite (fun _ => (dsvSettle_kept _).after ((enterPowerDown_kept _).after (withDsv_kept rfl rfl rfl rfl)))
    fun _ => Kept.refl s

theorem dsvSecond_kept (s : State) : Kept s (dsvSecond s) :=
  Kept.ite (fun _ => Kept.refl s) fun _ => withDsv_kept rfl rfl rfl rfl

/-! ## SNS -/

theorem linkArrival_kept (i : LinkId) (s : State) : Kept s (linkArrival i s) :=
  Kept.ite (fun _ => (withSns_kept _ s).trans (clearFault_kept _ _)) fun _ => withSns_kept _ s

theorem monitorExpiry_kept (i : LinkId) (s : State) : Kept s (monitorExpiry i s) := by
  unfold monitorExpiry
  refine Kept.ite (fun _ => (raiseFault_kept _ _).after ?_) fun _ => Kept.refl s
  cases i <;> exact Kept.of_same rfl rfl rfl rfl rfl rfl rfl rfl rfl rfl rfl

theorem noteInverterArrival_kept (s : State) : Kept s (noteInverterArrival s) :=
  Kept.ite (fun _ => withDsv_kept rfl rfl rfl rfl) fun _ => Kept.refl s

theorem inverterArrival_kept (a b c d : Int) (s : State) : Kept s (inverterArrival a b c d s) := by
  unfold inverterArrival
  refine (dsvSettle_kept _).after ((voltageTest_kept _).after ?_)
  refine Kept.trans ?_ (withSns_kept _ _)
  exact Kept.trans ((linkArrival_kept .drive _).after (noteInverterArrival_kept s)) (withSns_kept _ _)

theorem engineArrival_kept (a b : Int) (r : Bool) (s : State) : Kept s (engineArrival a b r s) :=
  (linkArrival_kept .engine s).trans (withSns_kept _ _)

theorem brakeArrival_kept (a b : Bool) (s : State) : Kept s (brakeArrival a b s) :=
  (linkArrival_kept .brake s).trans (withSns_kept _ _)

theorem sensorTest_kept (w : Fin 6) (s : State) : Kept s (sensorTest w s) :=
  Kept.ite (fun _ => (withSns_kept _ s).trans (raiseFault_kept _ _)) fun _ => Kept.refl s

theorem sensorTests_kept (ws : List (Fin 6)) (s : State) : Kept s (sensorTests ws s) := by
  induction ws generalizing s with
  | nil => exact Kept.refl s
  | cons w ws ih => exact (sensorTest_kept w s).trans (ih _)

theorem updateWheel_kept (w : Fin 6) (x : Wheel) (s : State) : Kept s (updateWheel w x s) :=
  Kept.ite (fun _ => withSns_kept _ s) fun _ => (withSns_kept _ s).trans (sensorTests_kept _ _)

theorem edge_kept (w : Fin 6) (c : Word) (s : State) : Kept s (edge w c s) :=
  Kept.ite (fun _ => (updateWheel_kept w _ s).trans (clearFault_kept _ _)) fun _ => updateWheel_kept w _ s

theorem timerWrap_kept (w : Fin 6) (s : State) : Kept s (timerWrap w s) := updateWheel_kept w _ s

theorem silenceExpiry_kept (w : Fin 6) (s : State) : Kept s (silenceExpiry w s) :=
  Kept.ite (fun _ => Kept.refl s) fun _ => (withSns_kept _ s).trans (sensorTest_kept w _)

/-! ## ENA -/

theorem addThroughput_kept (n : Nat) (s : State) : Kept s (addThroughput n s) :=
  Kept.ite
    (fun _ => Kept.ite (fun _ => (wearIncrement_kept _ _ _).after (withEna_kept _ s)) fun _ => withEna_kept _ s) fun _ =>
    Kept.ite
      (fun _ => Kept.ite (fun _ => (wearIncrement_kept _ _ _).after (withEna_kept _ s)) fun _ => withEna_kept _ s)
      fun _ => Kept.refl s

theorem accountSample_kept (k : SampleKind) (s : State) : Kept s (accountSample k s) := by
  cases k
  · exact withEna_kept _ s
  · exact Kept.refl s
  · exact ((withEna_kept _ s).trans (addThroughput_kept _ _)).trans (withEna_kept _ _)

theorem overtempTest_kept (s : State) : Kept s (overtempTest s) :=
  Kept.ite (fun _ => Kept.ite (fun _ => Kept.refl s) fun _ => raiseFault_kept _ s) fun _ =>
    Kept.ite (fun _ => clearFault_kept _ s) fun _ => Kept.refl s

theorem enaSample_kept (k : SampleKind) (c : Byte) (s : State) : Kept s (enaSample k c s) := by
  unfold enaSample
  refine Kept.trans ?_ (withEna_kept _ _)
  refine Kept.trans ?_ (withEna_kept _ _)
  exact (overtempTest_kept _).after (((withEna_kept _ s).trans (accountSample_kept k _)).trans (withEna_kept _ _))

theorem powerDownTest_kept (b : Bool) (s : State) : Kept s (powerDownTest b s) :=
  Kept.ite (fun _ => completePowerDown_kept s) fun _ => Kept.refl s

theorem packArrival_kept (c : Byte) (i v lo hi : Int) (n : Nat) (s : State) : Kept s (packArrival c i v lo hi n s) := by
  unfold packArrival
  have h : Kept s (takePackFields c i v lo hi (linkArrival .pack s)) :=
    (linkArrival_kept .pack s).trans (withSns_kept _ _)
  dsimp only
  split
  · exact (dsvSettle_kept _).after ((voltageTest_kept _).after h)
  · exact (dsvSettle_kept _).after ((powerDownTest_kept _ _).after ((voltageTest_kept _).after ((enaSample_kept _ _ _).after h)))
  · exact (dsvSettle_kept _).after ((powerDownTest_kept _ _).after ((voltageTest_kept _).after ((enaSample_kept _ _ _).after h)))

theorem enaSecond_kept (s : State) : Kept s (enaSecond s) :=
  Kept.ite (fun _ => (withEna_kept _ s).trans (wearIncrement_kept _ _ _)) fun _ => withEna_kept _ s

/-! ## SPL, TQA, CPL, BBL -/

theorem ageTest_kept (s : State) : Kept s (ageTest s) := by
  unfold ageTest
  refine Kept.ite (fun _ => ?_) fun _ => withSpl_kept _ s
  have h : ∀ u : State, Kept u
      (if 5 < u.spl.demandAge ∧ u.faults.isActive .demandStale = false then setCause .demandStale (raiseFault .demandStale u)
      else u) := fun u => Kept.ite (fun _ => (raiseFault_kept _ u).trans (setCause_kept _ _)) fun _ => Kept.refl u
  refine Kept.ite (fun _ => (raiseFault_kept _ _).after ?_) fun _ => ?_ <;> exact (withSpl_kept _ s).trans (h _)

theorem splitFrame_kept (s : State) : Kept s (splitFrame s) := (ageTest_kept s).trans (withSpl_kept _ _)

theorem issueTorque_kept (q : Tqa) (s : State) : Kept s (issueTorque q s) :=
  Kept.of_same rfl rfl rfl rfl rfl rfl rfl rfl rfl rfl rfl

theorem countSlip_kept (s : State) : Kept s (countSlip s) :=
  Kept.ite (fun _ => (withCpl_kept _ s).trans (wearIncrements_kept _ _ _)) fun _ => Kept.refl s

theorem stallTest_kept (s : State) : Kept s (stallTest s) :=
  Kept.ite (fun _ => (logNow_kept _ _ _ _).after ((momentaryFault_kept _ _).after (withCpl_kept _ s))) fun _ => Kept.refl s

theorem stepSyncing_kept (s : State) : Kept s (stepSyncing s) :=
  Kept.ite (fun _ => withCpl_kept _ s) fun _ => Kept.ite (fun _ => withCpl_kept _ s) fun _ =>
    Kept.ite (fun _ => (logNow_kept _ _ _ _).after ((momentaryFault_kept _ _).after (withCpl_kept _ s))) fun _ =>
      withCpl_kept _ s

theorem stepClosing_kept (s : State) : Kept s (stepClosing s) :=
  Kept.ite (fun _ => withCpl_kept _ s) fun _ => Kept.ite (fun _ => withCpl_kept _ s) fun _ => withCpl_kept _ s

theorem moveCoupling_kept (s : State) : Kept s (moveCoupling s) := by
  unfold moveCoupling
  cases s.cpl.coupling
  · exact Kept.ite (fun _ => withCpl_kept _ s) fun _ => Kept.refl s
  · exact stepSyncing_kept s
  · exact stepClosing_kept s
  · exact Kept.ite (fun _ => withCpl_kept _ s) fun _ => Kept.refl s
  · exact withCpl_kept _ s

theorem stepOff_kept (s : State) : Kept s (stepOff s) :=
  Kept.ite (fun _ => (withCpl_kept _ s).trans (wearIncrement_kept _ _ _)) fun _ => Kept.refl s

theorem stepCranking_kept (s : State) : Kept s (stepCranking s) :=
  Kept.ite (fun _ => withCpl_kept _ s) fun _ => Kept.ite (fun _ => withCpl_kept _ s) fun _ =>
    Kept.ite
      (fun _ => Kept.ite (fun _ => withCpl_kept _ s) fun _ =>
        (logNow_kept _ _ _ _).after ((raiseFault_kept _ _).after (withCpl_kept _ s)))
      fun _ => withCpl_kept _ s

theorem stepStopping_kept (s : State) : Kept s (stepStopping s) :=
  Kept.ite (fun _ => withCpl_kept _ s) fun _ => withCpl_kept _ s

theorem moveEngine_kept (s : State) : Kept s (moveEngine s) := by
  unfold moveEngine
  cases s.cpl.engine
  · exact stepOff_kept s
  · exact stepCranking_kept s
  · exact Kept.ite (fun _ => withCpl_kept _ s) fun _ => Kept.refl s
  · exact stepStopping_kept s
  · exact Kept.refl s

theorem askClutchReport_kept (c : Cpl) (s : State) : Kept s (askClutchReport c s) :=
  Kept.ite (fun _ => requestReport_kept 6 s) fun _ => Kept.refl s

theorem cplFrameWant_kept (s : State) : Kept s (cplFrameWant s) := by
  unfold cplFrameWant
  refine Kept.trans ?_ (withCpl_kept _ _)
  refine Kept.trans ?_ (withCpl_kept _ _)
  exact (stallTest_kept _).after ((countSlip_kept _).after (withCpl_kept _ s))

theorem sendEngineRequest_kept (s : State) : Kept s (sendEngineRequest s) := (withCpl_kept _ s).trans (send_kept _ _)

theorem cplFrame_kept (s : State) : Kept s (cplFrame s) := by
  unfold cplFrame
  refine (askClutchReport_kept _ _).after ((sendEngineRequest_kept _).after ?_)
  exact (moveEngine_kept _).after ((moveCoupling_kept _).after (cplFrameWant_kept s))

theorem cplSecond_kept (s : State) : Kept s (cplSecond s) := Kept.ite (fun _ => withCpl_kept _ s) fun _ => Kept.refl s

theorem cplKeyOff_kept (s : State) : Kept s (cplKeyOff s) := by
  unfold cplKeyOff
  refine (askClutchReport_kept _ _).after ?_
  exact Kept.ite (fun _ => (clearFault_kept _ _).after ((withCpl_kept _ s).trans (withCpl_kept _ _))) fun _ => withCpl_kept _ s

theorem countFriction_kept (s : State) : Kept s (countFriction s) := by
  unfold countFriction
  refine Kept.ite (fun _ => ?_) fun _ => Kept.refl s
  refine Kept.trans (t := countFriction2 _ (countFriction1 _ s)) ?_ ((withBbl_kept _ _).trans (wearIncrements_kept _ _ _))
  refine Kept.trans (t := countFriction1 _ s) ?_ ((withBbl_kept _ _).trans (wearIncrements_kept _ _ _))
  exact (withBbl_kept _ _).trans (wearIncrements_kept _ _ _)

theorem slipEntry_kept (s : State) : Kept s (slipEntry s) :=
  Kept.ite (fun _ => (wearIncrement_kept _ _ _).after ((logNow_kept _ _ _ _).after (withBbl_kept _ s))) fun _ =>
    Kept.ite (fun _ => withBbl_kept _ s) fun _ => withBbl_kept _ s

theorem superviseSlip_kept (s : State) : Kept s (superviseSlip s) :=
  Kept.ite (fun _ => (withBbl_kept _ s).trans (withBbl_kept _ _)) fun _ => (withBbl_kept _ s).trans (slipEntry_kept _)

theorem blendFrame_kept (s : State) : Kept s (blendFrame s) := by
  unfold blendFrame
  refine Kept.trans ?_ (withBbl_kept _ _)
  exact (superviseSlip_kept _).after ((countFriction_kept s).trans (withBbl_kept _ _))

theorem outputStep_kept (b : Bool) (s : State) : Kept s (outputStep b s) := by
  cases b
  · exact issueTorque_kept _ s
  · exact (issueTorque_kept _ _).after (blendFrame_kept s)

end Sys2Proof.Machine
end

