-- ==== Sys2Proof/Laws/Reports.lean ====
section
/-! SUPPORT. Payloads, log entries and the status block are the words of the layout tables, the detail cursor moves as R162
says, and v_ref, v3, the other fast axle and a candidate are what R34, R35 and R177 say. -/

namespace Sys2Proof.Machine

/-! ## Codes -/

theorem driveline_code (x : DrivelineState) : natWord x.code = codeField drivelineStates x := by cases x <;> rfl

theorem splitMode_code (x : SplitMode) : natWord x.code = codeField [.electric, .hybrid] x := by cases x <;> rfl

theorem stepMode_code (x : StepMode) : natWord x.code = codeField [.disabled, .propulsion, .recovery, .slipRelease] x := by
  cases x <;> rfl

theorem engine_code (x : EngineState) : natWord x.code = codeField engineStates x := by cases x <;> rfl

theorem coupling_code (x : CouplingState) : natWord x.code = codeField couplingStates x := by cases x <;> rfl

theorem engineMode_code (x : EngineMode) : natWord x.code = codeField [.start, .stop, .idle, .speed, .torque] x := by
  cases x <;> rfl

theorem class_code (x : ReactionClass) : natWord x.rank = codeField [.info, .derate, .limp, .safeStop, .shutdown] x := by
  cases x <;> rfl

theorem class_rank (x : ReactionClass) : x.rank = [ReactionClass.info, .derate, .limp, .safeStop, .shutdown].idxOf x := by
  cases x <;> rfl

theorem outcome_code (x : OutcomeCode) : x.code = outcomeCodes.idxOf x := by cases x <;> rfl

theorem level_word (r : WearRecord) :
    levelWord r = byteFields ([WarnLevel.none, .advise, .urgent].idxOf r.warned) (if r.thresholdsSet then 1 else 0) := by
  cases r with
  | mk _ _ _ warned _ _ _ => cases warned <;> rfl

/-! ## Bits of packed words -/

/-- Bit i of a word with one flag at bit n. -/
theorem bitAt_bit (b : Bool) (n i : Nat) (h : n < 16) : (bitAt b n).getLsbD i = (b && decide (i = n)) := by
  cases b
  · simp [bitAt]
  · have hs : (bitAt true n).getLsbD i = ((BitVec.ofNat 16 1) <<< n).getLsbD i := rfl
    rw [hs, BitVec.getLsbD_shiftLeft]
    by_cases hi : i < 16
    · have hall : ∀ n i : Fin 16,
          (decide (i.val < 16) && !decide (i.val < n.val) && (BitVec.ofNat 16 1).getLsbD (i.val - n.val)) =
            (true && decide (i.val = n.val)) := by decide
      exact hall ⟨n, h⟩ ⟨i, hi⟩
    · have hn : ¬i = n := by omega
      simp [hi, hn]

/-- The bits of the first link states word (section 11.4). -/
theorem linkStates_bits (n : Sns) (i : Nat) :
    (linkStatesWord n).getLsbD i =
      [n.driveLink.up, n.driveLink.seen, n.engineLink.up, n.engineLink.seen, n.brakeLink.up, n.brakeLink.seen,
        n.packLink.up, n.packLink.seen, n.brakeAvailable, n.absActive].getD i false := by
  simp only [linkStatesWord, linkBits, BitVec.getLsbD_or]
  repeat rw [bitAt_bit _ _ _ (by decide)]
  match i with
  | 0 | 1 | 2 | 3 | 4 | 5 | 6 | 7 | 8 | 9 => simp
  | i + 10 => simp

/-- The bits of the second link states word (section 11.4). -/
theorem wheelStates_bits (n : Sns) (i : Nat) :
    (wheelStatesWord n).getLsbD i =
      [(n.wheel 0).valid, (n.wheel 1).valid, (n.wheel 2).valid, (n.wheel 3).valid, (n.wheel 4).valid, (n.wheel 5).valid,
        false, false, (n.wheel 0).sensorFault, (n.wheel 1).sensorFault, (n.wheel 2).sensorFault, (n.wheel 3).sensorFault,
        (n.wheel 4).sensorFault, (n.wheel 5).sensorFault].getD i false := by
  simp only [wheelStatesWord, wheelBits, BitVec.getLsbD_or]
  repeat rw [bitAt_bit _ _ _ (by decide)]
  match i with
  | 0 | 1 | 2 | 3 | 4 | 5 | 6 | 7 | 8 | 9 | 10 | 11 | 12 | 13 => simp
  | i + 14 => simp

/-- The bits of a set of kinds: those of the kinds that hold (R183). -/
theorem kindSet_bit (f : FaultKind → Bool) (i : Nat) :
    (kindSet f).getLsbD i = FaultKind.all.any fun k => f k && decide (i = k.number.val) := by
  have h : ∀ (ks : List FaultKind) (w : Word),
      (ks.foldl (fun w k => if f k then w ||| ((1 <<< k.number.val : Nat) : Word) else w) w).getLsbD i =
        (w.getLsbD i || ks.any fun k => f k && decide (i = k.number.val)) := by
    intro ks
    induction ks with
    | nil => simp
    | cons k ks ih =>
      intro w
      rw [List.foldl_cons, ih, List.any_cons]
      by_cases hf : f k
      · have hb : ((1 <<< k.number.val : Nat) : Word).getLsbD i = (true && decide (i = k.number.val)) :=
          bitAt_bit true k.number.val i (by omega)
        rw [if_pos hf, BitVec.getLsbD_or, hb, hf, Bool.or_assoc]
      · simp [hf]
  have hk := h FaultKind.all 0
  rwa [show (0 : Word).getLsbD i = false by simp, Bool.false_or] at hk

/-- The bit of a kind in a set of kinds (R183). -/
theorem kindSet_kind (f : FaultKind → Bool) (k : FaultKind) : (kindSet f).getLsbD k.number.val = f k := by
  rw [kindSet_bit]
  cases k <;> simp [FaultKind.all, FaultKind.number]

/-- A set of kinds has no bit beyond the fourteen kinds (R185). -/
theorem kindSet_high (f : FaultKind → Bool) (i : Nat) (hi : 14 ≤ i) : (kindSet f).getLsbD i = false := by
  rw [kindSet_bit, List.any_eq_false]
  intro k _
  have hk : ¬i = k.number.val := by omega
  simp [hk]

/-! ## Payloads -/

theorem driveState_words (s : State) : ReportWords .driveState s s.faults.cursor (driveStateWords s) := by
  unfold ReportWords driveStateWords
  rw [driveline_code, splitMode_code, stepMode_code, coupling_code, engine_code, class_code]
  cases s.dsv.stopCause with
  | none => rfl
  | keyOff => rfl
  | fault k => cases k <;> rfl

theorem brakeState_words (s : State) : ReportWords .brakeState s s.faults.cursor (brakeStateWords s) := by
  unfold ReportWords brakeStateWords
  cases s.bbl.slipFormed <;> cases s.bbl.ramp <;> rfl

theorem wear_words (s : State) : ReportWords .wear s s.faults.cursor (wearWords s) := by
  unfold ReportWords wearWords
  simp only [← level_word]
  rfl

theorem faults_words (s : State) (q : Fin 28) :
    ReportWords .faults s q (faultsWords { s.faults with cursor := q }) := by
  refine ⟨kindSet s.faults.isActive, kindSet fun k => decide ((s.faults.record k).state = .latched), ?_, ?_, ?_⟩
  · have hl : ∀ (l r : List Word) (o : Option Nat), l = r →
        (l ++ match o with
          | none => absentWide
          | some x => wideWords x) =
          r ++ match o with
          | some seconds => wideField seconds
          | none => [0xFFFF, 0xFFFF] := by
      intro l r o h
      subst h
      cases o <;> rfl
    rw [← class_rank]
    exact hl _ _ (FaultTable.detailStamp { s.faults with cursor := q }) rfl
  · intro k
    rw [kindSet_kind, kindSet_kind]
    exact ⟨rfl, rfl⟩
  · intro i hi
    exact ⟨kindSet_high _ i hi, kindSet_high _ i hi⟩

theorem orderResult_words (s : State) : ReportWords .orderResult s s.faults.cursor (orderResultWords s.exc) := by
  unfold ReportWords
  simp only [← outcome_code]
  rfl

theorem engineClutch_words (s : State) : ReportWords .engineClutch s s.faults.cursor (engineClutchWords s) := by
  unfold ReportWords engineClutchWords
  rw [coupling_code, engine_code, engineMode_code]
  cases s.cpl.coupling <;> cases s.cpl.sync <;> rfl

theorem sensing_words (s : State) : ReportWords .sensing s s.faults.cursor (sensingWords s.sns) := by
  refine ⟨linkStatesWord s.sns, wheelStatesWord s.sns, ?_, linkStates_bits s.sns, wheelStates_bits s.sns⟩
  have h : ∀ u, (if (s.sns.wheel u).valid then unsignedField (s.sns.wheel u).speed else 0) = wheelWord s.sns u := by
    intro u
    unfold wheelWord
    cases (s.sns.wheel u).valid <;> rfl
  simp only [h]
  unfold sensingWords
  cases s.sns.vRef.valid <;> cases s.sns.v3.valid <;> rfl

/-- Every payload is the words of its channel's layout table, FAULTS with the cursor moved (R161, R162, R178). -/
theorem payload_words (c : ReportChannel) (s : State) :
    ReportWords c s (moveCursor c s).faults.cursor (c.payload (moveCursor c s)) := by
  cases c
  case driveState => exact driveState_words s
  case brakeState => exact brakeState_words s
  case energy => rfl
  case wear => exact wear_words s
  case faults => exact faults_words s (cursorWalk s.faults 28 s.faults.cursor)
  case orderResult => exact orderResult_words s
  case engineClutch => exact engineClutch_words s
  case sensing => exact sensing_words s

/-! ## The detail cursor -/

/-- The cursor's walk of at most n steps that meets a counted pair stops at the first (R162). -/
theorem cursorWalk_first (t : FaultTable) (n : Nat) (p : Fin 28)
    (h : ∃ m : Nat, m < n ∧ 0 < (t.records.get ⟨(p + Fin.ofNat 28 m + 1).val / 2, by omega⟩).count) :
    ∃ m : Nat, m < n ∧ cursorWalk t n p = p + Fin.ofNat 28 m + 1 ∧
      0 < (t.records.get ⟨(cursorWalk t n p).val / 2, by omega⟩).count ∧
      ∀ k : Nat, k < m → ¬0 < (t.records.get ⟨(p + Fin.ofNat 28 k + 1).val / 2, by omega⟩).count := by
  induction n generalizing p with
  | zero => obtain ⟨m, hm, _⟩ := h; omega
  | succ n ih =>
    have h0 : ∀ p : Fin 28, p + Fin.ofNat 28 0 + 1 = p + 1 := by decide
    have hs : ∀ (p : Fin 28) (m : Nat), p + 1 + Fin.ofNat 28 m + 1 = p + Fin.ofNat 28 (m + 1) + 1 := by
      intro p m
      ext
      simp [Fin.val_add]
      omega
    by_cases hq : 0 < (t.records.get ⟨(p + 1).val / 2, by omega⟩).count
    · have hw : cursorWalk t (n + 1) p = p + 1 := if_pos hq
      exact ⟨0, by omega, by rw [hw, h0], by simpa only [hw] using hq, by omega⟩
    · have hw : cursorWalk t (n + 1) p = cursorWalk t n (p + 1) := if_neg hq
      obtain ⟨m, hm, hc⟩ := h
      cases m with
      | zero => simp only [h0] at hc; exact absurd hc hq
      | succ m =>
        obtain ⟨k, hk, h1, h2, h3⟩ := ih (p + 1) ⟨m, by omega, by simpa only [hs] using hc⟩
        refine ⟨k + 1, by omega, by rw [hw, h1, hs], by simpa only [hw] using h2, ?_⟩
        intro j hj
        cases j with
        | zero => simpa only [h0] using hq
        | succ j => simpa only [← hs] using h3 j (by omega)

/-- The move of the detail cursor is R162's. -/
theorem cursor_follows (c : ReportChannel) (s : State) : CursorFollows c s (moveCursor c s) := by
  cases c
  case faults =>
    refine ⟨rfl, fun h => absurd rfl h, fun _ p hp => ?_⟩
    have hreach : ∀ q p : Fin 28, q + Fin.ofNat 28 ((p.val + 27 - q.val) % 28) + 1 = p := by decide
    obtain ⟨m, hm, h1, h2, h3⟩ := cursorWalk_first s.faults 28 s.faults.cursor
      ⟨(p.val + 27 - s.faults.cursor.val) % 28, by omega, by simpa only [hreach] using hp⟩
    have hf : ∀ (k : Nat) (hk : k < 28), Fin.ofNat 28 k = ⟨k, hk⟩ := by
      intro k hk
      ext
      simp
      omega
    refine ⟨h2, ⟨m, hm⟩, by rw [← hf m hm]; exact h1, ?_⟩
    intro k hk
    have hn := h3 k.val hk
    simpa only [hf k.val k.isLt] using hn
  all_goals exact ⟨rfl, fun _ => rfl, fun h => nomatch h⟩

/-! ## Log entries and the status block -/

/-- The words of a log entry are its layout's (R143, section 11.2). -/
theorem entry_words (e : LogEntry) (sequence : Word) : EntryWords e sequence (e.words sequence) := by
  refine ⟨match e.value with
    | some v => wideIntWords v
    | none => absentWide, match e.threshold with
    | some t => wideWords t
    | none => absentWide, ?_, ?_, ?_, ?_, ?_⟩
  · have hk : ∀ x : Severity, natWord x.code = codeField [.note, .advise, .urgent] x := by intro x; cases x <;> rfl
    have hc : ∀ c : Counter, natWord c.val = BitVec.ofNat 16 c.val := by decide
    unfold LogEntry.words
    rw [hk]
    cases e.source with
    | none => simp only [List.append_assoc]; rfl
    | some c => simp only [List.append_assoc, hc]; rfl
  · intro v h
    rw [h]
    exact if_neg (by omega)
  · intro h
    rw [h]
    rfl
  · intro x h
    rw [h]
    rfl
  · intro h
    rw [h]
    rfl

/-- The words of the status block: its twelve items, and 0 (section 11.2). -/
theorem status_words (s : State) : statusWords s = statusItems s ++ List.replicate 52 0 := by
  have hr : ∀ x : ResetCause, natWord x.code = codeField [.keepPowerUp, .mainPowerUp, .pin] x := by
    intro x; cases x <;> rfl
  unfold statusWords statusItems
  rw [driveline_code, hr]
  rfl

/-! ## Axle speeds -/

/-- R35's test of another axle. -/
theorem otherAxleFast_eq (n : Sns) (u : Fin 6) : n.otherAxleFast u = fastBeside n u := by
  match u with
  | 0 | 1 | 2 | 3 | 4 | 5 => simp [fastBeside, Sns.otherAxleFast, Sns.axleFast, Sns.axleFast.fast]

/-- The recomputed v_ref and v3 are R34's. -/
theorem axleSpeeds_follow (n : Sns) (h : n.vRef = vRefOf (n.wheel 0) (n.wheel 1))
    (h3 : n.v3 = v3Of (n.wheel 4) (n.wheel 5)) : AxleSpeedsFollow n := by
  unfold AxleSpeedsFollow
  rw [h, h3]
  unfold vRefOf v3Of
  cases h0 : (n.wheel 0).valid <;> cases h1 : (n.wheel 1).valid <;> cases h4 : (n.wheel 4).valid <;>
    cases h5 : (n.wheel 5).valid <;> simp [h0, h1, h4, h5]

/-! ## The internal channel table and candidates -/

/-- The internal channel table names a cell (R168, R170). -/
theorem names_iff (s : State) (k : CellIndex) :
    s.exc.names k = false ↔ (∀ d : OrderChannel, (s.orderRow d).current ≠ some k) ∧
      ∀ i : Fin 8, (s.reportRow i).published ≠ some k ∧ (s.reportRow i).held ≠ some k := by
  have hn : ∀ i : Fin 8, ∃ d : OrderChannel, d.number = i := by
    intro i
    match i with
    | 0 => exact ⟨.demand, rfl⟩
    | 1 => exact ⟨.mode, rfl⟩
    | 2 => exact ⟨.limits, rfl⟩
    | 3 => exact ⟨.acceptance, rfl⟩
    | 4 => exact ⟨.engineMap, rfl⟩
    | 5 => exact ⟨.wearSet, rfl⟩
    | 6 => exact ⟨.compensation, rfl⟩
    | 7 => exact ⟨.logFilter, rfl⟩
  unfold Exc.names
  rw [Bool.or_eq_false_iff, List.any_eq_false, List.any_eq_false]
  constructor
  · rintro ⟨ho, hr⟩
    refine ⟨fun d => ?_, fun i => ?_⟩
    · have := ho (s.orderRow d) (by unfold State.orderRow; rw [Vector.get_eq_getElem]; simp)
      simpa using this
    · have := hr (s.reportRow i) (by unfold State.reportRow; rw [Vector.get_eq_getElem]; simp)
      simpa using this
  · rintro ⟨ho, hr⟩
    refine ⟨fun r hm => ?_, fun r hm => ?_⟩
    · obtain ⟨i, hi, rfl⟩ := List.getElem_of_mem hm
      obtain ⟨d, hd⟩ := hn ⟨i, by simpa using hi⟩
      have := ho d
      unfold State.orderRow at this
      rw [hd, Vector.get_eq_getElem] at this
      simpa using this
    · obtain ⟨i, hi, rfl⟩ := List.getElem_of_mem hm
      have := hr ⟨i, by simpa using hi⟩
      unfold State.reportRow at this
      rw [Vector.get_eq_getElem] at this
      simpa using this

/-- The candidates of a channel are R177's. -/
theorem candidate_iff (c : ReportChannel) (s : State) (k : CellIndex) :
    candidate c s.port s.exc k = true ↔ Candidate c s k := by
  have hc : ∀ w : Word, w.toNat = c.number ↔ w = BitVec.ofNat 16 c.number := by
    intro w
    have h : c.number < 65536 := by cases c <;> decide
    rw [← BitVec.toNat_inj, BitVec.toNat_ofNat, Nat.mod_eq_of_lt h]
  have hh : holdNames s.port c.row k = false ↔ s.port.wordAt (dirAddr c.number 1) ≠ indexWord (some k) :=
    decide_eq_false_iff_not
  simp only [candidate, Candidate, Bool.and_eq_true, decide_eq_true_iff, Bool.not_eq_true', names_iff, hc, hh, and_assoc]

end Sys2Proof.Machine
end

