-- ==== Sys2Proof/Laws/Takes.lean ====
section
/-! SUPPORT. The words the vehicle controller writes, and one lemma that says what every accepted order keeps. -/

namespace Sys2Proof.Machine

/-! ## The words the vehicle controller writes -/

@[simp] theorem vcWrites_nil (s : State) : vcWrites [] s = s := rfl

/-- Written one after the other. -/
theorem vcWrites_cons (w : VcWrite) (ws : List VcWrite) (s : State) : vcWrites (w :: ws) s = vcWrites ws (vcWrites [w] s) := rfl

theorem vcWrites_append (ws xs : List VcWrite) (s : State) : vcWrites (ws ++ xs) s = vcWrites xs (vcWrites ws s) := by
  induction ws generalizing s with
  | nil => rfl
  | cons w ws ih => rw [List.cons_append, vcWrites_cons, vcWrites_cons w ws, ih]

@[simp] theorem lateAt_nil (n : Nat) (m : Moment) : lateAt [] n m = [] := rfl

@[simp] theorem lateAll_nil (n : Nat) (s : State) : lateAll [] n s = s := rfl

theorem vcWrites_memoryInv (ws : List VcWrite) {s : State} (h : MemoryInv s) : MemoryInv (vcWrites ws s) :=
  Port.wf_vcWrites s.port ws h

theorem lateAll_memoryInv (late : List LateWrite) (n : Nat) {s : State} (h : MemoryInv s) : MemoryInv (lateAll late n s) :=
  vcWrites_memoryInv _ (vcWrites_memoryInv _ (vcWrites_memoryInv _ h))

@[simp] theorem Port.vcWrites_attnEn (p : Port) (ws : List VcWrite) : (p.vcWrites ws).attnEn = p.attnEn := by
  induction ws generalizing p with
  | nil => rfl
  | cons w ws ih => rw [Port.vcWrites, ih]; rfl

@[simp] theorem Port.vcWrites_powerUps (p : Port) (ws : List VcWrite) : (p.vcWrites ws).powerUps = p.powerUps := by
  induction ws generalizing p with
  | nil => rfl
  | cons w ws ih => rw [Port.vcWrites, ih]; rfl

/-- A word written whole reads as written (R164). -/
theorem vcWrites_wordAt (w : VcWrite) {s : State} (h : MemoryInv s) :
    (vcWrites [w] s).port.wordAt (2 * w.addr.toNat) = w.value :=
  Port.wordAt_setWord_same s.port w.value (by have := w.addr.isLt; unfold ramBytes; omega) h

/-- A write touches no other byte (R164). -/
theorem vcWrites_byteAt_other (w : VcWrite) (s : State) {a : Nat} (h0 : a ≠ 2 * w.addr.toNat)
    (h1 : a ≠ 2 * w.addr.toNat + 1) : (vcWrites [w] s).port.byteAt a = s.port.byteAt a :=
  Port.byteAt_setWord_other s.port w.value h0 h1

/-! ## What a take keeps -/

/-- What every accepted order leaves of the records its owner does not own: as an event's frame, but that DSV's settings and
the log filter may be what the order replaces. -/
structure TakeKept (s t : State) : Prop where
  memory : MemoryInv s → MemoryInv t
  log : LogInv s → LogInv t
  warned : WarnedInv s → WarnedInv t
  causes : ∀ c : Cause, s.causeSet c = true → t.causeSet c = true
  changes : ∀ i : Fin 8, (s.reportRow i).changePending = true → (t.reportRow i).changePending = true
  supply : LogInv s → t.supply = s.supply
  pending : LogInv s → t.pending = s.pending
  orders : LogInv s → t.exc.orders = s.exc.orders
  frameNumber : LogInv s → t.exc.frameNumber = s.exc.frameNumber
  sweepCount : LogInv s → t.exc.sweepCount = s.exc.sweepCount
  rows : LogInv s → ∀ i : Fin 8, t.reportRow i = { s.reportRow i with changePending := (t.reportRow i).changePending }
  attnEn : LogInv s → t.port.attnEn = s.port.attnEn
  powerUps : LogInv s → t.port.powerUps = s.port.powerUps
  ram : LogInv s → RamOutsideStatusAndLog s t

theorem Kept.take {s t : State} (h : Kept s t) : TakeKept s t where
  memory := h.memory
  log := h.log
  warned := h.warned
  causes := h.causes
  changes := h.changes
  supply l := (h.frame l).1
  pending l := (h.frame l).2.2.2.2.2.2.2.2.2.2.2.2.2.1
  orders l := (h.frame l).2.2.2.2.2.2.2.2.2.1
  frameNumber l := (h.frame l).2.2.2.2.2.2.2.1
  sweepCount l := (h.frame l).2.2.2.2.2.2.2.2.1
  rows l := (h.frame l).2.2.2.2.2.2.2.2.2.2.1
  attnEn l := (h.frame l).2.2.2.2.2.2.2.2.2.2.2.1
  powerUps l := (h.frame l).2.2.2.2.2.2.2.2.2.2.2.2.1
  ram l := (h.frame l).2.2.2.2.2.2.2.2.2.2.2.2.2.2

theorem TakeKept.trans {s t u : State} (h : TakeKept s t) (k : TakeKept t u) : TakeKept s u where
  memory m := k.memory (h.memory m)
  log m := k.log (h.log m)
  warned m := k.warned (h.warned m)
  causes c m := k.causes c (h.causes c m)
  changes i m := k.changes i (h.changes i m)
  supply l := (k.supply (h.log l)).trans (h.supply l)
  pending l := (k.pending (h.log l)).trans (h.pending l)
  orders l := (k.orders (h.log l)).trans (h.orders l)
  frameNumber l := (k.frameNumber (h.log l)).trans (h.frameNumber l)
  sweepCount l := (k.sweepCount (h.log l)).trans (h.sweepCount l)
  rows l i := by rw [k.rows (h.log l) i, h.rows l i]
  attnEn l := (k.attnEn (h.log l)).trans (h.attnEn l)
  powerUps l := (k.powerUps (h.log l)).trans (h.powerUps l)
  ram l a ha hb := (k.ram (h.log l) a ha hb).trans (h.ram l a ha hb)

/-- A replaced image: the log filter or DSV's settings and nothing of the log's ring, the wear monitor, EXC or the RAM. -/
theorem TakeKept.of_image {s t : State} (hport : t.port = s.port) (hexc : t.exc = s.exc) (hwear : t.wear = s.wear)
    (hring : t.log.occupancy = s.log.occupancy ∧ t.log.readPos = s.log.readPos ∧ t.log.writePos = s.log.writePos)
    (hsupply : t.supply = s.supply) (hpending : t.pending = s.pending) : TakeKept s t where
  memory := by unfold MemoryInv; rw [hport]; exact id
  log := by unfold LogInv; rw [hring.1, hring.2.1, hring.2.2]; exact id
  warned := by unfold WarnedInv State.counter; rw [hwear]; exact id
  causes c := by unfold State.causeSet; rw [hport]; exact id
  changes i := by unfold State.reportRow; rw [hexc]; exact id
  supply _ := hsupply
  pending _ := hpending
  orders _ := by rw [hexc]
  frameNumber _ := by rw [hexc]
  sweepCount _ := by rw [hexc]
  rows _ i := by unfold State.reportRow; rw [hexc]
  attnEn _ := by rw [hport]
  powerUps _ := by rw [hport]
  ram _ a _ _ := by rw [hport]

theorem takeDemand_kept (p : List Word) (n : Word) (d : Direction) (s : State) : Kept s (takeDemand p n d s) := by
  unfold takeDemand
  exact (dsvSettle_kept _).after ((clearFault_kept _ _).after ((clearFault_kept _ _).after (withSpl_kept _ s)))

theorem setServiceMode_kept (on : Bool) (s : State) : TakeKept s (setServiceMode on s) := by
  unfold setServiceMode
  split
  · exact (Kept.refl s).take
  · have h : TakeKept s (s.withDsv { s.dsv with serviceMode := on }) :=
      TakeKept.of_image rfl rfl rfl ⟨rfl, rfl, rfl⟩ rfl rfl
    exact h.trans (setStatus_kept (i := 6) (by omega) _ _).take

theorem setModeImage_kept (key : Bool) (perm : Permission) (n : Nat) (on : Bool) (s : State) :
    TakeKept s (setModeImage key perm n on s) := TakeKept.of_image rfl rfl rfl ⟨rfl, rfl, rfl⟩ rfl rfl

theorem TakeKept.ite {p : Prop} [Decidable p] {s t u : State} (h : p → TakeKept s t) (k : ¬ p → TakeKept s u) :
    TakeKept s (if p then t else u) := by
  split
  · exact h ‹_›
  · exact k ‹_›

theorem takeMode_kept (key : Bool) (perm : Permission) (n : Nat) (service ack : Bool) (s : State) :
    TakeKept s (takeMode key perm n service ack s) := by
  have h : TakeKept s (dsvKey (setModeImage key perm (clampTarget s.dsv.limits n) (serviceAfter s service)
      (setServiceMode (serviceAfter s service) s))) :=
    ((setServiceMode_kept _ s).trans (setModeImage_kept _ _ _ _ _)).trans (dsvKey_kept _).take
  have hk := TakeKept.ite (p := key = true) (fun _ => h) fun _ => h.trans (cplKeyOff_kept _).take
  exact TakeKept.ite (p := ack = true) (fun _ => hk.trans (acknowledgeFaults_kept _).take) fun _ => hk

theorem takeLimits_kept (l : Limits) (s : State) : TakeKept s (takeLimits l s) := by
  have h0 : TakeKept s (s.withDsv { s.dsv with limits := l }) := TakeKept.of_image rfl rfl rfl ⟨rfl, rfl, rfl⟩ rfl rfl
  have h1 : ∀ u : State, Kept u (overtempAtTake u) := fun u => Kept.ite (fun _ => overtempTest_kept u) fun _ => Kept.refl u
  have h2 : ∀ u : State, TakeKept u (reclampTarget u) := fun u => TakeKept.of_image rfl rfl rfl ⟨rfl, rfl, rfl⟩ rfl rfl
  unfold takeLimits
  exact (((h0.trans (h1 _).take).trans (clearFault_kept _ _).take).trans (h2 _)).trans
    ((withEna_kept _ _).trans (withSns_kept _ _)).take

theorem eachCounter_kept {f : Counter → State → State} (h : ∀ c s, Kept s (f c s)) (cs : List Counter) (s : State) :
    Kept s (eachCounter f cs s) := by
  induction cs generalizing s with
  | nil => exact Kept.refl s
  | cons c cs ih => exact (h c s).trans (ih _)

/-- A counter's value in a RESEED fits its 32 bits. -/
theorem reseedOf_le (p : List Word) (c : Counter) : reseedOf p c ≤ 4294967295 := by
  have h := (p.getD (2 + 2 * c.val) 0).isLt
  have k := (p.getD (2 + 2 * c.val + 1) 0).isLt
  unfold reseedOf wideWord wideOf
  omega

/-- What an owner's acceptance keeps, whatever the channel. -/
theorem answer_kept {c : OrderChannel} {p : List Word} {n : Word} {s t : State} {f : DetailFlags}
    (h : c.answer p n s = .taken f t) : TakeKept s t := by
  cases c <;> dsimp only [OrderChannel.answer] at h
  · unfold checkDemand at h
    split at h
    · cases h
    · cases h; exact (takeDemand_kept _ _ _ s).take
  · unfold checkMode at h
    split at h
    · cases h; exact takeMode_kept _ _ _ _ _ s
    · cases h
  · unfold checkLimits at h
    split at h
    · split at h
      · cases h; exact takeLimits_kept _ s
      · cases h
    · cases h
  · unfold checkAcceptance at h
    split at h
    · cases h; exact (withEna_kept _ s).take
    · cases h
  · unfold checkEngineMap at h
    split at h
    · split at h
      · cases h; exact (withSpl_kept _ s).take
      · cases h
    · cases h
  · unfold checkWearSet at h
    split at h
    · cases h
    · split at h
      · cases h
      · split at h
        · split at h
          · cases h
          · cases h; exact (eachCounter_kept (fun c u => setThresholds_kept c _ _ u) _ s).take
        · split at h
          · cases h; exact (eachCounter_kept (fun c u => reseedCounter_kept c (reseedOf_le p c) u) _ s).take
          · cases h
        · split at h
          · cases h; exact (eachCounter_kept clearCounter_kept _ s).take
          · cases h
  · unfold checkCompensation at h
    repeat' split at h
    all_goals first | cases h
    · exact (withEna_kept _ s).take
    · exact ((clearFault_kept _ _).after ((withEna_kept _ s).trans (withEna_kept _ _))).take
  · unfold checkLogFilter at h
    split at h
    · cases h
    · cases h; exact TakeKept.of_image rfl rfl rfl ⟨rfl, rfl, rfl⟩ rfl rfl

end Sys2Proof.Machine
end

