-- ==== Sys2Proof/WellFormed.lean ====
section
/-! DEFINITION. Which commands are well formed: a late write names a channel that has a turn in its event
(R169: order channels 0 to 7; R175: report channels 8 to 15). Every other operand is in range by its type. -/

namespace Sys2Proof

/-- The late writes of a sweep fall in the turns of order channels 0 to 7 (R169). -/
def LateWrite.inSweep (l : LateWrite) : Bool := decide (l.channel < 8)

/-- The late writes of a report frame fall in the turns of report channels 8 to 15 (R175). -/
def LateWrite.inFrame (l : LateWrite) : Bool := decide (8 ≤ l.channel ∧ l.channel < 16)

/-- A command is well formed. -/
def Instr.wellFormed : Instr → Bool
  | .intakeSweep _ late => late.all LateWrite.inSweep
  | .reportFrame _ late => late.all LateWrite.inFrame
  | .keepPowerUp _ => true
  | .mainPowerUp _ => true
  | .pinReset => true
  | .resetAsserted => true
  | .mainSupplyLoss _ => true
  | .splitFrame => true
  | .outputStep _ => true
  | .blendFrame => true
  | .cplFrame => true
  | .dsvSecondTimer => true
  | .cplSecondTimer => true
  | .enaSecondTimer => true
  | .prechargeTimeout => true
  | .settleTimerExpiry => true
  | .cooldownTimerExpiry => true
  | .powerDownTimerExpiry => true
  | .safeStopTimerExpiry => true
  | .linkMonitorExpiry _ => true
  | .inverterStatus _ _ _ _ _ => true
  | .engineStatus _ _ _ _ => true
  | .brakeStatus _ _ _ => true
  | .packSample _ _ _ _ _ _ _ => true
  | .wheelEdge _ _ => true
  | .wheelTimerWrap _ => true
  | .silenceTimerExpiry _ => true
  | .attnWrite _ => true
  | .attnEnWrite _ => true
  | .logTakeWrite _ => true
  | .registerWriteIgnored _ _ => true
  | .keepSupplyLoss => true

end Sys2Proof
end

