-- ==== Sys2Proof/Tests/Slice0.lean ====
section
/-! SUPPORT. Small checks of the model: what well-formedness refuses, one step of the manual's worked cases, and states that
meet the hypotheses of each statement, at the boundaries of its clauses. -/

namespace Sys2Proof.Tests

set_option Elab.async false

open Sys2Proof Sys2Proof.Machine

/-! ## Well-formedness -/

/-- A write to the word at address 0. -/
def someWrite : VcWrite := { addr := 0, value := 0 }

/-- That write, in the turn of a channel. -/
def lateIn (channel : Nat) : LateWrite := { channel := channel, moment := .mid, write := someWrite }

theorem test_wf_sweep_refuses_channel_8 : Instr.wellFormed (.intakeSweep [] [lateIn 8]) = false := by
  decide
theorem test_wf_sweep_accepts_channel_7 : Instr.wellFormed (.intakeSweep [] [lateIn 7]) = true := by
  decide
theorem test_wf_frame_refuses_channel_7 : Instr.wellFormed (.reportFrame [] [lateIn 7]) = false := by
  decide
theorem test_wf_frame_refuses_channel_16 : Instr.wellFormed (.reportFrame [] [lateIn 16]) = false := by
  decide
theorem test_wf_frame_accepts_channel_15 : Instr.wellFormed (.reportFrame [] [lateIn 15]) = true := by
  decide

/-! ## States -/

/-- The state after a command. -/
def after (c : Instr) (s : State) : State :=
  match exec c s with
  | .next t => t
  | .fault _ => s
  | .refused _ => s

/-- The machine right after reset with another driveline state, its DSV records given. -/
def withDsv (d : Dsv) : State := { State.reset with dsv := d }

/-- A machine in PRECHARGE with the precharge timer running. -/
def precharging : State :=
  withDsv { Dsv.reset with state := .precharge, negClosed := true, preClosed := true, prechargeTimer := some 3000 }

/-- A machine in the settle delay, with a given direction and fault table. -/
def settling (d : Direction) (f : FaultTable) : State :=
  { withDsv { Dsv.reset with
      state := .precharge, negClosed := true, preClosed := true, posClosed := true, posFlag := true,
      settleTimer := some 100 } with
    faults := f, spl := { Spl.reset with demand := { Spl.reset.demand with direction := d } } }

/-- A machine in POWER_DOWN with POS closed, for a stop cause, with the pack link as given. -/
def poweringDown (c : StopCause) (l : Link) : State :=
  { withDsv { Dsv.reset with
      state := .powerDown, stopCause := c, negClosed := true, posClosed := true, posFlag := true,
      powerDownTimer := some 500 } with
    sns := { Sns.reset with packLink := l } }

/-- A link that is up. -/
def upLink : Link := { up := true, seen := true, monitor := some 50 }

/-- A machine in DRIVE, FORWARD, with every link up and no fault. -/
def driving : State :=
  { State.reset with
    dsv := { Dsv.reset with state := .drive, negClosed := true, posClosed := true, posFlag := true },
    faults := FaultTable.empty,
    sns := { Sns.reset with
      driveLink := upLink, engineLink := upLink, brakeLink := upLink, packLink := upLink, brakeAvailable := true,
      motorLimit := 2400, generatorLimit := 2400, roadSpeed := 271, shaftSpeed := 1200,
      vRef := { speed := 499, valid := true }, v3 := { speed := 488, valid := true } },
    spl := { Spl.reset with
      lastMoving := .forward, demandAge := 0, demand := { Spl.reset.demand with direction := .forward },
      tMotAvail := 1499, tGenAvail := 1427 } }

/-- The driving machine with a demand age. -/
def drivingAt (age : Nat) : State := { driving with spl := { driving.spl with demandAge := age } }

/-- The driving machine with its engine running at 350 rpm, coupled. -/
def stalling : State :=
  { driving with
    cpl := { Cpl.reset with engine := .running, coupling := .coupled, position := 1000 },
    sns := { driving.sns with engineSpeed := 350 } }

/-- The driving machine braking, with the pack's charge limit at 165 kW. -/
def braking : State :=
  { driving with
    ena := { Ena.reset with pChg := 1650 },
    spl := { driving.spl with demand := { driving.spl.demand with brake := 150 } } }

/-! ## Worked cases of the manual, one step each -/

theorem test_road_speed_271 : roadSpeedOf 1200 3015 800 = 271 := by decide
theorem test_tooth_constant : toothConstantOf (circOf 480) 80 = 1356750 := by decide
theorem test_period_across_a_wrap : periodOf 1234 64000 1 = 2770 ∧ min (1356750 / 2770) 65535 = 489 := by decide
theorem test_split_torques_at_1500 :
    tMaxOf Limits.default 1500 = 1909 ∧ tMotBatt 2560 1500 = 1499 ∧ tGenBatt 1600 1500 = 1107 ∧
    mapLookup [⟨1200, 600, 1100⟩, ⟨1800, 800, 1300⟩] 1500 = (700, 1200) ∧
    hybridShare 1145 700 1200 20 5200 5500 1499 1107 = (385, 760) ∧
    hybridShare 1909 700 1200 20 5200 5500 885 1107 = (885, 1024) := by decide
theorem test_compensated_current : compensate 1234 12 5000 = 1228 ∧ compensate (-3000) 12 5000 = -3027 := by decide
theorem test_slip_hold_release :
    moveTorque true (-729) 0 30 = -489 ∧ moveTorque false 10 (-729) 30 = 0 ∧ moveTorque false 0 (-729) 30 = -30 := by decide
theorem test_brake_onset_complement :
    (complementOf { Bbl.reset with force3 := 12150, aReq := 150 } .forward 250 Limits.default).p3 = 467 := by decide
theorem test_closing_step : closingStep 300 = 33 := by decide
theorem test_order_result_word : resultWords { cell := 70, sequence := 3, code := .state, flags := DetailFlags.none } = [0x0746, 3] := by
  decide
theorem test_blend_frame_mid_soc :
    (after .blendFrame braking).bbl.force3 = 12150 ∧ (after .blendFrame braking).bbl.regenRequest = 729 ∧
    (after .blendFrame braking).bbl.p1 = 270 ∧ (after .blendFrame braking).bbl.slip = 22 := by decide +kernel
theorem test_idle_step : step State.reset = .next State.reset := rfl
theorem test_reset_is_a_keep_power_up :
    after (.keepPowerUp true) { State.reset with port := { State.reset.port with powerUps := 0 } } = State.reset := by
  decide +kernel
theorem test_fetch_word_leaves_the_queue : State.reset.withFetchWord 16 0 = State.reset := rfl

/-! ## The invariants at concrete states -/

theorem logInv_reset : LogInv State.reset := by unfold LogInv; decide
theorem memoryInv_reset : MemoryInv State.reset := by unfold MemoryInv; decide

/-- A machine with one command waiting. -/
def oneWaiting : State := { State.reset with pending := [.attnEnWrite 0xFF] }

theorem test_witness_steps :
    MemoryInv oneWaiting ∧ LogInv oneWaiting ∧ CrankInv oneWaiting ∧ ChargeInv oneWaiting ∧ ClutchInv oneWaiting ∧
    ContactorInv oneWaiting ∧ ∃ t, step oneWaiting = .next t := by
  unfold MemoryInv LogInv CrankInv ChargeInv ClutchInv ContactorInv
  exact ⟨by decide, by decide, by decide, by decide, by decide, by decide, _, rfl⟩

theorem test_witness_step_warned : WarnedInv oneWaiting ∧ ∃ t, step oneWaiting = .next t := by
  unfold WarnedInv; exact ⟨by decide, _, rfl⟩

theorem test_witness_step_channels : ChannelInv oneWaiting ∧ ∃ t, step oneWaiting = .next t := by
  refine ⟨⟨fun c d k _ h => ?_, fun c i k h => ?_⟩, _, rfl⟩ <;> (cases c <;> exact absurd h (by simp [State.orderRow, oneWaiting, State.reset, Exc.reset, Vector.get, OrderChannel.number]))

/-! ## Hypotheses met: power, reset, registers, log -/

theorem test_witness_no_power :
    Instr.needsRunning .cplFrame = true ∧ State.running (after (.mainSupplyLoss true) State.reset) = false ∧
    (after (.mainSupplyLoss true) State.reset).supply.main = false ∧
    (after .resetAsserted State.reset).supply.main = true ∧
    (after .resetAsserted State.reset).supply.resetAsserted = true := by decide
theorem test_witness_event_frame :
    Instr.needsRunning .cplFrame = true ∧ (∀ v, Instr.cplFrame ≠ .attnEnWrite v) ∧ LogInv State.reset :=
  ⟨rfl, fun _ h => Instr.noConfusion h, logInv_reset⟩
/-- A machine whose RESET is held. -/
def held : State := after .resetAsserted State.reset

theorem test_witness_held_resets :
    held.supply.resetAsserted = true ∧ held.supply.markerHolds = true ∧ held.supply.main = true ∧
    (after .pinReset (after (.keepPowerUp true) held)).dsv.resetCause = .keepPowerUp ∧
    (after .pinReset (after (.mainPowerUp true) held)).dsv.resetCause = .mainPowerUp ∧
    (after .pinReset held).dsv.resetCause = .pin ∧
    (after (.mainSupplyLoss false) State.reset).supply.markerHolds = false := by decide +kernel
theorem test_witness_quiet_reset :
    State.reset.dsv.posFlag = false ∧ (∀ c : Counter, (State.reset.counter c).warned = .none) ∧
    readRegister (after .pinReset State.reset) 6 = 0 ∧ readRegister (after (.mainPowerUp true) State.reset) 6 = 0 := by
  decide +kernel
theorem test_words_written_between_two_commands :
    let s := after (.registerWriteIgnored 0 [{ addr := 0x2C2, value := 0x1234 }]) State.reset
    s.port.wordAt (slotAddr 0 + 4) = 0x1234 ∧ (vcWrites [someWrite] State.reset).port.wordAt 0 = 0 ∧
    (after (.registerWriteIgnored 7 [someWrite]) (after (.mainSupplyLoss true) State.reset)) =
      after (.mainSupplyLoss true) State.reset := by decide +kernel
theorem test_witness_resets :
    State.reset.supply.resetAsserted = false ∧ State.reset.supply.markerHolds = true ∧ State.reset.supply.main = true ∧
    State.reset.supply.heldPowerUp = none ∧ State.running State.reset = true := by decide
theorem test_witness_uncontrolled_open :
    MemoryInv (settling .neutral FaultTable.empty) ∧ (settling .neutral FaultTable.empty).dsv.posFlag = true ∧
    (settling .neutral FaultTable.empty).supply.heldPowerUp = none ∧ State.reset.dsv.posFlag = false :=
  ⟨by unfold MemoryInv; decide, rfl, rfl, rfl⟩
theorem test_witness_attn_change :
    MemoryInv State.reset ∧ (after (.attnWrite 0x80) State.reset).port.attn ≠ State.reset.port.attn := by
  exact ⟨memoryInv_reset, by decide +kernel⟩
theorem test_witness_log_take_empty_and_one :
    State.reset.log.occupancy = 1 ∧ (after (.logTakeWrite 0) State.reset).log.occupancy = 0 ∧
    State.running (after (.logTakeWrite 0) State.reset) = true ∧ State.reset.log.readPos < 64 := by decide +kernel

/-- A log entry of NOTE severity. -/
def someEntry : LogEntry := entryNow State.reset .slipHold none (some 94) none

/-- A machine whose log holds a given number of entries. -/
def logWith (n : Nat) : State := { State.reset with log := { LogRing.empty with writePos := n % 64, occupancy := n } }

theorem test_witness_append :
    MemoryInv (logWith 63) ∧ LogInv (logWith 63) ∧ someEntry.passes (logWith 63).log.filter = true ∧
    (logWith 63).log.occupancy < 64 ∧ (logWith 64).log.occupancy = 64 ∧ someEntry.passes (logWith 64).log.filter = true ∧
    someEntry.passes { mask := 0xFFFF, minimum := .advise } = false ∧ someEntry.passes { mask := 0, minimum := .note } = false := by
  unfold MemoryInv LogInv; decide +kernel

/-! ## Hypotheses met: wear counters, fault table -/

/-- A machine whose W8 record is given. -/
def withW8 (r : WearRecord) : State := setCounter w8 r State.reset

theorem test_witness_threshold_urgent :
    let r := ({ WearRecord.reset with value := 9, advise := 5, urgent := 9, warned := .advise } : WearRecord)
    (withW8 r).counter w8 = r ∧ (r.urgent ≠ 0 ∧ r.urgent ≤ r.value ∧ r.warned ≠ .urgent) := by decide
theorem test_witness_threshold_advise :
    let r := ({ WearRecord.reset with value := 5, advise := 5, urgent := 9 } : WearRecord)
    (withW8 r).counter w8 = r ∧ ¬(r.urgent ≠ 0 ∧ r.urgent ≤ r.value ∧ r.warned ≠ .urgent) ∧ r.advise ≠ 0 ∧
    r.advise ≤ r.value ∧ r.warned = .none := by decide
theorem test_witness_threshold_none :
    let r := ({ WearRecord.reset with value := 4, advise := 5, urgent := 9 } : WearRecord)
    (withW8 r).counter w8 = r ∧ ¬(r.urgent ≠ 0 ∧ r.urgent ≤ r.value ∧ r.warned ≠ .urgent) ∧
    ¬(r.advise ≠ 0 ∧ r.advise ≤ r.value ∧ r.warned = .none) := by decide
theorem test_witness_wear_rises :
    (∃ t, exec .cplFrame State.reset = .next t) ∧ (State.reset.counter w4).value ≤ 4294967295 := ⟨⟨_, rfl⟩, by decide⟩
theorem test_witness_clearing :
    (State.reset.faults.record .configMissing).state = .active ∧
    (State.reset.faults.record .demandStale).state ≠ .active := by decide
theorem test_witness_highest_class :
    State.reset.faults.isActive .socUnknown = true ∧ State.reset.faults.highest ≠ .info := by decide

/-! ## Hypotheses met: DSV's timers and the links -/

/-- The fault table with ENGINE_LINK_LOST active. -/
def limpFaults : FaultTable :=
  { FaultTable.empty with
    records := putAt FaultTable.empty.records FaultKind.engineLinkLost.number
      { state := .active, count := 1, first := some 0, last := some 0 } }

theorem test_witness_settle :
    State.running (settling .forward FaultTable.empty) = true ∧
    (settling .forward FaultTable.empty).dsv.settleTimer.isSome = true ∧
    (after .settleTimerExpiry (settling .forward FaultTable.empty)).dsv.state = .drive ∧
    (after .settleTimerExpiry (settling .forward limpFaults)).dsv.state = .limp ∧
    (after .settleTimerExpiry (settling .neutral FaultTable.empty)).dsv.state = .ready := by decide +kernel
theorem test_witness_precharge_timeout :
    State.running precharging = true ∧ ContactorInv precharging ∧ LogInv precharging ∧
    precharging.dsv.prechargeTimer.isSome = true := by unfold ContactorInv LogInv; decide
theorem test_witness_cooldown :
    let s := withDsv { Dsv.reset with cooldownTimer := some 10000 }
    let k := withDsv { s.dsv with mode := { Dsv.reset.mode with keyOn := true } }
    s.dsv.state = .standby ∧ s.dsv.cooldownTimer.isSome = true ∧ (k.dsv.mode.keyOn = true ∧ k.faults.highest.rank < 3) ∧
    ¬(s.dsv.mode.keyOn = true ∧ s.faults.highest.rank < 3) ∧ k.dsv.cooldownTimer.isSome = true := by decide
theorem test_witness_power_down :
    ContactorInv (poweringDown .keyOff upLink) ∧ ContactorInv (poweringDown (.fault .demandLost) Link.reset) ∧
    LogInv (poweringDown .keyOff upLink) ∧ State.running (poweringDown .keyOff upLink) = true ∧
    (poweringDown .keyOff upLink).dsv.powerDownTimer.isSome = true ∧
    (poweringDown .keyOff upLink).dsv.posClosed = true ∧ (poweringDown .keyOff upLink).dsv.mode.keyOn = false ∧
    (poweringDown (.fault .demandLost) Link.reset).sns.packLink.up = false := by
  unfold ContactorInv LogInv
  exact ⟨by decide, by decide, by decide, by decide, by decide, by decide, by decide, by decide⟩
theorem test_hot_opening_above_50_A :
    hotOpening { poweringDown .keyOff upLink with ena := { Ena.reset with current := -500 } } = false ∧
    hotOpening { poweringDown .keyOff upLink with ena := { Ena.reset with current := -501 } } = true := by decide
theorem test_witness_safe_stop :
    let s := withDsv { Dsv.reset with state := .safeStop, safeStopTimer := some 30000 }
    State.running s = true ∧ s.dsv.state = .safeStop ∧ s.dsv.safeStopTimer.isSome = true := by decide
theorem test_witness_link_loss :
    State.running driving = true ∧ LogInv driving ∧ (driving.sns.link .drive).monitor.isSome = true ∧
    (driving.sns.link .pack).monitor.isSome = true ∧ driving.faults.highest ≠ .shutdown ∧
    driving.dsv.state ≠ .standby ∧ driving.dsv.state ≠ .faulted ∧
    (after (.linkMonitorExpiry .drive) driving).dsv.state = .faulted := by unfold LogInv; decide +kernel

/-- The precharging machine with the pack link up and a pack voltage of 660.0 V. -/
def prechargingWithPack : State :=
  { precharging with sns := { Sns.reset with packLink := upLink }, ena := { Ena.reset with voltage := 6600, minTemp := 12 } }

theorem test_witness_voltage_condition :
    prechargingWithPack.dsv.prechargeTimer.isSome = true ∧ prechargingWithPack.sns.packLink.up = true ∧
    prechargingWithPack.ena.voltage * 950 ≤ (clamp 6270 0 10000).toNat * 1000 ∧
    (clamp 6269 0 10000).toNat * 1000 < prechargingWithPack.ena.voltage * 950 ∧
    (after (.inverterStatus true 0 6270 0 0) prechargingWithPack).dsv.settleTimer = some 100 ∧
    (after (.inverterStatus true 0 6269 0 0) prechargingWithPack).dsv.posClosed = false := by decide +kernel

theorem test_witness_voltage_at_a_sample :
    let s : State := { prechargingWithPack with
      sns := { prechargingWithPack.sns with driveLink := upLink, linkVoltage := 6270 },
      ena := { prechargingWithPack.ena with lastCount := some 1 },
      dsv := { prechargingWithPack.dsv with inverterSincePrecharge := true } }
    s.sns.driveLink.up = true ∧ s.ena.lastCount = some 1 ∧
    max (clamp 0 (-40) 125) (clamp 59 (-40) 125) < (s.dsv.limits.packAbsMax : Int) ∧
    (after (.packSample true 2 0 6600 0 59 1) s).dsv.settleTimer = some 500 ∧
    (after (.packSample true 2 0 6600 1 59 1) s).dsv.settleTimer = some 100 ∧
    (after (.packSample true 2 0 6601 1 59 1) s).dsv = s.dsv := by decide +kernel

/-! ## Hypotheses met: pack samples, wheels -/

/-- The driving machine after a first sample with count 253. -/
def sampled : State := { driving with ena := { Ena.reset with lastCount := some 253 } }

theorem test_witness_integrating :
    State.running sampled = true ∧ LogInv sampled ∧ sampled.sns.packLink.up = true ∧ sampled.ena.lastCount = some 253 ∧
    (1 : Byte) ≠ 253 ∧ ((1 : Byte) - 253).toNat = 4 := by unfold LogInv; decide
theorem test_witness_sample_clauses :
    let s : State := { sampled with ena := { sampled.ena with dischargeRemainder := 3596316 } }
    let b : State := { sampled with spl := { sampled.spl with demand := { sampled.spl.demand with brake := 80 } } }
    (after (.packSample true 253 900 6600 20 30 1) s).ena = s.ena ∧
    ((after (.packSample true 0 1228 6600 20 30 1) s).counter w5).value = 1 ∧
    ((after (.packSample true 255 1228 6600 20 30 1) s).counter w5).value = 0 ∧
    (after (.packSample true 254 (-3027) 6680 20 30 1) b).ena.recoveredRemainder = 20220360 ∧
    (after (.packSample true 254 (-3027) 6680 20 30 1) s).ena.recoveredRemainder = 0 ∧
    (after (.packSample true 254 0 6600 20 30 1) s).ena.spentRemainder = 0 := by decide +kernel
theorem test_witness_first_sample :
    State.running State.reset = true ∧ LogInv State.reset ∧ State.reset.sns.packLink.up = false ∧
    State.reset.sns.packLink.seen = false ∧ (after (.packSample true 9 10 6600 20 30 70000) State.reset).ena.unaccounted = 0 :=
  ⟨rfl, logInv_reset, rfl, rfl, by decide +kernel⟩
theorem test_witness_resynchronising :
    let s : State := { State.reset with sns := { Sns.reset with packLink := { up := false, seen := true, monitor := none } } }
    State.running s = true ∧ LogInv s ∧ s.sns.packLink.up = false ∧ s.sns.packLink.seen = true := by
  unfold LogInv; decide
theorem test_witness_hot_second :
    let s : State := { driving with ena := { Ena.reset with maxTemp := 45 } }
    let c : State := { driving with ena := { Ena.reset with maxTemp := 44 } }
    State.running s = true ∧ (s.sns.packLink.up = true ∧ (s.dsv.limits.packHot : Int) ≤ s.ena.maxTemp) ∧
    ¬(c.sns.packLink.up = true ∧ (c.dsv.limits.packHot : Int) ≤ c.ena.maxTemp) := by decide

/-- A machine whose A1L channel is given. -/
def withA1l (x : Wheel) : State := { State.reset with sns := { Sns.reset with wheels := putAt Sns.reset.wheels 0 x } }

theorem test_witness_edges :
    let x : Wheel := { Wheel.reset with previous := 61000, havePrevious := true }
    (Sns.wheel (withA1l Wheel.reset).sns (wheelNumber .a1l)).havePrevious = false ∧
    (Sns.wheel (withA1l { x with overflow := 1 }).sns (wheelNumber .a1l)).overflow < 2 ∧
    2 ≤ (Sns.wheel (withA1l { x with overflow := 2 }).sns (wheelNumber .a1l)).overflow ∧
    (Sns.wheel (after (.wheelEdge .a1l 63714) (withA1l x)).sns (wheelNumber .a1l)).speed = 499 := by decide +kernel
theorem test_witness_wrap_and_silence :
    let fast : Wheel := { Wheel.reset with speed := 101, valid := true }
    let s : State := { State.reset with sns := { Sns.reset with
      wheels := putAt (putAt (putAt Sns.reset.wheels 0 fast) 1 fast) 2 { fast with overflow := 1 } } }
    (Sns.wheel s.sns (wheelNumber .a2l)).overflow = 1 ∧ (Sns.wheel s.sns (wheelNumber .a1l)).overflow ≠ 1 ∧
    s.sns.otherAxleFast (wheelNumber .a2l) = true ∧ State.reset.sns.otherAxleFast (wheelNumber .a2l) = false ∧
    (Sns.wheel s.sns (wheelNumber .a2l)).silent = false ∧ (Sns.wheel s.sns (wheelNumber .a2l)).sensorFault = false := by
  decide

/-! ## Hypotheses met: split, torque, engine, brakes -/

theorem test_witness_old_demand :
    State.running (drivingAt 5) = true ∧ (drivingAt 5).dsv.state = .drive ∧
    (drivingAt 5).spl.demand.direction ≠ .neutral ∧ (drivingAt 5).faults.isActive .demandStale = false ∧
    (drivingAt 100).faults.isActive .demandLost = false ∧ (drivingAt 100).faults.highest.rank < 3 ∧
    (after .splitFrame (drivingAt 5)).faults.isActive .demandStale = true ∧
    (after .splitFrame (drivingAt 4)).faults.isActive .demandStale = false ∧
    (after .splitFrame (drivingAt 100)).dsv.state = .safeStop := by decide +kernel
theorem test_witness_split_clauses :
    driving.cpl.coupling ≠ .coupled ∧ (after .splitFrame (drivingAt 0)).faults.isActive .demandStale = false ∧
    (after .splitFrame (drivingAt 5)).faults.isActive .demandStale = true := by decide +kernel
theorem test_witness_slip_hold :
    let s : State := { driving with bbl := { Bbl.reset with slipHold := true }, tqa := { Tqa.reset with issued := -729 } }
    s.bbl.slipHold = true ∧ s.tqa.issued < 0 ∧ (after (.outputStep false) s).tqa.issued = -489 := by decide +kernel
theorem test_witness_output_step :
    State.running driving = true ∧ driving.dsv.state.torqueFlows = true ∧ State.reset.dsv.state.torqueFlows = false := by decide
theorem test_witness_output_with_blend_frame :
    let s : State := { braking with tqa := { Tqa.reset with issued := 370 }, spl := { braking.spl with propulsionRequest := 370 } }
    State.running s = true ∧ (∃ u, exec .blendFrame s = .next u) ∧
    (after (.outputStep true) s).tqa.issued = 250 ∧ (after (.outputStep true) s).tqa.stepMode = .propulsion ∧
    (after (.outputStep true) s).bbl.p3 = 467 ∧ (after (.outputStep false) s).bbl.p3 = 0 ∧
    (after (.outputStep false) (after .blendFrame s)).tqa.stepMode = .recovery :=
  ⟨rfl, ⟨_, rfl⟩, by decide +kernel⟩
theorem test_witness_stall :
    State.running stalling = true ∧ LogInv stalling ∧ stalling.cpl.engine = .running ∧
    stalling.sns.engineLink.up = true ∧ stalling.sns.engineSpeed < 400 := by unfold LogInv; decide
theorem test_witness_force_run :
    let s : State := { driving with
      dsv := { driving.dsv with mode := { Dsv.reset.mode with permission := .forceRun } },
      cpl := { Cpl.reset with failureWait := 1, stallBlock := 1 } }
    State.running s = true ∧ s.dsv.mode.permission = .forceRun ∧ s.dsv.state = .drive ∧ s.cpl.engine = .off ∧
    s.cpl.coupling = .opened ∧ s.sns.engineLink.up = true ∧ s.cpl.failureWait ≤ 1 ∧ s.cpl.stallBlock ≤ 1 ∧
    (after .cplFrame s).cpl.engine = .cranking := by decide +kernel
theorem test_witness_blend_frame :
    State.running braking = true ∧ LogInv braking ∧ (after .blendFrame State.reset).bbl.recoveryActive = false := by
  unfold LogInv; decide +kernel

/-! ## Hypotheses met: exchange -/

theorem test_witness_empty_sweep :
    State.running State.reset = true ∧ MemoryInv State.reset ∧
    (∀ c : OrderChannel, (vcWrites [] State.reset).port.wordAt (dirAddr c.number 1) = 0xFFFF) ∧
    (∀ i : Fin 8, (State.reset.reportRow i).held = none) :=
  ⟨rfl, memoryInv_reset, fun c => by cases c <;> decide +kernel, by decide⟩

/-- A LOG_FILTER order, every position set and minimum ADVISE, in cell 9, and its pending word. -/
def filterOrder : List VcWrite :=
  [{ addr := 0xB6, value := 7 }, { addr := 0xB7, value := 1 }, { addr := 0xB8, value := 2 }, { addr := 0xB9, value := 2 },
    { addr := 0xBA, value := 0 }, { addr := 0x6C0, value := 0xFFFF }, { addr := 0x6C1, value := 1 },
    { addr := 0x1D, value := 9 }]

/-- Whether an owner took the order. -/
def isTaken : Answer → Bool
  | .refused _ => false
  | .taken _ _ => true

theorem taken_of {a : Answer} (h : isTaken a = true) : ∃ f s, a = .taken f s := by
  cases a with
  | refused _ => exact Bool.noConfusion h
  | taken f s => exact ⟨f, s, rfl⟩

/-- The refusal of the one order a sweep finds, if it is refused. -/
def outcomeOf (ws : List VcWrite) : OutcomeCode := ((after (.intakeSweep ws []) State.reset).orderRow .logFilter).lastCode

theorem test_witness_one_order :
    let s0 := vcWrites filterOrder State.reset
    (∀ d : OrderChannel, d ≠ .logFilter → s0.port.wordAt (dirAddr d.number 1) = 0xFFFF) ∧
    s0.port.wordAt (dirAddr OrderChannel.logFilter.number 1) = indexWord (some 9) ∧
    (blockInside 9 (s0.port.offsetOf 9) = true ∧ s0.exc.names 9 = false ∧ s0.port.cellState 9 = cellFilled ∧
      isLong 9 = OrderChannel.logFilter.long ∧ (s0.port.wordAt (headerAddr 9 3)).toNat = 2) ∧
    (∃ added s2, OrderChannel.logFilter.answer (s0.port.wordsAt (dataAddr (s0.port.offsetOf 9)) 2)
      (s0.port.wordAt (headerAddr 9 2)) s0 = .taken added s2) ∧ outcomeOf filterOrder = .accepted := by
  refine ⟨fun d h => ?_, by decide +kernel, by decide +kernel, taken_of (by decide +kernel), by decide +kernel⟩
  cases d <;> first | exact absurd rfl h | decide +kernel

theorem test_witness_order_outcomes :
    outcomeOf (filterOrder ++ [{ addr := 0xBA, value := 6448 }, { addr := 8176, value := 0 }, { addr := 8177, value := 0 }]) = .accepted ∧
    outcomeOf (filterOrder ++ [{ addr := 0xBA, value := 6449 }]) = .badCell ∧
    outcomeOf (filterOrder ++ [{ addr := 0xB7, value := 4 }]) = .notFilled ∧
    outcomeOf (filterOrder ++ [{ addr := 0x1D, value := 64 }, { addr := 0x201, value := 1 }]) = .cellClass ∧
    outcomeOf (filterOrder ++ [{ addr := 0xB9, value := 1 }]) = .short ∧
    outcomeOf (filterOrder ++ [{ addr := 0xB9, value := 3 }]) = .adjusted ∧
    outcomeOf (filterOrder ++ [{ addr := 0xB6, value := 5 }]) = .adjusted ∧
    outcomeOf (filterOrder ++ [{ addr := 0x6C1, value := 3 }]) = .range := by decide +kernel

theorem test_late_writes_in_a_turn :
    let late (m : Moment) (addr : BitVec 13) (value : Word) : List LateWrite :=
      [{ channel := 7, moment := m, write := { addr := addr, value := value } }]
    let swept (l : List LateWrite) : State := after (.intakeSweep filterOrder l) State.reset
    ((swept (late .early 0xB7 2)).orderRow .logFilter).lastCode = .notFilled ∧
    ((swept (late .mid 0xB7 2)).orderRow .logFilter).lastCode = .accepted ∧
    ((swept (late .mid 0x6C1 3)).orderRow .logFilter).lastCode = .range ∧
    ((swept (late .end_ 0x6C1 3)).orderRow .logFilter).lastCode = .accepted ∧
    (swept (late .end_ 0x1D 10)).port.wordAt (dirAddr 7 1) = 10 := by decide +kernel

theorem test_witness_demand :
    2 < word [0, 0, 3, 0, 18000] 2 ∧ word [0, 0, 2, 0, 18000] 2 = Direction.code .reverse := by decide
theorem test_witness_mode :
    1 < word [2, 0, 5500, 0, 0] 0 ∧ 2 < word [1, 3, 5500, 0, 0] 1 ∧
    (word [1, 2, 5500, 1, 1] 0 ≤ 1 ∧ word [1, 2, 5500, 1, 1] 1 ≤ 2 ∧ word [1, 2, 5500, 1, 1] 3 ≤ 1 ∧
      word [1, 2, 5500, 1, 1] 4 = 1) := by decide

theorem test_witness_mode_key :
    let off : List Word := [0, 0, 5500, 0, 0]
    (State.reset.dsv.state = .standby ∧ State.reset.dsv.cooldownTimer = none ∧ State.reset.faults.highest.rank < 3) ∧
    (precharging.dsv.state = .precharge ∧ driving.dsv.state = .drive ∧ word off 0 = 0 ∧ ¬driving.sns.roadSpeed < 10 ∧
      State.reset.sns.roadSpeed < 10) ∧ isTaken (checkMode off driving) = true := by decide +kernel

/-- The default LIMITS record as an order's payload. -/
def defaultLimits : List Word :=
  [2000, 1800, 2800, 300, 30, 800, 480, 80, 300, 250, 450, 30, 30, 35, 600, 2000, 8500, 20, 20, 300, 80, 600, 400, 45, 60]

theorem test_witness_limits :
    driving.dsv.state ≠ .standby ∧ driving.dsv.state ≠ .ready ∧ State.reset.dsv.state = .standby ∧
    (limitsOf defaultLimits).inRange = true ∧ limitsOf defaultLimits = Limits.default ∧
    (limitsOf (99 :: defaultLimits.tail)).inRange = false := by decide
theorem test_witness_engine_map_and_compensation :
    stalling.cpl.coupling ≠ .opened ∧ State.reset.cpl.coupling = .opened ∧ word [1] 0 < 2 ∧ 12 < word [13] 0 ∧
    word [500, 20000, 1, 10000] 2 = 1 ∧ trimsInRange [500, 20000, 1, 10000] = true ∧ word [500, 20000, 1, 10000] 3 ≤ 10000 ∧
    State.reset.ena.restTimer < 30 ∧ word [500, 20000, 0, 0] 2 = 0 ∧ trimsInRange [501, 0, 0, 0] = false := by decide
theorem test_witness_log_filter : 2 < word [0, 3] 1 ∧ word [0, 2] 1 = Severity.code .urgent := by decide
theorem test_witness_wear_set :
    2 < word [3, 0] 0 ∧ 1024 ≤ word [0, 1024] 1 ∧ (word [2, 1023] 1 < 1024 ∧ State.reset.dsv.serviceMode = false) ∧
    (driving.wear.windowOpen = true ∧ (closeWindow driving).wear.windowOpen = false) ∧
    (∃ c : Counter, (([0, 1, 6, 0, 5, 0] : List Word).getD 1 0).getLsbD c.val = true ∧ adviseOf [0, 1, 6, 0, 5, 0] c ≠ 0 ∧
      urgentOf [0, 1, 6, 0, 5, 0] c ≠ 0 ∧ urgentOf [0, 1, 6, 0, 5, 0] c < adviseOf [0, 1, 6, 0, 5, 0] c) :=
  ⟨by decide, by decide, by decide, by decide, 0, by decide⟩
theorem test_witness_wear_set_takes :
    let ready : State := { driving with dsv := { driving.dsv with serviceMode := true } }
    (∀ c : Counter, (([0, 1, 5, 0, 5, 0] : List Word).getD 1 0).getLsbD c.val = true →
      adviseOf [0, 1, 5, 0, 5, 0] c = 0 ∨ urgentOf [0, 1, 5, 0, 5, 0] c = 0 ∨
        adviseOf [0, 1, 5, 0, 5, 0] c ≤ urgentOf [0, 1, 5, 0, 5, 0] c) ∧
    ready.wear.windowOpen = true ∧ ready.dsv.serviceMode = true ∧
    (([1, 512] : List Word).getD 1 0 = BitVec.ofNat 16 (2 ^ w9.val)) ∧
    isTaken (checkWearSet [0, 1, 5, 0, 5, 0] ready) = true ∧ isTaken (checkWearSet [1, 512] ready) = true ∧
    isTaken (checkWearSet [2, 1023] ready) = true := by decide +kernel
theorem test_witness_acceptance :
    acceptanceInRange ([0xFFF6, 10, 35, 50, 2000, 5000, 8000] ++ List.replicate 40 800) = true ∧
    acceptanceInRange ([0xFFF6, 10, 35, 50, 2000, 5000, 8000] ++ List.replicate 40 801) = false := by decide +kernel
/-- SPARE cell 20, lent to ENERGY. -/
def lent : List VcWrite := [{ addr := 0xF8, value := 10 }, { addr := 0xF9, value := 4 }, { addr := 0xFC, value := 0 }]

theorem test_witness_report_frame :
    let s : State := setReportRow 5 { State.reset.reportRow 5 with changePending := true } State.reset
    let silent : List VcWrite := lent ++ [{ addr := 0x22, value := 0x0001 }]
    let t := after (.reportFrame silent []) s
    State.running s = true ∧ MemoryInv s ∧ (t.reportRow 2).published = some 20 ∧ (t.reportRow 2).sequence = 1 ∧
    t.reportRow 0 = s.reportRow 0 ∧ (t.reportRow 5).skips = 1 ∧ (t.reportRow 5).changePending = true ∧
    (after (.reportFrame lent [lateIn 10]) s).exc.frameNumber = 1 :=
  ⟨rfl, by unfold MemoryInv; decide, by decide +kernel⟩
theorem test_witness_skip :
    ∀ k : CellIndex, candidate .energy State.reset.port State.reset.exc k = false := by decide +kernel
theorem test_witness_fill :
    MemoryInv State.reset ∧ State.reset.exc.names 63 = false ∧ isLong 63 = ReportChannel.energy.long ∧
    blockInside 63 6448 = true ∧ blockInside 63 6449 = false ∧ blockInside 63 (State.reset.port.offsetOf 63) = true :=
  ⟨memoryInv_reset, by decide +kernel⟩

/-! ## Hypotheses met: what an event does -/

/-- The driving machine in another driveline state, at a given road speed. -/
def drivenIn (d : DrivelineState) (speed : Nat) : State :=
  { driving with dsv := { driving.dsv with state := d }, sns := { driving.sns with roadSpeed := speed } }

/-- The machine in LIMP for a lost engine link, which a status will bring up. -/
def limping : State :=
  { drivenIn .limp 271 with
    faults := limpFaults, sns := { driving.sns with engineLink := { up := false, seen := true, monitor := none } } }

theorem test_witness_pack_loss_by_state :
    driving.faults.highest.rank < 3 ∧ (after (.linkMonitorExpiry .pack) driving).dsv.state = .safeStop ∧
    (after (.linkMonitorExpiry .pack) (drivenIn .limp 9)).dsv.state = .powerDown ∧
    (after (.linkMonitorExpiry .pack) (drivenIn .ready 0)).dsv.state = .powerDown ∧
    (after (.linkMonitorExpiry .pack) (drivenIn .precharge 0)).dsv.state = .standby ∧
    (after (.linkMonitorExpiry .pack) (drivenIn .safeStop 10)).dsv.state = .safeStop ∧
    (after (.linkMonitorExpiry .brake) driving).dsv.state = .limp ∧
    (after (.linkMonitorExpiry .engine) (drivenIn .precharge 0)).dsv.state = .precharge := by decide +kernel
theorem test_witness_limp_is_left :
    limping.sns.engineLink.up = false ∧ limping.sns.engineLink.seen = true ∧
    limping.faults.isActive .engineLinkLost = true ∧ limping.dsv.state = .limp ∧
    (after (.engineStatus true 700 0 true) limping).dsv.state = .drive ∧
    (after (.engineStatus true 700 0 true)
      { limping with spl := { limping.spl with demand := { limping.spl.demand with accelerator := 1 } } }).dsv.state = .limp :=
  by decide +kernel
theorem test_witness_overtemp :
    let s := after (.packSample true 254 0 6600 20 60 1) sampled
    sampled.dsv.limits.packAbsMax = 60 ∧ (after (.packSample true 254 0 6600 20 59 1) sampled).faults = sampled.faults ∧
    s.faults.isActive .packOvertemp = true ∧ s.dsv.state = .safeStop ∧
    (after (.packSample true 255 0 6600 20 55 1) s).faults = s.faults ∧
    ((after (.packSample true 255 0 6600 20 54 1) s).faults.record .packOvertemp).state = .latched := by decide +kernel
theorem test_witness_sample_ends_power_down :
    let s (c : StopCause) : State := { poweringDown c upLink with ena := { Ena.reset with lastCount := some 1 } }
    (s .keyOff).dsv.prechargeTimer = none ∧ (after (.packSample true 2 199 6600 20 30 1) (s .keyOff)).dsv.state = .standby ∧
    (after (.packSample true 2 (-199) 6600 20 30 1) (s (.fault .demandLost))).dsv.state = .faulted ∧
    (after (.packSample true 2 200 6600 20 30 1) (s .keyOff)).dsv = (s .keyOff).dsv := by decide +kernel
theorem test_witness_wrap_finds_a_silent_wheel :
    let fast : Wheel := { Wheel.reset with speed := 101, valid := true }
    let s : State := { State.reset with sns := { Sns.reset with
      wheels := putAt (putAt (putAt (putAt Sns.reset.wheels 0 fast) 1 fast) 2 { fast with overflow := 1 }) 4
        { Wheel.reset with silent := true } } }
    ((after (.wheelTimerWrap .a2l) s).sns.wheel 4).sensorFault = true ∧
    (after (.wheelTimerWrap .a2l) s).faults.isActive .wheelSensor = true ∧
    ((after (.wheelTimerWrap .a1l) s).sns.wheel 4).sensorFault = false := by decide +kernel
theorem test_witness_old_demand_by_state :
    let at_ (d : DrivelineState) (age : Nat) : State :=
      { drivenIn d 9 with spl := { driving.spl with demandAge := age, demand := Spl.reset.demand } }
    (at_ .limp 5).faults.isActive .demandStale = false ∧
    (after .splitFrame (at_ .limp 5)).faults.isActive .demandStale = true ∧
    (after .splitFrame (at_ .limp 100)).dsv.state = .powerDown ∧
    (after .splitFrame (at_ .ready 100)).faults = (at_ .ready 100).faults := by decide +kernel

/-- The driving machine with the engine forced to run, in an engine and a coupling state. -/
def forced (c : Cpl) (speed : Nat) : State :=
  { driving with
    dsv := { driving.dsv with mode := { Dsv.reset.mode with permission := .forceRun } },
    spl := { driving.spl with mapValid := true }, sns := { driving.sns with engineSpeed := speed },
    cpl := { c with wantOn := true } }

theorem test_witness_crank_ends :
    let c : Cpl := { Cpl.reset with engine := .cranking, crankTimer := 149, crankCount := 1 }
    let e (c : Cpl) (speed : Nat) : EngineState := (after .cplFrame (forced c speed)).cpl.engine
    c.coupling = .opened ∧ e c 500 = .running ∧ e c 499 = .off ∧ e { c with crankTimer := 148 } 499 = .cranking ∧
    e { c with crankCount := 2 } 499 = .lockedOut ∧ e { c with engine := .lockedOut } 0 = .lockedOut ∧
    e { c with engine := .off, failureWait := 2 } 0 = .off ∧
    (after .cplFrame { forced c 499 with dsv := driving.dsv, spl := driving.spl }).cpl.wantOn = true ∧
    (after .cplFrame { forced c 499 with dsv := { driving.dsv with state := .safeStop } }).cpl.engine = .off := by
  decide +kernel
theorem test_witness_coupling_moves :
    let r : Cpl := { Cpl.reset with engine := .running }
    let go (c : Cpl) (speed : Nat) : Cpl := (after .cplFrame (forced c speed)).cpl
    let syncing : Cpl := { r with coupling := .syncing, sync := .track, lockRun := 7 }
    let closing : Cpl := { r with coupling := .closing, position := 967 }
    (go r 700).coupling = .syncing ∧ (go r 700).speedRequest = 1500 ∧ (go syncing 1170).sync = .locked ∧
    (go syncing 1169).sync = .track ∧ (go { syncing with sync := .locked } 1140).coupling = .closing ∧
    (go { syncing with syncTimer := 199 } 1169).retryDelay = 500 ∧ (go closing 1200).coupling = .coupled ∧
    (go { closing with position := 966 } 1200).position = 999 ∧ (go closing 999).coupling = .opening ∧
    (go { closing with coupling := .opening, position := 100 } 1200).coupling = .opened := by decide +kernel
theorem test_witness_overspeed_and_stop :
    let c : Cpl := { Cpl.reset with engine := .running, coupling := .coupled, position := 1000 }
    let fast : State := { forced c 2390 with sns := { (forced c 2390).sns with shaftSpeed := 2401 } }
    let quiet (c : Cpl) : State :=
      { forced c 700 with dsv := { driving.dsv with mode := { Dsv.reset.mode with permission := .quiet } } }
    (after .cplFrame fast).cpl.position = 0 ∧ (after .cplFrame (quiet c)).cpl.coupling = .opening ∧
    (after .cplFrame (quiet { c with coupling := .opened, position := 0 })).cpl.engine = .stopping ∧
    (after .cplFrame (quiet { Cpl.reset with engine := .stopping })).cpl.engine = .off ∧
    (after .cplFrame { quiet { Cpl.reset with engine := .stopping } with
      sns := { driving.sns with engineRunning := true } }).cpl.engine = .stopping := by decide +kernel
theorem test_witness_slip_supervised :
    let s (b : Bbl) (v3 : Nat) : State :=
      { braking with
        bbl := b, tqa := { Tqa.reset with issued := -729 }, sns := { braking.sns with v3 := { speed := v3, valid := true } } }
    let go (b : Bbl) (v3 : Nat) : Bbl := (after .blendFrame (s b v3)).bbl
    let hold : Bbl := { Bbl.reset with slipHold := true, releaseRun := 19, ramp := none }
    (go { Bbl.reset with entryRun := 1 } 400).slipHold = true ∧ (go Bbl.reset 400).entryRun = 1 ∧
    (go { Bbl.reset with entryRun := 1 } 498).entryRun = 0 ∧ (go hold 488).slipHold = false ∧
    (go hold 488).ramp = some 0 ∧ (go hold 488).tRa = 0 ∧ (go { hold with releaseRun := 18 } 488).releaseRun = 19 ∧
    (go hold 480).releaseRun = 0 ∧ (go { Bbl.reset with ramp := some 100 } 488).tRa = 110 ∧
    (go { Bbl.reset with ramp := some 1990 } 488).ramp = none := by decide +kernel
theorem test_witness_friction_counted :
    let s : State := { braking with bbl := { Bbl.reset with force1 := 10000, remainder1 := 3599999, friction3 := 1 } }
    ((after .blendFrame s).counter w0).value = 1 ∧ (after .blendFrame s).bbl.remainder1 = 2709999 ∧
    (after .blendFrame s).bbl.remainder3 = 271 := by decide +kernel

/-- A machine whose ENERGY report in cell 20 is held as the report in cell 21 goes out, with ENERGY's hold word given. -/
def reporting (hold : Word) : State :=
  vcWrites [{ addr := 0x29, value := hold }]
    (setReportRow 2 { State.reset.reportRow 2 with published := some 21, held := some 20 } State.reset)

theorem test_witness_held_cell_in_a_sweep :
    ((after (.intakeSweep [] []) (reporting 20)).reportRow 2).held = some 20 ∧
    ((after (.intakeSweep [] []) (reporting 21)).reportRow 2).held = none ∧
    (after (.intakeSweep [] []) (reporting 21)).port.cellState 20 = cellSpare ∧
    (∀ c : OrderChannel, (reporting 21).port.wordAt (dirAddr c.number 1) = 0xFFFF) :=
  ⟨by decide +kernel, by decide +kernel, by decide +kernel, fun c => by cases c <;> decide +kernel⟩
theorem test_witness_outgoing_report :
    ((fill [] .energy 22 (reporting 21)).reportRow 2).held = some 21 ∧
    (fill [] .energy 22 (reporting 21)).port.cellState 21 = cellHeld ∧
    (fill [] .energy 22 (reporting 21)).port.cellState 20 = cellSpare ∧
    ((fill [] .energy 22 (reporting 20)).reportRow 2).held = some 20 ∧
    (fill [] .energy 22 (reporting 20)).port.cellState 21 = cellSpare ∧ (reporting 20).exc.names 22 = false := by
  decide +kernel
theorem test_witness_map_and_rebase :
    let s : State := { State.reset with ena := { Ena.reset with restTimer := 30 } }
    isTaken (checkEngineMap [2, 600, 0, 1500, 2400, 1500, 1500] s) = true ∧
    checkEngineMap [2, 600, 0, 1500, 600, 1500, 1500] s = .refused .range ∧
    checkEngineMap [2, 599, 0, 1500, 2400, 1500, 1500] s = .refused .range ∧
    checkEngineMap [2, 600, 0, 1501, 2400, 1500, 1500] s = .refused .range ∧
    isTaken (checkCompensation [500, 20000, 1, 10000] s) = true ∧
    checkCompensation [500, 20000, 1, 10001] s = .refused .range ∧
    checkCompensation [501, 20000, 1, 10000] s = .refused .range ∧ checkCompensation [0, 0, 2, 0] s = .refused .range := by
  decide +kernel
theorem test_witness_mode_in_every_state :
    let off : List Word := [0, 0, 5500, 0, 0]
    let on : List Word := [1, 0, 5500, 0, 0]
    let state (p : List Word) (s : State) : DrivelineState :=
      match checkMode p s with
      | .refused _ => .standby
      | .taken _ t => t.dsv.state
    state off (drivenIn .safeStop 10) = .safeStop ∧ state on (drivenIn .powerDown 0) = .powerDown ∧
    state on driving = .drive ∧ state off driving = .safeStop ∧ state off (drivenIn .ready 0) = .powerDown ∧
    state off (drivenIn .faulted 0) = .standby ∧ state on (drivenIn .faulted 0) = .faulted ∧
    (match checkMode off { driving with cpl := { Cpl.reset with engine := .lockedOut, crankCount := 3 } } with
      | .refused _ => false
      | .taken _ t => decide (t.cpl.engine = .off ∧ t.cpl.crankCount = 0)) = true := by decide +kernel

/-- The driving machine at 1500 rpm, coupled, with the two map points of the worked case (section 4.4). -/
def hybridAt (soc pDis pChg accelerator : Nat) : State :=
  { driving with
    sns := { driving.sns with shaftSpeed := 1500 }, cpl := { Cpl.reset with engine := .running, coupling := .coupled },
    ena := { Ena.reset with charge := soc * 216000, pDis := pDis, pChg := pChg },
    spl := { driving.spl with
      mapPoints := [⟨1200, 600, 1100⟩, ⟨1800, 800, 1300⟩], mapValid := true, shortfallRun := 254,
      demand := { driving.spl.demand with accelerator := accelerator } } }

theorem test_witness_split_shares :
    let f (s : State) : SplitMode × Int × Int × Nat :=
      let q := (after .splitFrame s).spl
      (q.mode, q.propulsionRequest, q.engineRequest, q.shortfall)
    let s := hybridAt 5200 1512 1600 1000
    let with_ (d : Direction) : State := { s with spl := { s.spl with demand := { s.spl.demand with direction := d } } }
    f (hybridAt 5200 2560 1600 600) = (.hybrid, 385, 760, 0) ∧ f s = (.hybrid, 885, 1024, 0) ∧
    f (hybridAt 5200 2560 100 0) = (.hybrid, -69, 69, 0) ∧
    f { s with cpl := Cpl.reset } = (.electric, 885, 0, 1024) ∧
    (after .splitFrame { s with cpl := Cpl.reset }).spl.shortfallRun = 255 ∧
    f (with_ .reverse) = (.electric, -572, 0, 0) ∧ f (with_ .neutral) = (.electric, 0, 0, 0) := by decide +kernel
theorem test_witness_map_ends :
    let points : List MapPoint := [⟨1200, 600, 1100⟩, ⟨1800, 800, 1300⟩]
    mapLookup points 1200 = (600, 1100) ∧ mapLookup points 1201 = (600, 1100) ∧ mapLookup points 1799 = (799, 1299) ∧
    mapLookup points 1800 = (800, 1300) := by decide

theorem test_witness_road_speed_is_tested :
    let lost : State := { State.reset with
      sns := { Sns.reset with driveLink := { up := false, seen := true, monitor := none } },
      faults := { FaultTable.empty with
        records := putAt FaultTable.empty.records FaultKind.inverterLinkLost.number
          { state := .active, count := 1, first := some 0, last := some 0 } },
      dsv := { Dsv.reset with mode := { Dsv.reset.mode with keyOn := true } } }
    let neutral (d : DrivelineState) : State := { drivenIn d 271 with spl := { driving.spl with demand := Spl.reset.demand } }
    let status (n : Int) : Instr := .inverterStatus true n 6000 2400 2400
    (after (status 44) (drivenIn .safeStop 271)).dsv.state = .powerDown ∧
    (after (status 45) (drivenIn .safeStop 271)).dsv.state = .safeStop ∧
    (after (status 44) (neutral .drive)).dsv.state = .ready ∧ (after (status 45) (neutral .drive)).dsv.state = .drive ∧
    (lost.sns.driveLink.up = false ∧ lost.sns.driveLink.seen = true ∧ lost.faults.isActive .inverterLinkLost = true) ∧
    ((after (status 0) lost).faults.record .inverterLinkLost).state = .latched ∧
    (after (status 0) lost).dsv.state = .precharge := by decide +kernel
theorem test_witness_demand_moves_ready_and_drive :
    let state (d : Word) (s : State) : DrivelineState :=
      match checkDemand [0, 0, d, 0, 18000] 0 s with
      | .refused _ => .faulted
      | .taken _ t => t.dsv.state
    let limp : State := { drivenIn .ready 0 with faults := limpFaults }
    state 1 (drivenIn .ready 0) = .drive ∧ state 1 limp = .limp ∧ state 0 (drivenIn .ready 0) = .ready ∧
    state 0 (drivenIn .drive 9) = .ready ∧ state 0 (drivenIn .drive 10) = .drive := by decide +kernel
theorem test_witness_slip_energy :
    let s (speed : Nat) : State :=
      { driving with
        cpl := { Cpl.reset with engine := .running, coupling := .coupled, position := 1000, slipRemainder := 954929 },
        sns := { driving.sns with engineSpeed := speed, engineTorque := -100 } }
    ((after .cplFrame (s 1179)).counter w3).value = 1 ∧ (after .cplFrame (s 1179)).cpl.slipRemainder = 2099 ∧
    (after .cplFrame (s 1180)).cpl.slipRemainder = 954929 := by decide +kernel
theorem test_witness_edge_moves_the_sensor_flags :
    let slow : Wheel := { Wheel.reset with previous := 10, havePrevious := true }
    let fast : Wheel := { slow with speed := 101, valid := true }
    let s (a1r a3l : Wheel) : State :=
      { State.reset with sns := { Sns.reset with wheels := putAt (putAt (putAt Sns.reset.wheels 0 slow) 1 a1r) 4 a3l } }
    let flagged : State := setRecord .wheelSensor { FaultRecord.empty with state := .active }
      { State.reset with sns := { Sns.reset with wheels := putAt Sns.reset.wheels 0 { slow with sensorFault := true } } }
    let found := after (.wheelEdge .a1l 3010) (s fast { Wheel.reset with silent := true })
    (found.sns.wheel 4).sensorFault = true ∧ found.faults.isActive .wheelSensor = true ∧
    (after (.wheelEdge .a1l 3010) (s slow { Wheel.reset with silent := true })).faults = State.reset.faults ∧
    ((after (.wheelEdge .a1l 3010) flagged).faults.record .wheelSensor).state = .latched := by decide +kernel
theorem test_witness_limits_take :
    let hot (d : DrivelineState) : State :=
      { drivenIn d 0 with
        faults := State.reset.faults, ena := { Ena.reset with maxTemp := 60 },
        dsv := { (drivenIn d 0).dsv with mode := { Dsv.reset.mode with socTarget := 7501 } } }
    let took (s : State) : DrivelineState × Nat :=
      match checkLimits defaultLimits s with
      | .refused _ => (.faulted, 0)
      | .taken _ t => (t.dsv.state, t.dsv.mode.socTarget)
    took (hot .ready) = (.powerDown, 7500) ∧ took { hot .ready with ena := { Ena.reset with maxTemp := 59 } } = (.drive, 7500) ∧
    checkLimits (defaultLimits.set 4 4) (hot .ready) = .refused .range ∧
    checkLimits (defaultLimits.set 8 301) (hot .ready) = .refused .range ∧
    isTaken (checkLimits ((defaultLimits.set 15 4000).set 16 6000) (hot .ready)) = true ∧
    checkLimits ((defaultLimits.set 15 4000).set 16 5999) (hot .ready) = .refused .range := by decide +kernel
theorem test_witness_acceptance_edges :
    let table (e : Word) : List Word := [0xFFD8, 10, 35, e, 0, 5000, 10000] ++ List.replicate 40 800
    isTaken (checkAcceptance (table 125) State.reset) = true ∧
    checkAcceptance (table 126) State.reset = .refused .range ∧ checkAcceptance (table 35) State.reset = .refused .range := by
  decide +kernel
theorem test_witness_opening_is_logged :
    let s : State := poweringDown (.fault .demandLost) Link.reset
    let cold : State := { poweringDown .keyOff upLink with ena := { Ena.reset with current := 500 } }
    (after .powerDownTimerExpiry s).log.occupancy = s.log.occupancy + 2 ∧
    (after .powerDownTimerExpiry cold).log = cold.log ∧
    (after (.linkMonitorExpiry .drive) driving).log.occupancy = driving.log.occupancy + 1 := by decide +kernel

/-- MODE with key ON in cell 3 and LIMITS in cell 70, both pending. -/
def modeAndLimits : List VcWrite :=
  [{ addr := 0x92, value := 1 }, { addr := 0x93, value := 1 }, { addr := 0x95, value := 5 }, { addr := 0x96, value := 0 },
    { addr := 0x224, value := 2 }, { addr := 0x225, value := 1 }, { addr := 0x227, value := 25 }, { addr := 0x228, value := 0 },
    { addr := 0x6C0, value := 1 }, { addr := 0x6C1, value := 0 }, { addr := 0x6C2, value := 5500 }, { addr := 0x6C3, value := 0 },
    { addr := 0x6C4, value := 0 },
    { addr := 5, value := 3 }, { addr := 9, value := 70 }]

theorem test_witness_two_orders_and_a_bad_index :
    let t := after (.intakeSweep modeAndLimits []) State.reset
    let s0 := vcWrites modeAndLimits State.reset
    let b := after (.intakeSweep [{ addr := 9, value := 96 }] []) State.reset
    t.dsv.state = .precharge ∧ (t.orderRow .mode).current = some 3 ∧ (t.orderRow .limits).lastCode = .state ∧
    (s0.port.wordAt (dirAddr 1 1) = indexWord (some 3) ∧ s0.port.wordAt (dirAddr 2 1) = indexWord (some 70) ∧
      blockInside 3 (s0.port.offsetOf 3) = true ∧ blockInside 70 (s0.port.offsetOf 70) = true) ∧
    (b.orderRow .limits).lastCode = .badCell ∧ (b.orderRow .limits).result.cell = 255 := by decide +kernel
theorem test_witness_standing_warnings :
    let w (r : WearRecord) : WearRecord := { r with value := 9, advise := 5, warned := .advise, stampSeconds := 7 }
    let s := setCounter w8 (w WearRecord.reset) (setCounter w7 { w WearRecord.reset with urgent := 10 } State.reset)
    let open_ : State := { s with dsv := { s.dsv with posFlag := true } }
    MemoryInv open_ ∧ (after .pinReset s).log.occupancy = 2 ∧ (after .pinReset open_).log.occupancy = 3 ∧
    (after .pinReset open_).port.wordAt (slotAddr 1 + 2) = natWord LogKind.wearUrgent.number ∧
    (after .pinReset open_).port.wordAt (slotAddr 2 + 6) = 8 ∧
    (after .pinReset open_).port.wordAt (slotAddr 2 + 20) = 7 := by unfold MemoryInv; decide +kernel

theorem test_witness_pending_word_overwritten :
    let orders := modeAndLimits.dropLast
    let t (m : Moment) (w : VcWrite) : State :=
      after (.intakeSweep orders [{ channel := 1, moment := m, write := w }]) State.reset
    ((vcWrites orders State.reset).port.wordAt (dirAddr 1 1) = 3 ∧
      (vcWrites orders State.reset).port.wordAt (dirAddr 2 1) = 0xFFFF) ∧
    (t .early { addr := 5, value := 70 }).port.wordAt (dirAddr 1 1) = 70 ∧
    ((t .early { addr := 5, value := 70 }).orderRow .mode).current = some 3 ∧
    (t .end_ { addr := 5, value := 3 }).port.wordAt (dirAddr 1 1) = 0xFFFF ∧
    (t .mid { addr := 1, value := 70 }).port.wordAt (dirAddr 0 1) = 70 ∧
    ((t .mid { addr := 1, value := 70 }).orderRow .demand) = State.reset.orderRow .demand ∧
    ((t .mid { addr := 9, value := 70 }).orderRow .limits).lastCode = .state ∧
    (t .mid { addr := 9, value := 70 }).port.wordAt (dirAddr 2 1) = 0xFFFF := by decide +kernel
theorem test_witness_old_demand_in_neutral :
    let s (road age : Nat) : State :=
      { drivenIn .drive road with spl := { driving.spl with demandAge := age, demand := Spl.reset.demand } }
    (s 10 5).spl.demand.direction = .neutral ∧ (after .splitFrame (s 10 5)).faults.isActive .demandStale = true ∧
    (after .splitFrame (s 10 100)).dsv.state = .safeStop ∧ (after .splitFrame (s 9 100)).dsv.state = .powerDown := by
  decide +kernel
theorem test_witness_axle_speeds :
    let x (speed : Nat) (valid : Bool) : Wheel := { Wheel.reset with speed := speed, valid := valid }
    (vRefOf (x 499 true) (x 498 true)).speed = 499 ∧ (vRefOf (x 499 false) (x 498 true)).speed = 498 ∧
    (vRefOf (x 499 true) (x 500 false)).speed = 499 ∧ (vRefOf (x 1 false) (x 1 false)) = { speed := 0, valid := false } ∧
    (v3Of (x 489 true) (x 488 true)).speed = 488 ∧ (v3Of (x 489 false) (x 488 true)).speed = 488 ∧
    (v3Of (x 489 true) (x 488 false)).speed = 489 ∧ (v3Of (x 1 false) (x 1 false)) = { speed := 0, valid := false } := by decide
theorem test_witness_attention_of_expiries :
    let cooling : State := { withDsv { Dsv.reset with cooldownTimer := some 1 } with faults := FaultTable.empty }
    let keyed : State := { cooling with dsv := { cooling.dsv with mode := { Dsv.reset.mode with keyOn := true } } }
    let stopping : State := { drivenIn .safeStop 100 with dsv := { (drivenIn .safeStop 100).dsv with safeStopTimer := some 1 } }
    (after .cooldownTimerExpiry keyed).port.attn = keyed.port.attn ||| Cause.stateChange.bit ∧
    (after .cooldownTimerExpiry keyed).port.attn ≠ keyed.port.attn ∧ (after .cooldownTimerExpiry cooling).dsv.state = .standby ∧
    (after .safeStopTimerExpiry stopping).port.attn = stopping.port.attn ||| Cause.stateChange.bit ∧
    (after .safeStopTimerExpiry stopping).dsv.powerDownTimer = some 500 := by decide +kernel

/-- Short cells 22 and 23 lent to FAULTS, 22 with its block outside the data area. -/
def lentToFaults : State :=
  vcWrites
    [{ addr := 0x104, value := 12 }, { addr := 0x105, value := 4 }, { addr := 0x108, value := 6449 },
      { addr := 0x10A, value := 12 }, { addr := 0x10B, value := 4 }, { addr := 0x10E, value := 6448 }] State.reset

theorem test_witness_publication_chooses :
    let t := publish [] .faults lentToFaults
    (candidate .faults lentToFaults.port lentToFaults.exc 22 = true ∧
      candidate .faults lentToFaults.port lentToFaults.exc 23 = true) ∧
    blockInside 22 (lentToFaults.port.offsetOf 22) = false ∧ (t.reportRow 4).published = some 23 ∧
    t.port.wordAt (headerAddr 22 1) = packBytes cellFree OutcomeCode.badCell.code ∧
    t.port.wordsAt (dataAddr 6448) 13 = [0x0201, 0x2100, 0, 0, 0, 0, 0, 1, 0, 0x0100, 8, 0, 0] ∧
    t.faults.cursor = 16 ∧ (publish [] .faults t).faults.cursor = 16 ∧ (fill [] .faults 23 t).faults.cursor = 17 ∧
    (fill [] .energy 23 lentToFaults).faults.cursor = 27 := by decide +kernel
theorem test_witness_report_fields :
    let s : State := { driving with
      bbl := { Bbl.reset with force := 123459, slipFormed := false, slip := 7 },
      cpl := { Cpl.reset with engine := .running, coupling := .closing, sync := .locked },
      sns := { driving.sns with
        absActive := true, wheels := putAt driving.sns.wheels 2 { Wheel.reset with speed := 5, sensorFault := true } } }
    let word (c : ReportChannel) (i : Nat) : Word := (c.payload s).getD i 0
    word .brakeState 1 = 12345 ∧ word .brakeState 11 = 0 ∧ word .brakeState 12 = 65535 ∧ word .engineClutch 1 = 2 ∧
    word .engineClutch 2 = 0 ∧ word .sensing 2 = 0 ∧ (word .sensing 8).getLsbD 9 = true ∧
    (word .sensing 9).getLsbD 10 = true ∧ word .driveState 23 = 0xFFFF ∧ word .energy 0 = natWord s.ena.soc ∧
    word .orderResult 0 = 255 := by decide +kernel

end Sys2Proof.Tests
end

section
/-! PROOF. DSV's records after each of its operations, and the contactor rules of R2, which every step keeps. -/

namespace Sys2Proof.Machine

open Sys2Proof

/-! ## DSV's records after an operation -/

@[simp] theorem openPos_dsv (s : State) :
    (openPos s).dsv =
      { s.dsv with posClosed := false, posFlag := !s.dsv.posClosed && s.dsv.posFlag } := by
  unfold openPos
  split
  case isTrue h => simp [h]
  case isFalse h =>
    have hpos : s.dsv.posClosed = false := Bool.eq_false_iff.2 h
    generalize s.dsv = d at hpos
    cases d
    simp_all

@[simp] theorem openAll_dsv (s : State) :
    (openAll s).dsv =
      { s.dsv with
        posClosed := false, posFlag := !s.dsv.posClosed && s.dsv.posFlag, preClosed := false,
        negClosed := false } := by
  simp [openAll]

@[simp] theorem enterStandby_dsv (s : State) :
    (enterStandby s).dsv = { s.dsv with state := .standby, stopCause := .none } := rfl

@[simp] theorem enterPrecharge_dsv (s : State) :
    (enterPrecharge s).dsv =
      { s.dsv with
        state := .precharge, negClosed := true, preClosed := true, prechargeTimer := some 3000,
        inverterSincePrecharge := false } := rfl

@[simp] theorem enterSafeStop_dsv (s : State) :
    (enterSafeStop s).dsv = { s.dsv with state := .safeStop, safeStopTimer := some 30000 } := rfl

@[simp] theorem enterPowerDown_dsv (s : State) :
    (enterPowerDown s).dsv =
      { s.dsv with state := .powerDown, safeStopTimer := none, powerDownTimer := some 500 } := rfl

@[simp] theorem closeWindow_dsv (s : State) :
    (closeWindow s).dsv = { s.dsv with keepStoreValid := s.dsv.keepStoreValid || s.wear.windowOpen } := by
  unfold closeWindow
  split
  case isTrue h => simp [h]
  case isFalse h => simp [Bool.eq_false_iff.2 h]

@[simp] theorem enterDrive_dsv (s : State) :
    (enterDrive s).dsv =
      { s.dsv with state := .drive, keepStoreValid := s.dsv.keepStoreValid || s.wear.windowOpen } := by
  simp [enterDrive]

@[simp] theorem stopTimers_dsv (s : State) :
    (stopTimers s).dsv =
      { s.dsv with
        prechargeTimer := none, settleTimer := none, cooldownTimer := none, powerDownTimer := none,
        safeStopTimer := none } := rfl

@[simp] theorem abortPrecharge_dsv (s : State) :
    (abortPrecharge s).dsv =
      { s.dsv with
        state := .standby, stopCause := .none, prechargeTimer := none, settleTimer := none, posClosed := false,
        posFlag := !s.dsv.posClosed && s.dsv.posFlag, preClosed := false, negClosed := false } := by
  simp [abortPrecharge]

@[simp] theorem shutdown_dsv (k : FaultKind) (s : State) :
    (shutdown k s).dsv =
      { s.dsv with
        state := .faulted, stopCause := .fault k, prechargeTimer := none, settleTimer := none, cooldownTimer := none,
        powerDownTimer := none, safeStopTimer := none, posClosed := false,
        posFlag := !s.dsv.posClosed && s.dsv.posFlag, preClosed := false, negClosed := false } := by
  simp [shutdown]

@[simp] theorem countSlip_dsv (s : State) : (countSlip s).dsv = s.dsv := by
  unfold countSlip; split <;> simp

@[simp] theorem stallTest_dsv (s : State) : (stallTest s).dsv = s.dsv := by
  unfold stallTest; split <;> simp

@[simp] theorem cplFrameWant_dsv (s : State) : (cplFrameWant s).dsv = s.dsv := by
  simp [cplFrameWant]

@[simp] theorem stepSyncing_dsv (s : State) : (stepSyncing s).dsv = s.dsv := by
  unfold stepSyncing; dsimp only; split <;> (try split) <;> (try split) <;> simp

@[simp] theorem stepClosing_dsv (s : State) : (stepClosing s).dsv = s.dsv := by
  unfold stepClosing; dsimp only; split <;> (try split) <;> simp

@[simp] theorem moveCoupling_dsv (s : State) : (moveCoupling s).dsv = s.dsv := by
  unfold moveCoupling; split <;> (try split) <;> simp

@[simp] theorem stepOff_dsv (s : State) : (stepOff s).dsv = s.dsv := by
  unfold stepOff; dsimp only; split <;> simp

@[simp] theorem stepStopping_dsv (s : State) : (stepStopping s).dsv = s.dsv := by
  unfold stepStopping; dsimp only; split <;> simp

@[simp] theorem askClutchReport_dsv (c : Cpl) (s : State) : (askClutchReport c s).dsv = s.dsv := by
  unfold askClutchReport; split <;> simp

@[simp] theorem cplSecond_dsv (s : State) : (cplSecond s).dsv = s.dsv := by
  unfold cplSecond; split <;> simp

@[simp] theorem countFriction_dsv (s : State) : (countFriction s).dsv = s.dsv := by
  unfold countFriction countFriction1 countFriction2 countFriction3; dsimp only; split <;> simp

@[simp] theorem slipEntry_dsv (s : State) : (slipEntry s).dsv = s.dsv := by
  unfold slipEntry; split <;> (try split) <;> simp

@[simp] theorem superviseSlip_dsv (s : State) : (superviseSlip s).dsv = s.dsv := by
  unfold superviseSlip; dsimp only; split <;> simp

@[simp] theorem blendFrame_dsv (s : State) : (blendFrame s).dsv = s.dsv := by
  simp [blendFrame]

@[simp] theorem issueTorque_dsv (q : Tqa) (s : State) : (issueTorque q s).dsv = s.dsv := rfl

@[simp] theorem outputStep_dsv (b : Bool) (s : State) : (outputStep b s).dsv = s.dsv := by
  cases b
  · exact issueTorque_dsv _ s
  · exact (issueTorque_dsv _ _).trans (blendFrame_dsv s)

@[simp] theorem addThroughput_dsv (n : Nat) (s : State) : (addThroughput n s).dsv = s.dsv := by
  unfold addThroughput
  dsimp only
  split
  · split
    · rw [wearIncrement_dsv, withEna_dsv]
    · rw [withEna_dsv]
  · split
    · split
      · rw [wearIncrement_dsv, withEna_dsv]
      · rw [withEna_dsv]
    · rfl

@[simp] theorem accountSample_dsv (k : SampleKind) (s : State) : (accountSample k s).dsv = s.dsv := by
  cases k <;> simp [accountSample]

@[simp] theorem enaSecond_dsv (s : State) : (enaSecond s).dsv = s.dsv := by
  unfold enaSecond; dsimp only; split <;> simp

@[simp] theorem logTake_dsv (s : State) : (logTake s).dsv = s.dsv := by
  unfold logTake; dsimp only; split <;> rfl

/-! ## Composition -/

/-- What every event but DSV's own second timer keeps of DSV's records on the way from s to t: the contactor rules of R2, and
the operating seconds. -/
structure DsvKept (s t : State) : Prop where
  contactor : ContactorInv s → ContactorInv t
  seconds : t.dsv.operatingSeconds = s.dsv.operatingSeconds

theorem DsvKept.refl (s : State) : DsvKept s s := ⟨id, rfl⟩

theorem DsvKept.trans {s t u : State} (h : DsvKept s t) (k : DsvKept t u) : DsvKept s u :=
  ⟨k.contactor ∘ h.contactor, k.seconds.trans h.seconds⟩

/-- The same, the later operation first. -/
theorem DsvKept.after {s t u : State} (k : DsvKept t u) (h : DsvKept s t) : DsvKept s u := h.trans k

theorem DsvKept.ite {s t u : State} {p : Prop} [Decidable p] (h : p → DsvKept s t) (k : ¬p → DsvKept s u) :
    DsvKept s (if p then t else u) := by
  split
  · exact h ‹_›
  · exact k ‹_›

/-- The contactor rules speak of the state, the timers, PRE and POS only. -/
theorem ContactorInv.of_same {s t : State} (h : ContactorInv s) (hstate : t.dsv.state = s.dsv.state)
    (hpos : t.dsv.posClosed = s.dsv.posClosed) (hpre : t.dsv.preClosed = s.dsv.preClosed)
    (hprecharge : t.dsv.prechargeTimer = s.dsv.prechargeTimer) (hsettle : t.dsv.settleTimer = s.dsv.settleTimer)
    (hpower : t.dsv.powerDownTimer = s.dsv.powerDownTimer) (hsafe : t.dsv.safeStopTimer = s.dsv.safeStopTimer)
    (hcool : t.dsv.cooldownTimer = s.dsv.cooldownTimer) : ContactorInv t := by
  unfold ContactorInv at h ⊢
  rw [hstate, hpos, hpre, hprecharge, hsettle, hpower, hsafe, hcool]
  exact h

theorem DsvKept.of_same {s t : State} (hstate : t.dsv.state = s.dsv.state)
    (hpos : t.dsv.posClosed = s.dsv.posClosed) (hpre : t.dsv.preClosed = s.dsv.preClosed)
    (hprecharge : t.dsv.prechargeTimer = s.dsv.prechargeTimer) (hsettle : t.dsv.settleTimer = s.dsv.settleTimer)
    (hpower : t.dsv.powerDownTimer = s.dsv.powerDownTimer) (hsafe : t.dsv.safeStopTimer = s.dsv.safeStopTimer)
    (hcool : t.dsv.cooldownTimer = s.dsv.cooldownTimer) (hseconds : t.dsv.operatingSeconds = s.dsv.operatingSeconds) :
    DsvKept s t :=
  ⟨fun h => h.of_same hstate hpos hpre hprecharge hsettle hpower hsafe hcool, hseconds⟩

theorem DsvKept.of_dsv {s t : State} (h : t.dsv = s.dsv) : DsvKept s t := by
  apply DsvKept.of_same <;> rw [h]

/-! ## DSV's transitions -/

theorem dsvTest_contactor {s : State} (h : ContactorInv s) : ContactorInv (dsvTest s) := by
  have hs := h
  obtain ⟨hopen, hboth, hprecharge, hsettle, hpower, hsafe, hcool⟩ := hs
  unfold dsvTest
  cases hst : s.dsv.state <;> dsimp only
  case standby => split <;> simp_all [ContactorInv]
  case precharge => exact h
  case ready => split <;> (try split) <;> (try split) <;> simp_all [ContactorInv]
  case drive => split <;> (try split) <;> simp_all [ContactorInv]
  case limp => split <;> simp_all [ContactorInv]
  case safeStop => split <;> simp_all [ContactorInv]
  case powerDown => exact h
  case faulted => exact h

theorem dsvTest_seconds (s : State) : (dsvTest s).dsv.operatingSeconds = s.dsv.operatingSeconds := by
  unfold dsvTest
  cases s.dsv.state <;> dsimp only <;> (try split) <;> (try split) <;> (try split) <;> simp

theorem dsvTest_dsvKept (s : State) : DsvKept s (dsvTest s) := ⟨dsvTest_contactor, dsvTest_seconds s⟩

theorem dsvSettle_dsvKept (s : State) : DsvKept s (dsvSettle s) :=
  (dsvTest_dsvKept s).trans (dsvTest_dsvKept _)

theorem abortPrecharge_dsvKept {s : State} (hs : s.dsv.state = .precharge) : DsvKept s (abortPrecharge s) := by
  refine ⟨?_, by simp⟩
  rintro ⟨hopen, hboth, hprecharge, hsettle, hpower, hsafe, hcool⟩
  simp_all [ContactorInv]

theorem enterPowerDown_dsvKept {s : State} (hs : s.dsv.state = .ready) : DsvKept s (enterPowerDown s) := by
  refine ⟨?_, by simp⟩
  rintro ⟨hopen, hboth, hprecharge, hsettle, hpower, hsafe, hcool⟩
  simp_all [ContactorInv]

theorem enterSafeStop_dsvKept {s : State} (hs : s.dsv.state = .drive ∨ s.dsv.state = .limp) :
    DsvKept s (enterSafeStop s) := by
  refine ⟨?_, by simp⟩
  rintro ⟨hopen, hboth, hprecharge, hsettle, hpower, hsafe, hcool⟩
  rcases hs with hs | hs <;> simp_all [ContactorInv]

theorem setStopCause_dsvKept (c : StopCause) (s : State) : DsvKept s (setStopCause c s) :=
  .of_same rfl rfl rfl rfl rfl rfl rfl rfl rfl

theorem logNow_dsvKept (k : LogKind) (c : Option Counter) (v : Option Int) (s : State) :
    DsvKept s (logNow k c v s) := .of_dsv rfl

/-- A shutdown opens every contactor and stops every timer, whatever stood before (R12). -/
theorem shutdown_dsvKept (k : FaultKind) (s : State) : DsvKept s (shutdown k s) :=
  ⟨fun _ => by simp [ContactorInv], by simp⟩

theorem safeStopReaction_dsvKept (k : FaultKind) (b : Bool) (s : State) :
    DsvKept s (safeStopReaction k b s) := by
  unfold safeStopReaction
  cases hst : s.dsv.state <;> dsimp only
  case standby => exact .refl s
  case precharge => exact .ite (fun _ => abortPrecharge_dsvKept hst) fun _ => .refl s
  case ready =>
    exact .ite (fun _ => (setStopCause_dsvKept _ s).trans (enterPowerDown_dsvKept hst)) fun _ => .refl s
  case drive =>
    exact .ite (fun _ => ((setStopCause_dsvKept _ s).trans (logNow_dsvKept _ _ _ _)).trans
      (enterSafeStop_dsvKept (.inl hst))) fun _ => .refl s
  case limp =>
    exact .ite (fun _ => ((setStopCause_dsvKept _ s).trans (logNow_dsvKept _ _ _ _)).trans
      (enterSafeStop_dsvKept (.inr hst))) fun _ => .refl s
  case safeStop =>
    exact .ite (fun _ => (setStopCause_dsvKept _ s).trans (logNow_dsvKept _ _ _ _)) fun _ => .refl s
  case powerDown => exact .ite (fun _ => setStopCause_dsvKept _ s) fun _ => .refl s
  case faulted => exact .refl s

theorem shutdownReaction_dsvKept (k : FaultKind) (b : Bool) (s : State) :
    DsvKept s (shutdownReaction k b s) := by
  have h : DsvKept s (if b = true then shutdown k s else s) :=
    .ite (fun _ => shutdown_dsvKept k s) fun _ => .refl s
  unfold shutdownReaction
  cases s.dsv.state
  case standby => exact .refl s
  case faulted => exact .refl s
  all_goals exact h

theorem dsvOnRaise_dsvKept (k : FaultKind) (b : Bool) (s : State) : DsvKept s (dsvOnRaise k b s) := by
  refine (dsvSettle_dsvKept _).after ?_
  cases k.reactionClass
  case shutdown => exact shutdownReaction_dsvKept k b s
  case safeStop => exact safeStopReaction_dsvKept k b s
  all_goals exact .refl s

theorem raiseFault_dsvKept (k : FaultKind) (s : State) : DsvKept s (raiseFault k s) :=
  (dsvOnRaise_dsvKept k _ _).after (.of_dsv rfl)

theorem clearFault_dsvKept (k : FaultKind) (s : State) : DsvKept s (clearFault k s) :=
  .ite (fun _ => (dsvSettle_dsvKept _).after (.of_dsv rfl)) fun _ => .refl s

theorem dsvKey_dsvKept (s : State) : DsvKept s (dsvKey s) := by
  refine (dsvSettle_dsvKept _).after (.ite (fun _ => .refl s) fun _ => ?_)
  cases hst : s.dsv.state <;> dsimp only
  case precharge => exact abortPrecharge_dsvKept hst
  case ready => exact (setStopCause_dsvKept _ s).trans (enterPowerDown_dsvKept hst)
  case drive => exact (setStopCause_dsvKept _ s).trans (enterSafeStop_dsvKept (.inl hst))
  case limp => exact (setStopCause_dsvKept _ s).trans (enterSafeStop_dsvKept (.inr hst))
  case faulted =>
    refine .ite (fun _ => ⟨?_, by simp⟩) fun _ => .refl s
    rintro ⟨hopen, hboth, hprecharge, hsettle, hpower, hsafe, hcool⟩
    simp_all [ContactorInv]
  all_goals exact .refl s

theorem voltageTest_dsvKept (s : State) : DsvKept s (voltageTest s) := by
  unfold voltageTest
  refine .ite (fun hc => ?_) fun _ => .refl s
  refine ⟨?_, by simp⟩
  rintro ⟨hopen, hboth, hprecharge, hsettle, hpower, hsafe, hcool⟩
  obtain ⟨hst, -, -⟩ := hprecharge (Bool.and_eq_true _ _ ▸ hc).1
  simp_all [ContactorInv]

theorem completePowerDown_seconds (s : State) :
    (completePowerDown s).dsv.operatingSeconds = s.dsv.operatingSeconds := by
  refine (dsvSettle_dsvKept _).seconds.trans ?_
  dsimp only
  split <;> simp

/-- POWER_DOWN ends with POS OPEN, in STANDBY or FAULTED (R11); only POWER_DOWN's own timer ran there. -/
theorem completePowerDown_contactor {s : State} (hs : s.dsv.state = .powerDown) (h : ContactorInv s) :
    ContactorInv (completePowerDown s) := by
  refine (dsvSettle_dsvKept _).contactor ?_
  obtain ⟨hopen, hboth, hprecharge, hsettle, hpower, hsafe, hcool⟩ := h
  dsimp only
  split <;> simp_all [ContactorInv]

/-! ## The events of DSV, SNS and ENA -/

theorem prechargeExpiry_dsvKept (s : State) : DsvKept s (prechargeExpiry s) := by
  unfold prechargeExpiry
  refine .ite (fun ht => (dsvSettle_dsvKept _).after ?_) fun _ => .refl s
  refine ⟨?_, by simp⟩
  rintro ⟨hopen, hboth, hprecharge, hsettle, hpower, hsafe, hcool⟩
  obtain ⟨hst, -, -⟩ := hprecharge ht
  simp_all [ContactorInv]

theorem settleExpiry_dsvKept (s : State) : DsvKept s (settleExpiry s) := by
  unfold settleExpiry
  refine .ite (fun ht => (dsvSettle_dsvKept _).after ?_) fun _ => .refl s
  refine ⟨?_, by simp⟩
  rintro ⟨hopen, hboth, hprecharge, hsettle, hpower, hsafe, hcool⟩
  obtain ⟨hst, -⟩ := hsettle ht
  simp_all [ContactorInv]

theorem cooldownExpiry_dsvKept (s : State) : DsvKept s (cooldownExpiry s) := by
  unfold cooldownExpiry
  refine .ite (fun ht => (dsvSettle_dsvKept _).after ?_) fun _ => .refl s
  refine ⟨?_, by simp⟩
  rintro ⟨hopen, hboth, hprecharge, hsettle, hpower, hsafe, hcool⟩
  have hst := hcool ht
  simp_all [ContactorInv]

theorem powerDownExpiry_dsvKept (s : State) : DsvKept s (powerDownExpiry s) := by
  unfold powerDownExpiry
  refine .ite (fun ht => ⟨fun h => ?_, completePowerDown_seconds _⟩) fun _ => .refl s
  obtain ⟨hopen, hboth, hprecharge, hsettle, hpower, hsafe, hcool⟩ := h
  have hst := hpower ht
  refine completePowerDown_contactor hst ?_
  simp_all [ContactorInv]

theorem safeStopExpiry_dsvKept (s : State) : DsvKept s (safeStopExpiry s) := by
  unfold safeStopExpiry
  refine .ite (fun ht => (dsvSettle_dsvKept _).after ?_) fun _ => .refl s
  refine ⟨?_, by simp⟩
  rintro ⟨hopen, hboth, hprecharge, hsettle, hpower, hsafe, hcool⟩
  have hst := hsafe ht
  simp_all [ContactorInv]

theorem dsvSecond_contactor {s : State} (h : ContactorInv s) : ContactorInv (dsvSecond s) := by
  unfold dsvSecond
  split
  · exact h
  · exact h.of_same rfl rfl rfl rfl rfl rfl rfl rfl

theorem linkArrival_dsvKept (i : LinkId) (s : State) : DsvKept s (linkArrival i s) :=
  .ite (fun _ => (clearFault_dsvKept _ _).after (.of_dsv rfl)) fun _ => .of_dsv rfl

theorem monitorExpiry_dsvKept (i : LinkId) (s : State) : DsvKept s (monitorExpiry i s) := by
  unfold monitorExpiry
  refine .ite (fun _ => (raiseFault_dsvKept _ _).after ?_) fun _ => .refl s
  cases i <;> exact .of_dsv rfl

theorem noteInverterArrival_dsvKept (s : State) : DsvKept s (noteInverterArrival s) :=
  .ite (fun _ => .of_same rfl rfl rfl rfl rfl rfl rfl rfl rfl) fun _ => .refl s

theorem inverterArrival_dsvKept (a b c d : Int) (s : State) : DsvKept s (inverterArrival a b c d s) := by
  have h : DsvKept s (linkArrival .drive (noteInverterArrival s)) :=
    (noteInverterArrival_dsvKept s).trans (linkArrival_dsvKept .drive _)
  refine (dsvSettle_dsvKept _).after ((voltageTest_dsvKept _).after (h.trans ?_))
  exact .of_dsv rfl

theorem engineArrival_dsvKept (a b : Int) (r : Bool) (s : State) : DsvKept s (engineArrival a b r s) :=
  (linkArrival_dsvKept .engine s).trans (.of_dsv rfl)

theorem brakeArrival_dsvKept (a b : Bool) (s : State) : DsvKept s (brakeArrival a b s) :=
  (linkArrival_dsvKept .brake s).trans (.of_dsv rfl)

theorem sensorTest_dsvKept (w : Fin 6) (s : State) : DsvKept s (sensorTest w s) :=
  .ite (fun _ => (raiseFault_dsvKept _ _).after (.of_dsv rfl)) fun _ => .refl s

theorem sensorTests_dsvKept (ws : List (Fin 6)) (s : State) : DsvKept s (sensorTests ws s) := by
  induction ws generalizing s with
  | nil => exact .refl s
  | cons w ws ih => exact (sensorTest_dsvKept w s).trans (ih _)

theorem updateWheel_dsvKept (w : Fin 6) (x : Wheel) (s : State) : DsvKept s (updateWheel w x s) :=
  .ite (fun _ => .of_dsv rfl) fun _ => (sensorTests_dsvKept _ _).after (.of_dsv rfl)

theorem edge_dsvKept (w : Fin 6) (c : Word) (s : State) : DsvKept s (edge w c s) :=
  .ite (fun _ => (updateWheel_dsvKept w _ s).trans (clearFault_dsvKept _ _)) fun _ => updateWheel_dsvKept w _ s

theorem silenceExpiry_dsvKept (w : Fin 6) (s : State) : DsvKept s (silenceExpiry w s) :=
  .ite (fun _ => .refl s) fun _ => (sensorTest_dsvKept w _).after (.of_dsv rfl)

theorem overtempTest_dsvKept (s : State) : DsvKept s (overtempTest s) :=
  .ite (fun _ => .ite (fun _ => .refl s) fun _ => raiseFault_dsvKept _ s) fun _ =>
    .ite (fun _ => clearFault_dsvKept _ s) fun _ => .refl s

/-- The state in which an arrival that ENA takes in makes the comparison of R53: steps 1 to 4 of R39 are done. -/
def sampleAccounted (k : SampleKind) (s : State) : State :=
  (accountSample k (takeSample s)).withEna (restTest (accountSample k (takeSample s)).ena)

/-- An arrival that ENA takes in: the account, the comparison of R53, the limits and the last count (R39). -/
theorem enaSample_eq (k : SampleKind) (c : Byte) (s : State) :
    enaSample k c s =
      (recomputeLimits (overtempTest (sampleAccounted k s))).withEna
        { (recomputeLimits (overtempTest (sampleAccounted k s))).ena with lastCount := some c } := rfl

theorem enaSample_dsvKept (k : SampleKind) (c : Byte) (s : State) : DsvKept s (enaSample k c s) := by
  have h : DsvKept s (accountSample k (takeSample s)) := .of_dsv (accountSample_dsv k _)
  have hrest : DsvKept (accountSample k (takeSample s)) (sampleAccounted k s) := .of_dsv rfl
  have htest := (h.trans hrest).trans (overtempTest_dsvKept _)
  rw [enaSample_eq]
  exact htest.trans (.of_dsv rfl)

theorem powerDownTest_dsvKept (b : Bool) (s : State) : DsvKept s (powerDownTest b s) :=
  .ite (fun h => ⟨completePowerDown_contactor h.2.1, completePowerDown_seconds s⟩) fun _ => .refl s

theorem packArrival_dsvKept (c : Byte) (i v lo hi : Int) (n : Nat) (s : State) :
    DsvKept s (packArrival c i v lo hi n s) := by
  have h : DsvKept s (takePackFields c i v lo hi (linkArrival .pack s)) :=
    (linkArrival_dsvKept .pack s).trans (.of_dsv rfl)
  have hsample (k : SampleKind) (b : Bool) (u : State) :
      DsvKept u (dsvSettle (powerDownTest b (voltageTest (enaSample k c u)))) :=
    (dsvSettle_dsvKept _).after ((powerDownTest_dsvKept _ _).after
      ((voltageTest_dsvKept _).after (enaSample_dsvKept k c u)))
  unfold packArrival
  dsimp only
  split
  case h_1 => exact (dsvSettle_dsvKept _).after ((voltageTest_dsvKept _).after h)
  case h_2 => exact h.trans (hsample _ _ _)
  case h_3 => exact h.trans (hsample _ _ _)

/-! ## The events of SPL and CPL -/

theorem ageTest_dsvKept (s : State) : DsvKept s (ageTest s) := by
  have hstale (u : State) : DsvKept u
      (if 5 < u.spl.demandAge ∧ u.faults.isActive .demandStale = false then setCause .demandStale (raiseFault .demandStale u)
      else u) :=
    .ite (fun _ => (raiseFault_dsvKept _ u).trans (.of_dsv rfl)) fun _ => .refl u
  have hage (u : State) : DsvKept u
      (if 100 < u.spl.demandAge ∧ u.faults.isActive .demandLost = false then raiseFault .demandLost u else u) :=
    .ite (fun _ => raiseFault_dsvKept _ u) fun _ => .refl u
  unfold ageTest
  exact .ite (fun _ => (hage _).after ((hstale _).after (.of_dsv rfl))) fun _ => .of_dsv rfl

theorem splitFrame_dsvKept (s : State) : DsvKept s (splitFrame s) :=
  (ageTest_dsvKept s).trans (.of_dsv rfl)

theorem stepCranking_dsvKept (s : State) : DsvKept s (stepCranking s) :=
  .ite (fun _ => .of_dsv rfl) fun _ => .ite (fun _ => .of_dsv rfl) fun _ =>
    .ite (fun _ => .ite (fun _ => .of_dsv rfl) fun _ =>
        (logNow_dsvKept _ _ _ _).after ((raiseFault_dsvKept _ _).after (.of_dsv rfl)))
      fun _ => .of_dsv rfl

theorem moveEngine_dsvKept (s : State) : DsvKept s (moveEngine s) := by
  unfold moveEngine
  cases s.cpl.engine
  case off => exact .of_dsv (stepOff_dsv s)
  case cranking => exact stepCranking_dsvKept s
  case running => exact .ite (fun _ => .of_dsv rfl) fun _ => .refl s
  case stopping => exact .of_dsv (stepStopping_dsv s)
  case lockedOut => exact .refl s

theorem cplFrame_dsvKept (s : State) : DsvKept s (cplFrame s) := by
  have h : DsvKept s (moveCoupling (cplFrameWant s)) := .of_dsv (by simp)
  exact ((h.trans (moveEngine_dsvKept _)).trans (.of_dsv rfl)).trans (.of_dsv (askClutchReport_dsv _ _))

theorem cplKeyOff_dsvKept (s : State) : DsvKept s (cplKeyOff s) := by
  unfold cplKeyOff
  refine DsvKept.after (.of_dsv (askClutchReport_dsv _ _)) ?_
  exact .ite (fun _ => (clearFault_dsvKept _ _).after (.of_dsv rfl)) fun _ => .of_dsv rfl

/-! ## The takes of the owners -/

theorem takeDemand_dsvKept (p : List Word) (n : Word) (d : Direction) (s : State) :
    DsvKept s (takeDemand p n d s) :=
  (dsvSettle_dsvKept _).after ((clearFault_dsvKept _ _).after ((clearFault_dsvKept _ _).after (.of_dsv rfl)))

theorem setServiceMode_dsvKept (on : Bool) (s : State) : DsvKept s (setServiceMode on s) :=
  .ite (fun _ => .refl s) fun _ => .of_same rfl rfl rfl rfl rfl rfl rfl rfl rfl

theorem takeMode_dsvKept (key : Bool) (perm : Permission) (n : Nat) (service ack : Bool) (s : State) :
    DsvKept s (takeMode key perm n service ack s) := by
  have hkey : DsvKept s (dsvKey (setModeImage key perm (clampTarget s.dsv.limits n) (serviceAfter s service)
      (setServiceMode (serviceAfter s service) s))) :=
    (dsvKey_dsvKept _).after ((setServiceMode_dsvKept _ s).trans (.of_same rfl rfl rfl rfl rfl rfl rfl rfl rfl))
  have hcpl := DsvKept.ite (p := key = true) (fun _ => hkey) fun _ => hkey.trans (cplKeyOff_dsvKept _)
  exact .ite (p := ack = true) (fun _ => hcpl.trans (.of_dsv (acknowledgeFaults_dsv _))) fun _ => hcpl

theorem takeLimits_dsvKept (l : Limits) (s : State) : DsvKept s (takeLimits l s) := by
  have hlimits : DsvKept s (s.withDsv { s.dsv with limits := l }) := .of_same rfl rfl rfl rfl rfl rfl rfl rfl rfl
  have htemp (u : State) : DsvKept u (overtempAtTake u) :=
    .ite (fun _ => overtempTest_dsvKept u) fun _ => .refl u
  have htarget (u : State) : DsvKept u (reclampTarget u) := .of_same rfl rfl rfl rfl rfl rfl rfl rfl rfl
  exact (((hlimits.trans (htemp _)).trans (clearFault_dsvKept _ _)).trans (htarget _)).trans (.of_dsv rfl)

/-- What each counter's treatment leaves, all of them leave. -/
theorem eachCounter_same {α : Type} (g : State → α) {f : Counter → State → State} (h : ∀ c s, g (f c s) = g s)
    (cs : List Counter) (s : State) : g (eachCounter f cs s) = g s := by
  induction cs generalizing s with
  | nil => rfl
  | cons c cs ih => rw [eachCounter, ih, h]

@[simp] theorem clearRemainder_dsv (c : Counter) (s : State) : (clearRemainder c s).dsv = s.dsv := by
  unfold clearRemainder; split <;> rfl

@[simp] theorem clearCounter_dsv (c : Counter) (s : State) : (clearCounter c s).dsv = s.dsv := by
  simp [clearCounter]

/-- What an owner's acceptance keeps, whatever the channel. -/
theorem answer_dsvKept {c : OrderChannel} {p : List Word} {n : Word} {s t : State} {f : DetailFlags}
    (h : c.answer p n s = .taken f t) : DsvKept s t := by
  cases c <;> dsimp only [OrderChannel.answer] at h
  case demand =>
    unfold checkDemand at h
    split at h <;> cases h
    exact takeDemand_dsvKept _ _ _ s
  case mode =>
    unfold checkMode at h
    split at h <;> cases h
    exact takeMode_dsvKept _ _ _ _ _ s
  case limits =>
    unfold checkLimits at h
    split at h <;> (try split at h) <;> cases h
    exact takeLimits_dsvKept _ s
  case acceptance =>
    unfold checkAcceptance at h
    split at h <;> cases h
    exact .of_dsv rfl
  case engineMap =>
    unfold checkEngineMap at h
    split at h <;> (try split at h) <;> cases h
    exact .of_dsv rfl
  case wearSet =>
    unfold checkWearSet at h
    split at h <;> (try split at h) <;> (try split at h) <;> (try split at h) <;> cases h
    · exact .of_dsv (eachCounter_same State.dsv (fun c u => setThresholds_dsv c _ _ u) _ s)
    · exact .of_dsv (eachCounter_same State.dsv (fun c u => reseedCounter_dsv c _ u) _ s)
    · exact .of_dsv (eachCounter_same State.dsv clearCounter_dsv _ s)
  case compensation =>
    unfold checkCompensation at h
    split at h <;> (try split at h) <;> (try split at h) <;> (try split at h) <;> (try split at h) <;> cases h
    · exact .of_dsv rfl
    · exact (clearFault_dsvKept _ _).after (.of_dsv rfl)
  case logFilter =>
    unfold checkLogFilter at h
    split at h <;> cases h
    exact .of_dsv rfl

/-! ## The sweep and the report frame -/

@[simp] theorem returnPrevious_dsv (k : Option CellIndex) (s : State) : (returnPrevious k s).dsv = s.dsv := by
  cases k <;> rfl

@[simp] theorem takeCell_dsv (c : OrderChannel) (k : CellIndex) (code : OutcomeCode) (s : State) :
    (takeCell c k code s).dsv = s.dsv := by
  simp [takeCell]

@[simp] theorem recordOutcome_dsv (c : OrderChannel) (k : Nat) (n : Word) (code : OutcomeCode) (f : DetailFlags)
    (s : State) : (recordOutcome c k n code f s).dsv = s.dsv := rfl

@[simp] theorem refuseOrder_dsv (c : OrderChannel) (k : CellIndex) (h : CellHeader) (code : OutcomeCode)
    (f : DetailFlags) (s : State) : (refuseOrder c k h code f s).1.dsv = s.dsv := by
  unfold refuseOrder refuseCell
  split <;> rfl

@[simp] theorem rewriteChannel_dsv (c : OrderChannel) (k : CellIndex) (s : State) :
    (rewriteChannel c k s).dsv = s.dsv := by
  unfold rewriteChannel; split <;> rfl

@[simp] theorem clearPending_dsv (c : OrderChannel) (w : Word) (s : State) : (clearPending c w s).dsv = s.dsv := by
  unfold clearPending; split <;> rfl

@[simp] theorem vcWritesPowered_dsv (ws : List VcWrite) (s : State) : (vcWritesPowered ws s).dsv = s.dsv := by
  unfold vcWritesPowered; split <;> rfl

theorem handToOwner_dsvKept (c : OrderChannel) (k : CellIndex) (h : CellHeader) (f : DetailFlags) (n : Nat)
    (s : State) : DsvKept s (handToOwner c k h f n s).1 := by
  unfold handToOwner
  split
  case h_1 => exact .of_dsv (refuseOrder_dsv _ _ _ _ _ s)
  case h_2 added t ht => exact (answer_dsvKept ht).trans (.of_dsv (by simp))

theorem examineCell_dsvKept (mid : List VcWrite) (c : OrderChannel) (k : CellIndex) (s : State) :
    DsvKept s (examineCell mid c k s).1 := by
  unfold examineCell
  dsimp only
  split
  case h_1 => exact .of_dsv (by simp)
  case h_2 =>
    split
    case h_1 => exact .of_dsv (by simp)
    case h_2 => exact (handToOwner_dsvKept _ _ _ _ _ _).after (.of_dsv (by simp))

theorem examine_dsvKept (mid : List VcWrite) (c : OrderChannel) (w : Word) (s : State) :
    DsvKept s (examine mid c w s).1 := by
  unfold examine
  split
  case h_1 => exact .of_dsv rfl
  case h_2 k _ => exact examineCell_dsvKept mid c k s

theorem orderTurn_dsvKept (late : List LateWrite) (c : OrderChannel) (t : State × Bool) :
    DsvKept t.1 (orderTurn late c t).1 := by
  unfold orderTurn
  dsimp only
  split
  case isTrue => exact .of_dsv rfl
  case isFalse =>
    have hearly : DsvKept t.1 (vcWrites (lateAt late c.number .early) t.1) := .of_dsv rfl
    refine (hearly.trans (examine_dsvKept (lateAt late c.number .mid) c (t.1.port.wordAt (dirAddr c.number 1)) _)).trans
      (.of_dsv ?_)
    rw [clearPending_dsv, vcWrites_dsv]

theorem orderTurns_dsvKept (late : List LateWrite) (cs : List OrderChannel) (t : State × Bool) :
    DsvKept t.1 (orderTurns late cs t).1 := by
  induction cs generalizing t with
  | nil => exact .refl t.1
  | cons c cs ih => exact (orderTurn_dsvKept late c t).trans (ih _)

@[simp] theorem releaseHold_dsv (i : Fin 8) (s : State) : (releaseHold i s).dsv = s.dsv := by
  unfold releaseHold; split <;> (try split) <;> rfl

@[simp] theorem releaseHolds_dsv (is : List (Fin 8)) (s : State) : (releaseHolds is s).dsv = s.dsv := by
  induction is generalizing s with
  | nil => rfl
  | cons i is ih => rw [releaseHolds, ih, releaseHold_dsv]

@[simp] theorem rewrites_dsv (s : State) : (rewrites s).dsv = s.dsv := by
  unfold rewrites; rw [rewriteStatus_dsv]

@[simp] theorem countSweep_dsv (s : State) : (countSweep s).dsv = s.dsv := rfl

@[simp] theorem askOrderResult_dsv (b : Bool) (s : State) : (askOrderResult b s).dsv = s.dsv := by
  cases b <;> rfl

theorem intakeSweep_dsvKept (late : List LateWrite) (s : State) : DsvKept s (intakeSweep late s) :=
  (orderTurns_dsvKept late OrderChannel.all (s, false)).trans (.of_dsv (by
    unfold intakeSweep
    simp only [askOrderResult_dsv, countSweep_dsv, rewrites_dsv, releaseHolds_dsv]))

@[simp] theorem fill_dsv (late : List VcWrite) (c : ReportChannel) (k : CellIndex) (s : State) :
    (fill late c k s).dsv = s.dsv := by
  have hdone (u : State) : (orderDone c u).dsv = u.dsv := by cases c <;> rfl
  have hcursor (u : State) : (moveCursor c u).dsv = u.dsv := by cases c <;> rfl
  have hout (o : Option CellIndex) (u : State) : (outgoing c o u).dsv = u.dsv := by
    unfold outgoing
    cases o with
    | none => rfl
    | some o => dsimp only; split <;> (try split) <;> rfl
  have hheader (n : Nat) (u : State) : (writeHeader c k n u).dsv = u.dsv := by simp [writeHeader]
  have hpayload (u : State) : (writePayload c k u).dsv = u.dsv := rfl
  have hstart (u : State) : (startFilling c u).dsv = u.dsv := rfl
  unfold fill
  rw [hdone, hout, hheader, vcWrites_dsv, hpayload, hcursor, hstart]

@[simp] theorem publish_dsv (late : List VcWrite) (c : ReportChannel) (s : State) : (publish late c s).dsv = s.dsv := by
  have h (r : Port × Option CellIndex) :
      (match r.2 with
        | some k => fill late c k { s with port := r.1 }
        | none => vcWrites late (skip c { s with port := r.1 })).dsv = s.dsv := by
    obtain ⟨p, _ | k⟩ := r
    · exact vcWrites_dsv _ _
    · exact fill_dsv late c k _
  exact h _

@[simp] theorem reportTurn_dsv (late : List LateWrite) (c : ReportChannel) (s : State) :
    (reportTurn late c s).dsv = s.dsv := by
  unfold reportTurn
  split
  case isTrue => exact publish_dsv _ _ _
  case isFalse => rfl

@[simp] theorem reportTurns_dsv (late : List LateWrite) (cs : List ReportChannel) (s : State) :
    (reportTurns late cs s).dsv = s.dsv := by
  induction cs generalizing s with
  | nil => rfl
  | cons c cs ih => rw [reportTurns, ih, reportTurn_dsv]

@[simp] theorem reportFrame_dsv (late : List LateWrite) (s : State) : (reportFrame late s).dsv = s.dsv :=
  reportTurns_dsv late _ _

/-! ## The resets -/

@[simp] theorem uncontrolledOpen_dsv (s : State) : (uncontrolledOpen s).dsv = { s.dsv with posFlag := false } := by
  unfold uncontrolledOpen
  split
  case isTrue => simp
  case isFalse h => simp [← Bool.eq_false_iff.2 h]

@[simp] theorem standingWarning_dsv (v : Vector WearRecord 10) (c : Counter) (s : State) :
    (standingWarning v c s).dsv = s.dsv := by
  unfold standingWarning; split <;> rfl

@[simp] theorem resetRaisings_dsv (s : State) : (resetRaisings s).dsv = s.dsv := by
  unfold resetRaisings; split <;> rfl

/-- DSV's records at the end of a reset that keeps the keep store (R18, R19, R20). -/
theorem endOfKeptReset_dsv (kind : ResetCause) (s : State) :
    (endOfKeptReset kind s).dsv =
      { Dsv.reset with
        operatingSeconds := s.dsv.operatingSeconds, keepStoreValid := s.dsv.keepStoreValid, resetCause := kind } := by
  unfold endOfKeptReset
  rw [rewriteStatus_dsv, resetRaisings_dsv, eachCounter_same State.dsv fun c u => standingWarning_dsv _ c u,
    uncontrolledOpen_dsv]
  rfl

/-- DSV's records at the end of a keep power-up (R19). -/
theorem endOfKeepPowerUp_dsv (s : State) : (endOfKeepPowerUp s).dsv = Dsv.reset := by
  unfold endOfKeepPowerUp
  rw [rewriteStatus_dsv, resetRaisings_dsv]
  rfl

theorem endOfReset_contactor (kind : ResetCause) (s : State) : ContactorInv (endOfReset kind s) := by
  cases kind <;> dsimp only [endOfReset]
  case keepPowerUp => simp [ContactorInv, endOfKeepPowerUp_dsv, Dsv.reset]
  all_goals simp [ContactorInv, endOfKeptReset_dsv, Dsv.reset]

/-- Contactors forced open keep the contactor rules. -/
theorem ContactorInv.forcedOpen {s t : State} (h : ContactorInv s)
    (ht : t.dsv = { s.dsv with negClosed := false, preClosed := false, posClosed := false }) : ContactorInv t := by
  obtain ⟨hopen, hboth, hprecharge, hsettle, hpower, hsafe, hcool⟩ := h
  simp_all [ContactorInv]

theorem powerUp_contactor (kind : ResetCause) (vkeep : Bool) {s : State} (h : ContactorInv s) :
    ContactorInv (powerUp kind vkeep s) := by
  unfold powerUp
  dsimp only
  split
  · exact h.forcedOpen rfl
  · exact endOfReset_contactor kind _

theorem releaseReset_contactor {s : State} (h : ContactorInv s) : ContactorInv (releaseReset s) := by
  unfold releaseReset
  dsimp only
  split
  · exact endOfReset_contactor _ _
  · exact h

/-! ## Every command -/

theorem whileRunning_dsvKept {f : State → State} (h : ∀ s, DsvKept s (f s)) (s : State) :
    DsvKept s (whileRunning f s) := .ite (fun _ => h s) fun _ => .refl s

/-- An event of a field message: a discarded one changes nothing (R22). -/
theorem whileRunning_frame_dsvKept {f : State → State} (ok : Bool) (h : ∀ s, DsvKept s (f s)) (s : State) :
    DsvKept s (whileRunning (fun t => if ok then f t else t) s) :=
  whileRunning_dsvKept (fun t => .ite (fun _ => h t) fun _ => .refl t) s

/-- Every event of the part but DSV's own second timer. -/
theorem event_dsvKept {c : Instr} {s t : State} (hc : c.needsRunning = true) (hd : c ≠ .dsvSecondTimer)
    (h : exec c s = .next t) : DsvKept s t := by
  cases c <;> cases hc <;> cases h
  case dsvSecondTimer => exact absurd rfl hd
  case splitFrame => exact whileRunning_dsvKept splitFrame_dsvKept s
  case outputStep => exact whileRunning_dsvKept (fun u => .of_dsv (outputStep_dsv _ u)) s
  case blendFrame => exact whileRunning_dsvKept (fun u => .of_dsv (blendFrame_dsv u)) s
  case cplFrame => exact whileRunning_dsvKept cplFrame_dsvKept s
  case cplSecondTimer => exact whileRunning_dsvKept (fun u => .of_dsv (cplSecond_dsv u)) s
  case enaSecondTimer => exact whileRunning_dsvKept (fun u => .of_dsv (enaSecond_dsv u)) s
  case prechargeTimeout => exact whileRunning_dsvKept prechargeExpiry_dsvKept s
  case settleTimerExpiry => exact whileRunning_dsvKept settleExpiry_dsvKept s
  case cooldownTimerExpiry => exact whileRunning_dsvKept cooldownExpiry_dsvKept s
  case powerDownTimerExpiry => exact whileRunning_dsvKept powerDownExpiry_dsvKept s
  case safeStopTimerExpiry => exact whileRunning_dsvKept safeStopExpiry_dsvKept s
  case linkMonitorExpiry => exact whileRunning_dsvKept (monitorExpiry_dsvKept _) s
  case inverterStatus => exact whileRunning_frame_dsvKept _ (inverterArrival_dsvKept _ _ _ _) s
  case engineStatus => exact whileRunning_frame_dsvKept _ (engineArrival_dsvKept _ _ _) s
  case brakeStatus => exact whileRunning_frame_dsvKept _ (brakeArrival_dsvKept _ _) s
  case packSample => exact whileRunning_frame_dsvKept _ (packArrival_dsvKept _ _ _ _ _ _) s
  case wheelEdge => exact whileRunning_dsvKept (edge_dsvKept _ _) s
  case wheelTimerWrap => exact whileRunning_dsvKept (fun u => updateWheel_dsvKept _ _ u) s
  case silenceTimerExpiry => exact whileRunning_dsvKept (silenceExpiry_dsvKept _) s
  case attnWrite v => exact whileRunning_dsvKept (f := attnWrite v) (fun _ => .of_dsv rfl) s
  case attnEnWrite v => exact whileRunning_dsvKept (f := attnEnWrite v) (fun _ => .of_dsv rfl) s
  case logTakeWrite => exact whileRunning_dsvKept (fun u => .of_dsv (logTake_dsv u)) s

theorem exec_contactor {c : Instr} {s t : State} (ht : exec c s = .next t) (h : ContactorInv s) : ContactorInv t := by
  cases c
  case keepPowerUp => cases ht; exact powerUp_contactor _ _ h
  case mainPowerUp => cases ht; exact powerUp_contactor _ _ h
  case pinReset => cases ht; exact releaseReset_contactor h
  case resetAsserted => cases ht; exact h.forcedOpen rfl
  case mainSupplyLoss => cases ht; exact h.forcedOpen rfl
  case keepSupplyLoss => cases ht; exact h
  case registerWriteIgnored => cases ht; exact (DsvKept.of_dsv (vcWritesPowered_dsv _ s)).contactor h
  case dsvSecondTimer =>
    cases ht
    unfold whileRunning
    split
    · exact dsvSecond_contactor h
    · exact h
  case intakeSweep writes late =>
    have hk : DsvKept s (if s.running then intakeSweep late (vcWritesPowered writes s)
        else vcWritesPowered (late.map fun l => l.write) (vcWritesPowered writes s)) :=
      .ite (fun _ => (intakeSweep_dsvKept _ _).after (.of_dsv (by simp))) fun _ => .of_dsv (by simp)
    cases ht
    exact hk.contactor h
  case reportFrame writes late =>
    have hk : DsvKept s (if s.running then reportFrame late (vcWritesPowered writes s)
        else vcWritesPowered (late.map fun l => l.write) (vcWritesPowered writes s)) :=
      .ite (fun _ => .of_dsv (by simp)) fun _ => .of_dsv (by simp)
    cases ht
    exact hk.contactor h
  all_goals exact (event_dsvKept rfl Instr.noConfusion ht).contactor h

/-- Settles O60, by the rules of each shared operation of DSV and a case for each command. -/
theorem stepKeepsContactorInv : Obligations.StepKeepsContactorInv := by
  intro s t h hstep
  unfold step at hstep
  split at hstep
  case h_1 => cases hstep; exact h
  case h_2 c rest _ => exact exec_contactor hstep h

end Sys2Proof.Machine
end

section
/-! PROOF. Power, RESET and the frame of the events: what does not act, what an event leaves, the reset state. -/

namespace Sys2Proof.Machine

open Sys2Proof

/-! ## What does not act -/

theorem whileRunning_idle (f : State → State) {s : State} (h : s.running = false) : whileRunning f s = s := by
  simp [whileRunning, h]

theorem whileRunning_runs (f : State → State) {s : State} (h : s.running = true) : whileRunning f s = f s := by
  simp [whileRunning, h]

theorem running_of_noMain {s : State} (h : s.supply.main = false) : s.running = false := by
  simp [State.running, h]

theorem running_of_reset {s : State} (h : s.supply.resetAsserted = true) : s.running = false := by
  simp [State.running, h]

/-- An event of the part does nothing while the part does not run (R18, R19). -/
theorem exec_idle {c : Instr} {s : State} (hc : c.needsRunning = true) (h : s.running = false) : exec c s = .next s := by
  cases c <;> cases hc <;> exact congrArg Host.Outcome.next (whileRunning_idle _ h)

theorem vcWritesPowered_off (ws : List VcWrite) {s : State} (h : s.supply.main = false) : vcWritesPowered ws s = s := by
  simp [vcWritesPowered, h]

theorem vcWritesPowered_on (ws : List VcWrite) {s : State} (h : s.supply.main = true) :
    vcWritesPowered ws s = vcWrites ws s := by
  simp [vcWritesPowered, h]

/-- A sweep that does not run: its words land as the others do (log 10). -/
theorem execIntakeSweep_idle (ws : List VcWrite) (late : List LateWrite) {s : State} (h : s.running = false) :
    execIntakeSweep ws late s = .next (vcWritesPowered (late.map fun l => l.write) (vcWritesPowered ws s)) := by
  simp [execIntakeSweep, h]

/-- A report frame that does not run: its words land as the others do (log 10). -/
theorem execReportFrame_idle (ws : List VcWrite) (late : List LateWrite) {s : State} (h : s.running = false) :
    execReportFrame ws late s = .next (vcWritesPowered (late.map fun l => l.write) (vcWritesPowered ws s)) := by
  simp [execReportFrame, h]

/-- An event that does nothing does nothing whether the part runs or not. -/
theorem whileRunning_id {f : State → State} (h : ∀ u, f u = u) (s : State) : whileRunning f s = s := by
  simp [whileRunning, h]

/-- Settles O3, by the gates of the events and the writes of the vehicle controller. -/
theorem eventsThatDoNotAct : Obligations.EventsThatDoNotAct := by
  refine ⟨fun c s hc h => exec_idle hc h, fun s h => by simp [attentionAsserted, h], ?off, ?held, ?ignored, ?writes,
    ?discarded⟩
  case off =>
    intro ws late s h
    have hr := running_of_noMain h
    exact ⟨(execIntakeSweep_idle ws late hr).trans (by rw [vcWritesPowered_off ws h, vcWritesPowered_off _ h]),
      (execReportFrame_idle ws late hr).trans (by rw [vcWritesPowered_off ws h, vcWritesPowered_off _ h])⟩
  case held =>
    intro ws late s h hreset
    have hr := running_of_reset hreset
    have hw : vcWritesPowered (late.map fun l => l.write) (vcWritesPowered ws s) =
        vcWrites (late.map fun l => l.write) (vcWrites ws s) := by
      rw [vcWritesPowered_on ws h, vcWritesPowered_on _ (s := vcWrites ws s) h]
    exact ⟨(execIntakeSweep_idle ws late hr).trans (by rw [hw]), (execReportFrame_idle ws late hr).trans (by rw [hw])⟩
  case ignored => exact fun ws _ s => rfl
  case writes =>
    exact fun w ws s => ⟨vcWrites_cons w ws s, vcWrites_wordAt w, fun a h0 h1 => vcWrites_byteAt_other w s h0 h1⟩
  case discarded =>
    intro s a b c d r e f n m
    refine ⟨?_, ?_, ?_, ?_⟩ <;> exact congrArg Host.Outcome.next (whileRunning_id (fun u => by simp) s)

/-! ## The frame of an event -/

/-- An event of a field message: a discarded one changes nothing (R22). -/
theorem whileRunning_frame_kept {f : State → State} (ok : Bool) (h : ∀ s, Kept s (f s)) (s : State) :
    Kept s (whileRunning (fun t => if ok then f t else t) s) :=
  whileRunning_kept (fun t => .ite (fun _ => h t) fun _ => .refl t) s

theorem attnWrite_frame (v : Word) (s : State) : EventFrame s (attnWrite v s) := by
  refine ⟨rfl, rfl, rfl, rfl, rfl, rfl, rfl, rfl, rfl, rfl, fun _ => rfl, Port.setAttn_attnEn _ _,
    Port.setAttn_powerUps _ _, rfl, fun a ha _ => Port.byteAt_setAttn_other _ _ ?_ ?_⟩ <;>
  · unfold statusAddr; omega

/-- Every event of the part but a write of ATTN or ATTN_EN, by the lemma of its own operation. -/
theorem event_kept {c : Instr} {s t : State} (hc : c.needsRunning = true) (ha : ∀ v, c ≠ .attnWrite v)
    (he : ∀ v, c ≠ .attnEnWrite v) (h : exec c s = .next t) : Kept s t := by
  cases c <;> cases hc <;> cases h
  case splitFrame => exact whileRunning_kept splitFrame_kept s
  case outputStep => exact whileRunning_kept (outputStep_kept _) s
  case blendFrame => exact whileRunning_kept blendFrame_kept s
  case cplFrame => exact whileRunning_kept cplFrame_kept s
  case dsvSecondTimer => exact whileRunning_kept dsvSecond_kept s
  case cplSecondTimer => exact whileRunning_kept cplSecond_kept s
  case enaSecondTimer => exact whileRunning_kept enaSecond_kept s
  case prechargeTimeout => exact whileRunning_kept prechargeExpiry_kept s
  case settleTimerExpiry => exact whileRunning_kept settleExpiry_kept s
  case cooldownTimerExpiry => exact whileRunning_kept cooldownExpiry_kept s
  case powerDownTimerExpiry => exact whileRunning_kept powerDownExpiry_kept s
  case safeStopTimerExpiry => exact whileRunning_kept safeStopExpiry_kept s
  case linkMonitorExpiry => exact whileRunning_kept (monitorExpiry_kept _) s
  case inverterStatus => exact whileRunning_frame_kept _ (inverterArrival_kept _ _ _ _) s
  case engineStatus => exact whileRunning_frame_kept _ (engineArrival_kept _ _ _) s
  case brakeStatus => exact whileRunning_frame_kept _ (brakeArrival_kept _ _) s
  case packSample => exact whileRunning_frame_kept _ (packArrival_kept _ _ _ _ _ _) s
  case wheelEdge => exact whileRunning_kept (edge_kept _ _) s
  case wheelTimerWrap => exact whileRunning_kept (timerWrap_kept _) s
  case silenceTimerExpiry => exact whileRunning_kept (silenceExpiry_kept _) s
  case logTakeWrite => exact whileRunning_kept logTake_kept s
  case attnWrite v => exact absurd rfl (ha v)
  case attnEnWrite v => exact absurd rfl (he v)

/-- An event of the part answers a next state. -/
theorem exec_event {c : Instr} (hc : c.needsRunning = true) (s : State) : ∃ t, exec c s = .next t := by
  cases c <;> cases hc <;> exact ⟨_, rfl⟩

theorem event_frame {c : Instr} {s t : State} (hc : c.needsRunning = true) (he : ∀ v, c ≠ .attnEnWrite v)
    (hl : LogInv s) (h : exec c s = .next t) : EventFrame s t := by
  by_cases ha : ∃ v, c = .attnWrite v
  case pos =>
    obtain ⟨v, rfl⟩ := ha
    cases h
    unfold whileRunning
    split
    · exact attnWrite_frame v s
    · exact EventFrame.refl s
  case neg => exact (event_kept hc (fun v hv => ha ⟨v, hv⟩) he h).frame hl

/-- Settles O4, by the frame and the operating seconds of each event. -/
theorem eventsKeepTheFrame : Obligations.EventsKeepTheFrame := by
  intro c s hc he hl
  obtain ⟨t, ht⟩ := exec_event hc s
  exact ⟨t, ht, event_frame hc he hl ht, fun hd => (event_dsvKept hc hd ht).seconds⟩

/-! ## The reset state and the commands of the supplies -/

/-- Settles O5: State.reset evaluated. -/
theorem resetValues : Obligations.ResetValues := by
  refine ⟨rfl, rfl, rfl, rfl, rfl, rfl, rfl, rfl, rfl, rfl, rfl, rfl, rfl, rfl, rfl, rfl, rfl, rfl, rfl, rfl, rfl, rfl, rfl,
    rfl, rfl, rfl, rfl, rfl, by decide, by decide, by decide, rfl, rfl, rfl, rfl, fun c => ?_, fun i => ?_⟩
  · cases c <;> rfl
  · match i with
    | 0 | 1 | 2 | 3 | 4 | 5 | 6 | 7 => exact ⟨rfl, rfl⟩

/-- Settles O6: State.reset evaluated. -/
theorem invariantsHoldAtReset : Obligations.InvariantsHoldAtReset := by
  have hcounter (c : Counter) : State.reset.counter c = WearRecord.reset := by
    match c with
    | 0 | 1 | 2 | 3 | 4 | 5 | 6 | 7 | 8 | 9 => rfl
  have hrow (c : OrderChannel) : (State.reset.orderRow c).current = none := by cases c <;> rfl
  refine ⟨Memory.wf_reset, ⟨by decide, by decide, by decide⟩, fun c => ?_, ⟨?_, ?_⟩, ?_, Nat.zero_le _, ?_, ?_⟩
  · rw [hcounter]; decide
  · intro c d k _ h; rw [hrow] at h; cases h
  · intro c i k h; rw [hrow] at h; cases h
  · simp [ClutchInv, State.reset, Cpl.reset]
  · unfold ChargeInv; decide
  · simp [ContactorInv, State.reset, Dsv.reset]

/-- Settles O10: each of the three commands evaluated. -/
theorem resetAssertedAndSupplyLosses : Obligations.ResetAssertedAndSupplyLosses :=
  fun _ => ⟨rfl, fun _ => rfl, rfl⟩

/-- Settles O20, by the two cases of DSV's second timer. -/
theorem operatingSecondsCount : Obligations.OperatingSecondsCount := by
  intro s h
  refine congrArg Host.Outcome.next ((whileRunning_runs dsvSecond h).trans ?_)
  unfold dsvSecond
  split
  · rfl
  · rfl

end Sys2Proof.Machine
end

section
/-! PROOF. The fault table after a raising, a clearing and an acknowledgement, and the highest active class. -/

namespace Sys2Proof.Machine

open Sys2Proof

theorem FaultKind.all_number (k : FaultKind) : FaultKind.all[k.number.val]? = some k := by
  cases k <;> rfl

theorem FaultKind.number_injective {j k : FaultKind} (h : j.number = k.number) : j = k := by
  have hj := j.all_number
  rw [h, k.all_number] at hj
  exact (Option.some.inj hj).symm

theorem FaultKind.mem_all (k : FaultKind) : k ∈ FaultKind.all := by
  cases k <;> decide

/-! ## One record replaced -/

@[simp] theorem setRecord_record_same (k : FaultKind) (r : FaultRecord) (s : State) :
    (setRecord k r s).faults.record k = r := putAt_get_same _ _ _

theorem setRecord_record_other {j k : FaultKind} (r : FaultRecord) (s : State) (h : j ≠ k) :
    (setRecord k r s).faults.record j = s.faults.record j :=
  putAt_get_other _ _ fun e => h (FaultKind.number_injective e)

theorem FaultTable.isActive_iff (t : FaultTable) (k : FaultKind) :
    t.isActive k = true ↔ (t.record k).state = .active := by
  simp [FaultTable.isActive]

theorem FaultTable.isActive_false_iff (t : FaultTable) (k : FaultKind) :
    t.isActive k = false ↔ (t.record k).state ≠ .active := by
  simp [FaultTable.isActive]

theorem FaultTable.isActive_congr {t u : FaultTable} {k : FaultKind} (h : u.record k = t.record k) :
    u.isActive k = t.isActive k := by
  unfold FaultTable.isActive; rw [h]

/-! ## A raising -/

theorem raiseFault_faults (k : FaultKind) (s : State) :
    (raiseFault k s).faults = (setRecord k ((s.faults.record k).raise s.dsv.operatingSeconds) s).faults := by
  unfold raiseFault
  rw [dsvOnRaise_faults, notifyFaults_faults]

@[simp] theorem raiseFault_record_same (k : FaultKind) (s : State) :
    (raiseFault k s).faults.record k = (s.faults.record k).raise s.dsv.operatingSeconds := by
  rw [raiseFault_faults, setRecord_record_same]

theorem raiseFault_record_other {j k : FaultKind} (s : State) (h : j ≠ k) :
    (raiseFault k s).faults.record j = s.faults.record j := by
  rw [raiseFault_faults, setRecord_record_other _ _ h]

@[simp] theorem raiseFault_isActive (k : FaultKind) (s : State) : (raiseFault k s).faults.isActive k = true := by
  rw [FaultTable.isActive_iff, raiseFault_record_same]; rfl

/-- A raising is notified (R160). -/
theorem raiseFault_notifies (k : FaultKind) (s : State) :
    (raiseFault k s).causeSet .faultChange = true ∧ ((raiseFault k s).reportRow 4).changePending = true := by
  obtain ⟨hcause, hrow⟩ := notifyFaults_notifies (setRecord k ((s.faults.record k).raise s.dsv.operatingSeconds) s)
  have hk := dsvOnRaise_kept k
    (decide ((notifyFaults (setRecord k ((s.faults.record k).raise s.dsv.operatingSeconds) s)).faults.highest ≠
      s.faults.highest))
    (notifyFaults (setRecord k ((s.faults.record k).raise s.dsv.operatingSeconds) s))
  exact ⟨hk.causes _ hcause, hk.changes _ hrow⟩

/-! ## A clearing report -/

theorem clearFault_inactive {k : FaultKind} {s : State} (h : s.faults.isActive k = false) : clearFault k s = s := by
  simp [clearFault, h]

theorem clearFault_active {k : FaultKind} {s : State} (h : s.faults.isActive k = true) :
    clearFault k s = dsvSettle (notifyFaults (setRecord k { s.faults.record k with state := .latched } s)) := by
  simp [clearFault, h]

theorem clearFault_record_same (k : FaultKind) (s : State) :
    (clearFault k s).faults.record k =
      if s.faults.isActive k then { s.faults.record k with state := .latched } else s.faults.record k := by
  unfold clearFault
  split
  · rw [dsvSettle_faults, notifyFaults_faults, setRecord_record_same]
  · rfl

theorem clearFault_record_other {j k : FaultKind} (s : State) (h : j ≠ k) :
    (clearFault k s).faults.record j = s.faults.record j := by
  unfold clearFault
  split
  · rw [dsvSettle_faults, notifyFaults_faults, setRecord_record_other _ _ h]
  · rfl

/-- After the clearing condition was reported the record is not ACTIVE (R155). -/
theorem clearFault_notActive (k : FaultKind) (s : State) : ((clearFault k s).faults.record k).state ≠ .active := by
  rw [clearFault_record_same]
  split
  · exact RecordState.noConfusion
  · rename_i h
    exact (s.faults.isActive_false_iff k).1 (Bool.eq_false_iff.2 h)

/-! ## The highest active class -/

theorem FaultTable.anyActive_iff (t : FaultTable) (c : ReactionClass) :
    t.anyActive c = true ↔ ∃ k : FaultKind, k.reactionClass = c ∧ t.isActive k = true := by
  simp [FaultTable.anyActive, List.any_eq_true, FaultKind.mem_all]

/-- The rank of the highest active class, as a bound: no active kind of a class above INFO lies above it (R159). -/
theorem FaultTable.highest_lt_iff (t : FaultTable) {n : Nat} (hn : 0 < n) :
    t.highest.rank < n ↔ ∀ k : FaultKind, t.isActive k = true → k.reactionClass.rank < n := by
  have hclass (c : ReactionClass) : (∀ k : FaultKind, k.reactionClass = c → t.isActive k = true → c.rank < n) ↔
      (t.anyActive c = true → c.rank < n) := by
    rw [FaultTable.anyActive_iff]
    exact ⟨fun h ⟨k, hk, ha⟩ => h k hk ha, fun h k hk ha => h ⟨k, hk, ha⟩⟩
  have hall : (∀ k : FaultKind, t.isActive k = true → k.reactionClass.rank < n) ↔
      ∀ c : ReactionClass, t.anyActive c = true → c.rank < n := by
    refine ⟨fun h c => (hclass c).1 fun k hk ha => hk ▸ h k ha, fun h k ha => ?_⟩
    exact (hclass k.reactionClass).2 (h _) k rfl ha
  rw [hall]
  unfold FaultTable.highest
  constructor
  · intro h c hc
    cases c
    case info => exact hn
    all_goals
      simp only [hc, if_true] at h
      (repeat' split at h) <;> simp only [ReactionClass.rank] at h ⊢ <;> omega
  · intro h
    have h4 := h .shutdown
    have h3 := h .safeStop
    have h2 := h .limp
    have h1 := h .derate
    split
    · exact h4 ‹_›
    · split
      · exact h3 ‹_›
      · split
        · exact h2 ‹_›
        · split
          · exact h1 ‹_›
          · exact hn

theorem FaultTable.highest_le_three_iff (t : FaultTable) :
    t.highest.rank < 4 ↔ t.highest ≠ .shutdown := by
  cases t.highest <;> simp [ReactionClass.rank]

theorem ReactionClass.at_rank (c : ReactionClass) :
    ([.info, .derate, .limp, .safeStop, .shutdown] : List ReactionClass)[c.rank]? = some c := by
  cases c <;> rfl

theorem ReactionClass.rank_injective {a b : ReactionClass} (h : a.rank = b.rank) : a = b := by
  have ha := a.at_rank
  rw [h, b.at_rank] at ha
  exact (Option.some.inj ha).symm

/-- A record that becomes ACTIVE, the others unchanged: the highest class is the larger of the old one and the kind's (R159). -/
theorem FaultTable.highest_of_raised {t u : FaultTable} {k : FaultKind} (hk : u.isActive k = true)
    (ho : ∀ j : FaultKind, j ≠ k → u.record j = t.record j) :
    u.highest.rank = max t.highest.rank k.reactionClass.rank := by
  have hiff (n : Nat) (hn : 0 < n) :
      u.highest.rank < n ↔ t.highest.rank < n ∧ k.reactionClass.rank < n := by
    rw [u.highest_lt_iff hn, t.highest_lt_iff hn]
    constructor
    · intro h
      refine ⟨fun j hj => ?_, h k hk⟩
      by_cases e : j = k
      · exact e ▸ h k hk
      · exact h j ((FaultTable.isActive_congr (ho j e)).trans hj)
    · rintro ⟨h, hck⟩ j hj
      by_cases e : j = k
      · exact e ▸ hck
      · exact h j ((FaultTable.isActive_congr (ho j e)).symm.trans hj)
  have hle := (hiff (max t.highest.rank k.reactionClass.rank + 1) (by omega)).2 (by omega)
  have hge := (hiff (u.highest.rank + 1) (by omega)).1 (by omega)
  omega

theorem raiseFault_highest (k : FaultKind) (s : State) :
    (raiseFault k s).faults.highest.rank = max s.faults.highest.rank k.reactionClass.rank :=
  FaultTable.highest_of_raised (raiseFault_isActive k s) fun _ h => raiseFault_record_other s h

/-- A record that is no longer ACTIVE, the others unchanged: a highest class below the kind's own stays below. -/
theorem FaultTable.highest_le_of_cleared {t u : FaultTable} {k : FaultKind} (hk : u.isActive k = false)
    (ho : ∀ j : FaultKind, j ≠ k → u.record j = t.record j) : u.highest.rank ≤ t.highest.rank := by
  have h := (t.highest_lt_iff (n := t.highest.rank + 1) (by omega)).1 (by omega)
  have hu := (u.highest_lt_iff (n := t.highest.rank + 1) (by omega)).2 fun j hj => by
    by_cases e : j = k
    · rw [e, hk] at hj; cases hj
    · exact h j ((FaultTable.isActive_congr (ho j e)).symm.trans hj)
  omega

end Sys2Proof.Machine
end

section
/-! PROOF. The three kinds of reset: the keep power-up's state, the keep store, and the log that a reset begins (R18 to R20,
R140). -/

namespace Sys2Proof.Machine

open Sys2Proof

/-! ## Equality of states -/

/-- Two states with the same records are the same. -/
theorem State.eq_of_fields {s t : State} (hrest : t.rest = s.rest) (hdsv : t.dsv = s.dsv) (hfaults : t.faults = s.faults)
    (hwear : t.wear = s.wear) (hlog : t.log = s.log) (hexc : t.exc = s.exc) (hport : t.port = s.port) : t = s := by
  cases s
  cases t
  simp_all [State.rest]

theorem Port.eq_of_fields {p q : Port} (hram : p.ram = q.ram) (hattn : p.attn = q.attn) (hen : p.attnEn = q.attnEn)
    (hups : p.powerUps = q.powerUps) : p = q := by
  cases p
  cases q
  simp_all

/-! ## Quiet appends -/

/-- An entry that passes the default filter, which lets every kind pass (R145). -/
theorem LogEntry.passes_default (e : LogEntry) : e.passes LogRing.empty.filter = true := by
  unfold LogEntry.passes
  cases e.kind <;> decide

@[simp] theorem Port.afterAppend_quiet_attn (p : Port) (r : LogRing) (e : LogEntry) :
    (p.afterAppend true r e).attn = p.attn := by
  unfold Port.afterAppend Port.setLogStatus
  split <;> (try split) <;> simp

theorem logAppend_quiet_attn (e : LogEntry) (s : State) : (logAppend true e s).port.attn = s.port.attn :=
  Port.afterAppend_quiet_attn _ _ _

theorem thresholdCheck_quiet_attn (c : Counter) (s : State) : (thresholdCheck true c s).port.attn = s.port.attn := by
  unfold thresholdCheck
  split
  · rfl
  · exact logAppend_quiet_attn _ _

theorem wearIncrement_quiet_attn (c : Counter) (s : State) : (wearIncrement true c s).port.attn = s.port.attn :=
  thresholdCheck_quiet_attn c _

/-- What the check of R20, a standing warning and a quiet append leave: all but the log, the counters, the exchange RAM and
the POS-closed flag. -/
structure QuietKept (s t : State) : Prop where
  rest : t.rest = s.rest
  seconds : t.dsv.operatingSeconds = s.dsv.operatingSeconds
  faults : t.faults = s.faults
  exc : t.exc = s.exc
  window : t.wear.windowOpen = s.wear.windowOpen
  attn : t.port.attn = s.port.attn
  kept : Kept s t

theorem QuietKept.refl (s : State) : QuietKept s s := ⟨rfl, rfl, rfl, rfl, rfl, rfl, Kept.refl s⟩

theorem QuietKept.trans {s t u : State} (h : QuietKept s t) (k : QuietKept t u) : QuietKept s u :=
  ⟨k.rest.trans h.rest, k.seconds.trans h.seconds, k.faults.trans h.faults, k.exc.trans h.exc, k.window.trans h.window,
    k.attn.trans h.attn, h.kept.trans k.kept⟩

theorem QuietKept.ena {s t : State} (h : QuietKept s t) : t.ena = s.ena := congrArg Rest.ena h.rest

theorem QuietKept.sns {s t : State} (h : QuietKept s t) : t.sns = s.sns := congrArg Rest.sns h.rest

theorem QuietKept.ite {s t u : State} {p : Prop} [Decidable p] (h : p → QuietKept s t) (k : ¬p → QuietKept s u) :
    QuietKept s (if p then t else u) := by
  split
  · exact h ‹_›
  · exact k ‹_›

theorem logAppend_quietKept (e : LogEntry) (s : State) : QuietKept s (logAppend true e s) :=
  ⟨rfl, rfl, rfl, rfl, rfl, logAppend_quiet_attn e s, logAppend_kept true e s⟩

theorem thresholdCheck_window (q : Bool) (c : Counter) (s : State) :
    (thresholdCheck q c s).wear.windowOpen = s.wear.windowOpen := by
  unfold thresholdCheck; split <;> rfl

@[simp] theorem wearIncrement_window (q : Bool) (c : Counter) (s : State) :
    (wearIncrement q c s).wear.windowOpen = s.wear.windowOpen := thresholdCheck_window q c _

theorem wearIncrement_quietKept (c : Counter) (s : State) : QuietKept s (wearIncrement true c s) :=
  ⟨by simp, by simp, by simp, by simp, by simp, wearIncrement_quiet_attn c s, wearIncrement_kept true c s⟩

theorem uncontrolledOpen_quietKept (s : State) : QuietKept s (uncontrolledOpen s) := by
  unfold uncontrolledOpen
  refine .ite (fun _ => ?_) fun _ => .refl s
  have h := (logAppend_quietKept (entryNow s .uncontrolledOpen none none none) s).trans (wearIncrement_quietKept w7 _)
  exact h.trans ⟨rfl, rfl, rfl, rfl, rfl, rfl, withDsv_kept rfl rfl rfl rfl⟩

theorem standingWarning_quietKept (v : Vector WearRecord 10) (c : Counter) (s : State) :
    QuietKept s (standingWarning v c s) :=
  .ite (fun _ => .refl s) fun _ => logAppend_quietKept _ s

theorem eachCounter_quietKept {f : Counter → State → State} (h : ∀ c s, QuietKept s (f c s)) (cs : List Counter)
    (s : State) : QuietKept s (eachCounter f cs s) := by
  induction cs generalizing s with
  | nil => exact .refl s
  | cons c cs ih => exact (h c s).trans (ih _)

/-! ## The log that a reset begins -/

/-- The ring of a log begun by a reset, after some entries (R142, R146). -/
def LogRing.begun (n : Nat) : LogRing :=
  { LogRing.empty with writePos := n, occupancy := n, nextSequence := BitVec.ofNat 16 n }

theorem LogRing.begun_afterAppend {n : Nat} (h : n < 63) (e : LogEntry) :
    (LogRing.begun n).afterAppend e = LogRing.begun (n + 1) := by
  have hp : e.passes (LogRing.begun n).filter = true := e.passes_default
  have hn : (LogRing.begun n).occupancy < 64 := Nat.lt_succ_of_lt h
  have hs : BitVec.ofNat 16 n + 1 = BitVec.ofNat 16 (n + 1) := by
    apply BitVec.eq_of_toNat_eq
    simp
  unfold LogRing.afterAppend
  rw [if_pos hp, if_pos hn]
  unfold LogRing.begun
  simp only [hs]
  rw [Nat.mod_eq_of_lt (by omega : n + 1 < 64)]

/-- The log of a reset holds exactly these entries, from log sequence 0 (R142); their slots read so where the exchange RAM
had its canonical form before the reset. -/
structure LogBegins (before : State) (es : List LogEntry) (s : State) : Prop where
  ring : s.log = LogRing.begun es.length
  memory : MemoryInv before → MemoryInv s
  slots : MemoryInv before →
    ∀ (i : Nat) (e : LogEntry), es[i]? = some e → s.port.wordsAt (slotAddr i) 16 = e.words (BitVec.ofNat 16 i)

theorem Port.wordsAt_congr {p q : Port} {a n : Nat} (h : ∀ x, a ≤ x → x < a + 2 * n → p.byteAt x = q.byteAt x) :
    p.wordsAt a n = q.wordsAt a n := by
  induction n generalizing a with
  | zero => rfl
  | succ n ih =>
    unfold Port.wordsAt Port.wordAt
    rw [h a (by omega) (by omega), h (a + 1) (by omega) (by omega), ih fun x hx hy => h x (by omega) (by omega)]

/-- Words written in a run read back (R164). -/
theorem Port.wordsAt_setWords (p : Port) {a : Nat} (ws : List Word) (ha : a + 2 * ws.length ≤ ramBytes)
    (h : Memory.wf p.ram = true) : (p.setWords a ws).wordsAt a ws.length = ws := by
  have hlen (q : Port) (b n : Nat) : (q.wordsAt b n).length = n := by
    induction n generalizing b with
    | zero => rfl
    | succ n ih => simp [Port.wordsAt, ih]
  have hget (q : Port) (b n i : Nat) (hi : i < n) : (q.wordsAt b n)[i]? = some (q.wordAt (b + 2 * i)) := by
    induction n generalizing b i with
    | zero => omega
    | succ n ih =>
      cases i with
      | zero => simp [Port.wordsAt]
      | succ i =>
        rw [Port.wordsAt, List.getElem?_cons_succ, ih (b + 2) i (by omega)]
        congr 2
        omega
  apply List.ext_getElem?
  intro i
  by_cases hi : i < ws.length
  · rw [hget _ _ _ _ hi, Port.wordAt_setWords_get p ws hi ha h, List.getElem?_eq_getElem hi]
  · rw [List.getElem?_eq_none (by rw [hlen]; omega), List.getElem?_eq_none (by omega)]

theorem Port.wordsAt_setLogStatus_slot (p : Port) (r : LogRing) (k : Nat) :
    (p.setLogStatus r).wordsAt (slotAddr k) 16 = p.wordsAt (slotAddr k) 16 :=
  Port.wordsAt_congr fun x hx _ => Port.byteAt_setLogStatus_other p r (by unfold slotAddr at hx; omega)

/-- A quiet append puts the entry into the next slot of a log begun by a reset (R146). -/
theorem logAppend_begins {before : State} {es : List LogEntry} {s : State} (e : LogEntry) (h : LogBegins before es s)
    (hn : es.length < 63) : LogBegins before (es ++ [e]) (logAppend true e s) := by
  have hport : (logAppend true e s).port =
      (s.port.setWords (slotAddr es.length) (e.words (BitVec.ofNat 16 es.length))).setLogStatus (s.log.afterAppend e) := by
    have hp : e.passes s.log.filter = true := by rw [h.ring]; exact e.passes_default
    have ho : s.log.occupancy < 64 := by rw [h.ring]; exact Nat.lt_succ_of_lt hn
    have hw : s.log.writePos = es.length ∧ s.log.nextSequence = BitVec.ofNat 16 es.length := by
      rw [h.ring]; exact ⟨rfl, rfl⟩
    rw [logAppend_port]
    unfold Port.afterAppend
    rw [if_pos hp, if_pos ho, hw.1, hw.2]
    rfl
  have hlen : (e.words (BitVec.ofNat 16 es.length)).length = 16 := e.words_length _
  refine ⟨?_, fun hm => (logAppend_kept true e s).memory (h.memory hm), fun hm i x hx => ?_⟩
  · rw [logAppend_log, h.ring, LogRing.begun_afterAppend hn, List.length_append, List.length_singleton]
  rw [hport, Port.wordsAt_setLogStatus_slot]
  rcases Nat.lt_or_ge i es.length with hi | hi
  · rw [List.getElem?_append_left hi] at hx
    rw [← h.slots hm i x hx]
    refine Port.wordsAt_congr fun y _ hy => Port.byteAt_setWords_other _ _ (.inl ?_)
    unfold slotAddr at hy ⊢
    omega
  · obtain rfl : i = es.length := by
      obtain ⟨hlt, -⟩ := List.getElem?_eq_some_iff.1 hx
      simp only [List.length_append, List.length_singleton] at hlt
      omega
    simp only [List.getElem?_append_right (Nat.le_refl _), Nat.sub_self, List.getElem?_cons_zero, Option.some.injEq] at hx
    subst hx
    have hwords := Port.wordsAt_setWords s.port (a := slotAddr es.length) (e.words (BitVec.ofNat 16 es.length))
      (by rw [hlen]; unfold slotAddr ramBytes; omega) (h.memory hm)
    rwa [hlen] at hwords

/-- The entry of the threshold check of one counter, where it gives one (R130, R131). -/
def dueEntry (s : State) (c : Counter) : List LogEntry :=
  match (s.counter c).due with
  | none => []
  | some level =>
    [entryNow s level.kind (some c) (some ((s.counter c).value : Int)) (some ((s.counter c).thresholdOf level))]

/-- A quiet threshold check appends its entry (R130). -/
theorem thresholdCheck_begins {before : State} {es : List LogEntry} {s : State} (c : Counter) (h : LogBegins before es s)
    (hn : es.length < 63) : LogBegins before (es ++ dueEntry s c) (thresholdCheck true c s) := by
  unfold thresholdCheck dueEntry
  cases (s.counter c).due with
  | none => simpa using h
  | some level => exact logAppend_begins _ ⟨h.ring, h.memory, h.slots⟩ hn

/-! ## The check of the POS-closed flag -/

/-- The record of a counter after its threshold check (R130, R131). -/
theorem thresholdCheck_counter_same (q : Bool) (c : Counter) (s : State) :
    (thresholdCheck q c s).counter c =
      match (s.counter c).due with
      | none => s.counter c
      | some level =>
        { s.counter c with warned := level, stampOdometer := s.sns.odometer, stampSeconds := s.dsv.operatingSeconds } := by
  unfold thresholdCheck
  cases (s.counter c).due with
  | none => rfl
  | some level => exact setCounter_counter_same c _ s

/-- W7's record with one more count, before its threshold check (R127). -/
def countedRecord (r : WearRecord) : WearRecord := { r with value := min (r.value + 1) max32 }

/-- The entries of the check of R20: UNCONTROLLED_OPEN, and W7's warning where one is due. -/
def openedEntries (s : State) : List LogEntry :=
  if s.dsv.posFlag then
    entryNow s .uncontrolledOpen none none none :: dueEntry (setCounter w7 (countedRecord (s.counter w7)) s) w7
  else []

theorem uncontrolledOpen_begins {before s : State} (h : LogBegins before [] s) :
    LogBegins before (openedEntries s) (uncontrolledOpen s) := by
  unfold uncontrolledOpen openedEntries
  split
  case isFalse => exact h
  case isTrue =>
    have hopen := logAppend_begins (entryNow s .uncontrolledOpen none none none) h (by simp)
    have hcheck := thresholdCheck_begins (s := setCounter w7 (countedRecord (s.counter w7))
      (logAppend true (entryNow s .uncontrolledOpen none none none) s)) w7 ⟨hopen.ring, hopen.memory, hopen.slots⟩
      (by simp)
    exact ⟨hcheck.ring, hcheck.memory, hcheck.slots⟩

theorem dueEntry_length (s : State) (c : Counter) : (dueEntry s c).length ≤ 1 := by
  unfold dueEntry
  split <;> simp

theorem openedEntries_length (s : State) : (openedEntries s).length ≤ 2 := by
  have h := dueEntry_length (setCounter w7 (countedRecord (s.counter w7)) s) w7
  unfold openedEntries
  split
  · simpa using h
  · simp

theorem uncontrolledOpen_counter_other {c : Counter} (s : State) (h : c ≠ w7) :
    (uncontrolledOpen s).counter c = s.counter c := by
  unfold uncontrolledOpen
  split
  · exact wearIncrement_counter_other true _ h
  · rfl

theorem uncontrolledOpen_clear {s : State} (h : s.dsv.posFlag = false) : uncontrolledOpen s = s := by
  simp [uncontrolledOpen, h]

/-- W7's record after the check of R20. -/
theorem uncontrolledOpen_counter_w7 {s : State} (h : s.dsv.posFlag = true) :
    (uncontrolledOpen s).counter w7 =
      match (countedRecord (s.counter w7)).due with
      | none => countedRecord (s.counter w7)
      | some level =>
        { countedRecord (s.counter w7) with
          warned := level, stampOdometer := s.sns.odometer, stampSeconds := s.dsv.operatingSeconds } := by
  unfold uncontrolledOpen
  rw [if_pos h]
  refine (thresholdCheck_counter_same true w7 _).trans ?_
  rw [setCounter_counter_same]
  rfl

/-! ## The standing warnings -/

/-- A counter's warning is given afresh (R140). -/
def standsAfresh (before : Vector WearRecord 10) (s : State) (c : Counter) : Bool :=
  !decide ((s.counter c).warned = .none ∨ (s.counter c).warned ≠ (before.get c).warned)

theorem standingWarnings_begins {before : State} (v : Vector WearRecord 10) (cs : List Counter) {es : List LogEntry}
    {s : State} (h : LogBegins before es s) (hn : es.length + cs.length < 64) :
    LogBegins before (es ++ (cs.filter (standsAfresh v s)).map fun c => standingEntry c s)
      (eachCounter (standingWarning v) cs s) := by
  induction cs generalizing es s with
  | nil => simpa [eachCounter] using h
  | cons c cs ih =>
    rw [List.length_cons] at hn
    unfold eachCounter standingWarning
    by_cases hc : (s.counter c).warned = .none ∨ (s.counter c).warned ≠ (v.get c).warned
    · have hf : standsAfresh v s c = false := by simp [standsAfresh, hc]
      rw [if_pos hc, List.filter_cons_of_neg (by simp [hf])]
      exact ih h (by omega)
    · have hf : standsAfresh v s c = true := by simp [standsAfresh, hc]
      rw [if_neg hc, List.filter_cons_of_pos hf, List.map_cons, List.append_cons]
      exact ih (logAppend_begins _ h (by omega)) (by simp; omega)

/-! ## The end of a reset that keeps the keep store -/

/-- The state in which the raisings of such a reset are made: its entries stand in the log (R20, R140). -/
def keptResetLogged (kind : ResetCause) (s : State) : State :=
  eachCounter (standingWarning (establish kind s).wear.counters) allCounters (uncontrolledOpen (establish kind s))

theorem endOfKeptReset_eq (kind : ResetCause) (s : State) :
    endOfKeptReset kind s = rewriteStatus (resetRaisings (keptResetLogged kind s)) := rfl

theorem keptResetLogged_quietKept (kind : ResetCause) (s : State) :
    QuietKept (establish kind s) (keptResetLogged kind s) :=
  (uncontrolledOpen_quietKept _).trans (eachCounter_quietKept (standingWarning_quietKept _) _ _)

theorem establish_logInv (kind : ResetCause) (s : State) : LogInv (establish kind s) :=
  (⟨by decide, by decide, by decide⟩ : LogInv { State.reset with log := LogRing.empty })

theorem resetRaisings_rest (s : State) : (resetRaisings s).rest = s.rest := by
  unfold resetRaisings; split <;> rfl

theorem resetRaisings_log (s : State) : (resetRaisings s).log = s.log := by
  unfold resetRaisings; split <;> rfl

theorem resetRaisings_wear (s : State) : (resetRaisings s).wear = s.wear := by
  unfold resetRaisings; split <;> rfl

theorem resetRaisings_exc (s : State) : (resetRaisings s).exc = s.exc := by
  unfold resetRaisings; split <;> rfl

theorem resetRaisings_port (s : State) : (resetRaisings s).port = s.port := by
  unfold resetRaisings; split <;> rfl

theorem rewriteStatus_rest (s : State) : (rewriteStatus s).rest = s.rest := by
  simp only [State.rest, rewriteStatus_supply, rewriteStatus_sns, rewriteStatus_ena, rewriteStatus_spl, rewriteStatus_tqa,
    rewriteStatus_cpl, rewriteStatus_bbl, rewriteStatus_sent, rewriteStatus_pending]

theorem rewriteStatus_byteAt_other (s : State) {a : Nat} (h : ¬(0x80 ≤ a ∧ a < 0x100)) :
    (rewriteStatus s).port.byteAt a = s.port.byteAt a := by
  refine Port.byteAt_setWords_other _ _ ?_
  have hlen : (statusWords s).length = 64 := rfl
  rw [hlen]
  unfold statusAddr
  omega

theorem rewriteStatus_attn (s : State) : (rewriteStatus s).port.attn = s.port.attn := Port.setWords_attn _ _ _

theorem rewriteStatus_attnEn (s : State) : (rewriteStatus s).port.attnEn = s.port.attnEn := Port.setWords_attnEn _ _ _

section EndOfKeptReset

variable (kind : ResetCause) (s : State)

theorem endOfKeptReset_rest : (endOfKeptReset kind s).rest = (establish kind s).rest := by
  rw [endOfKeptReset_eq, rewriteStatus_rest, resetRaisings_rest]
  exact (keptResetLogged_quietKept kind s).rest

theorem endOfKeptReset_supply : (endOfKeptReset kind s).supply = (establish kind s).supply := by
  have h := congrArg Rest.supply (endOfKeptReset_rest kind s)
  generalize endOfKeptReset kind s = t at *
  exact h

theorem endOfKeptReset_log : (endOfKeptReset kind s).log = (keptResetLogged kind s).log := by
  rw [endOfKeptReset_eq, rewriteStatus_log, resetRaisings_log]

theorem endOfKeptReset_wear : (endOfKeptReset kind s).wear = (keptResetLogged kind s).wear := by
  rw [endOfKeptReset_eq, rewriteStatus_wear, resetRaisings_wear]

theorem endOfKeptReset_counter (c : Counter) :
    (endOfKeptReset kind s).counter c = (uncontrolledOpen (establish kind s)).counter c := by
  have h : (endOfKeptReset kind s).wear = (uncontrolledOpen (establish kind s)).wear := by
    rw [endOfKeptReset_wear]
    refine eachCounter_same State.wear (fun d u => ?_) _ _
    unfold standingWarning
    split <;> rfl
  unfold State.counter
  rw [h]

theorem endOfKeptReset_counter_other {c : Counter} (h : s.dsv.posFlag = false ∨ c ≠ w7) :
    (endOfKeptReset kind s).counter c = s.counter c := by
  rw [endOfKeptReset_counter]
  rcases h with h | h
  · rw [uncontrolledOpen_clear (s := establish kind s) h]; rfl
  · rw [uncontrolledOpen_counter_other _ h]; rfl

theorem endOfKeptReset_exc : (endOfKeptReset kind s).exc = Exc.reset := by
  rw [endOfKeptReset_eq, rewriteStatus_exc, resetRaisings_exc]
  exact (keptResetLogged_quietKept kind s).exc

theorem endOfKeptReset_faults :
    (endOfKeptReset kind s).faults = (resetRaisings (keptResetLogged kind s)).faults := by
  rw [endOfKeptReset_eq, rewriteStatus_faults]

theorem endOfKeptReset_attn : (endOfKeptReset kind s).port.attn = 0 := by
  rw [endOfKeptReset_eq, rewriteStatus_attn, resetRaisings_port]
  exact (keptResetLogged_quietKept kind s).attn

theorem endOfKeptReset_attnEn : (endOfKeptReset kind s).port.attnEn = 0 := by
  rw [endOfKeptReset_eq, rewriteStatus_attnEn, resetRaisings_port]
  obtain ⟨-, -, -, -, -, -, -, -, -, -, -, hen, -⟩ := (keptResetLogged_quietKept kind s).kept.frame (establish_logInv kind s)
  exact hen

theorem endOfKeptReset_byteAt {a : Nat} (hs : ¬(0x80 ≤ a ∧ a < 0x100)) (hl : ¬(0x580 ≤ a ∧ a < 0xD80)) :
    (endOfKeptReset kind s).port.byteAt a = (establish kind s).port.byteAt a := by
  rw [endOfKeptReset_eq, rewriteStatus_byteAt_other _ hs, resetRaisings_port]
  obtain ⟨-, -, -, -, -, -, -, -, -, -, -, -, -, -, hb⟩ :=
    (keptResetLogged_quietKept kind s).kept.frame (establish_logInv kind s)
  exact hb a (by omega) hl

end EndOfKeptReset

theorem Memory.find_filter (f : Nat → Bool) (m : Memory) (a : Nat) :
    Memory.find (m.filter fun c => f c.1) a = if f a then Memory.find m a else none := by
  induction m with
  | nil => simp [Memory.find]
  | cons c m ih =>
    obtain ⟨k, b⟩ := c
    by_cases hk : k = a
    · subst hk
      cases hf : f k <;> simp_all [Memory.find]
    · cases hf : f k <;> simp_all [Memory.find]

/-- A reset keeps the data area, and writes directory and headers at their reset contents (R164, R165, R167). -/
theorem establish_byteAt (kind : ResetCause) (s : State) (a : Nat) :
    (establish kind s).port.byteAt a =
      if 0x580 ≤ a then s.port.byteAt a
      else (unlistedByte a).getD (Config.freeRamByte s.port.powerUps a) := by
  have hf : Memory.find (establish kind s).port.ram a = if 0x580 ≤ a then Memory.find s.port.ram a else none := by
    refine (Memory.find_filter (fun x => decide (0x580 ≤ x)) s.port.ram a).trans ?_
    simp
  unfold Port.byteAt
  rw [hf]
  by_cases ha : 0x580 ≤ a
  · rw [if_pos ha, if_pos ha]; rfl
  · rw [if_neg ha, if_neg ha]; rfl

theorem FaultTable.empty_record (k : FaultKind) : FaultTable.empty.record k = FaultRecord.empty := by
  cases k <;> rfl

/-- The record of a kind that a reset raises (R158). -/
theorem FaultRecord.empty_raise (now : Nat) :
    FaultRecord.empty.raise now = { state := .active, count := 1, first := some now, last := some now } := rfl

theorem resetRaisings_cursor (s : State) : (resetRaisings s).faults.cursor = s.faults.cursor := by
  unfold resetRaisings; split <;> rfl

theorem quietRaise_record_same (k : FaultKind) (s : State) :
    (quietRaise k s).faults.record k = (s.faults.record k).raise s.dsv.operatingSeconds := setRecord_record_same _ _ _

theorem quietRaise_record_other {j k : FaultKind} (s : State) (h : j ≠ k) :
    (quietRaise k s).faults.record j = s.faults.record j := setRecord_record_other _ _ h

/-- The raisings of a reset (R158). -/
theorem resetRaisings_record {s : State} (h : s.faults = FaultTable.empty) (k : FaultKind) :
    (resetRaisings s).faults.record k =
      if k = .configMissing ∨ (k = .socUnknown ∧ s.ena.socValid = false) then
        { state := .active, count := 1, first := some s.dsv.operatingSeconds, last := some s.dsv.operatingSeconds }
      else FaultRecord.empty := by
  have hempty (j : FaultKind) : s.faults.record j = FaultRecord.empty := by rw [h, FaultTable.empty_record]
  by_cases hk : k = .configMissing
  · subst hk
    have hraise : (resetRaisings s).faults.record .configMissing =
        (s.faults.record .configMissing).raise s.dsv.operatingSeconds := by
      unfold resetRaisings
      rw [quietRaise_record_same]
      split
      · rfl
      · rw [quietRaise_record_other _ (by decide)]; rfl
    rw [hraise, hempty]
    simp [FaultRecord.empty_raise]
  · unfold resetRaisings
    rw [quietRaise_record_other _ hk]
    cases hv : s.ena.socValid
    · by_cases hu : k = .socUnknown
      · subst hu
        simp [quietRaise_record_same, hempty, FaultRecord.empty_raise]
      · simp [quietRaise_record_other s hu, hempty, hk, hu]
    · simp [hempty, hk]

/-- What a reset that keeps the keep store leaves (R18, R19, R126, R158). -/
theorem endOfKeptReset_keptReset (kind : ResetCause) (s : State) : KeptReset kind s (endOfKeptReset kind s) := by
  have hquiet := keptResetLogged_quietKept kind s
  have hvalid : (keptResetLogged kind s).ena.socValid = s.ena.socValid :=
    (congrArg Ena.socValid hquiet.ena).trans rfl
  have hempty : (keptResetLogged kind s).faults = FaultTable.empty := hquiet.faults
  have hseconds : (keptResetLogged kind s).dsv.operatingSeconds = s.dsv.operatingSeconds := hquiet.seconds
  have hrecord (k : FaultKind) := resetRaisings_record hempty k
  simp only [← endOfKeptReset_faults, hvalid, hseconds] at hrecord
  have hrest := endOfKeptReset_rest kind s
  have hdsv := endOfKeptReset_dsv kind s
  have hcounter (c : Counter) := endOfKeptReset_counter_other kind s (c := c)
  have hwindow : (endOfKeptReset kind s).wear.windowOpen = s.wear.windowOpen :=
    (congrArg Wear.windowOpen (endOfKeptReset_wear kind s)).trans hquiet.window
  have hcursor : (endOfKeptReset kind s).faults.cursor = 27 := by
    rw [endOfKeptReset_faults, resetRaisings_cursor, hquiet.faults]; rfl
  have hexc := endOfKeptReset_exc kind s
  have hattn := endOfKeptReset_attn kind s
  have hattnEn := endOfKeptReset_attnEn kind s
  generalize endOfKeptReset kind s = t at *
  refine ⟨hdsv, congrArg Rest.sns hrest, congrArg Rest.ena hrest, congrArg Rest.spl hrest, congrArg Rest.tqa hrest,
    congrArg Rest.cpl hrest, congrArg Rest.bbl hrest, hwindow, hcounter, hrecord .configMissing, ?_, fun k h h' => ?_,
    hcursor, hexc, hattn, hattnEn, congrArg Rest.sent hrest, congrArg Rest.pending hrest⟩
  · refine (hrecord .socUnknown).trans ?_
    cases s.ena.socValid <;> rfl
  · refine (hrecord k).trans (if_neg ?_)
    rintro (hk | ⟨hk, -⟩)
    · exact h hk
    · exact h' hk

/-! ## The entries of such a reset -/

theorem establish_begins (kind : ResetCause) (s : State) : LogBegins s [] (establish kind s) :=
  ⟨rfl, fun h => Memory.wf_establish h, fun _ _ _ h => by simp at h⟩

/-- The entries of a reset that keeps the keep store, in their order (R20, R140). -/
def keptResetEntries (kind : ResetCause) (s : State) : List LogEntry :=
  openedEntries (establish kind s) ++
    (allCounters.filter (standsAfresh s.wear.counters (uncontrolledOpen (establish kind s)))).map fun c =>
      standingEntry c (uncontrolledOpen (establish kind s))

theorem keptResetLogged_begins (kind : ResetCause) (s : State) :
    LogBegins s (keptResetEntries kind s) (keptResetLogged kind s) :=
  standingWarnings_begins _ allCounters (uncontrolledOpen_begins (establish_begins kind s)) (by
    have h := openedEntries_length (establish kind s)
    have ha : allCounters.length = 10 := rfl
    omega)

theorem endOfKeptReset_begins (kind : ResetCause) (s : State) :
    LogBegins s (keptResetEntries kind s) (endOfKeptReset kind s) := by
  obtain ⟨hring, hmemory, hslots⟩ := keptResetLogged_begins kind s
  have hbytes (a : Nat) (h : ¬(0x80 ≤ a ∧ a < 0x100)) :
      (endOfKeptReset kind s).port.byteAt a = (keptResetLogged kind s).port.byteAt a := by
    rw [endOfKeptReset_eq, rewriteStatus_byteAt_other _ h, resetRaisings_port]
  refine ⟨(endOfKeptReset_log kind s).trans hring, fun hm => ?_, fun hm i e he => ?_⟩
  · have hraised : MemoryInv (resetRaisings (keptResetLogged kind s)) := by
      unfold MemoryInv
      rw [resetRaisings_port]
      exact hmemory hm
    rw [endOfKeptReset_eq]
    unfold MemoryInv
    rw [rewriteStatus_port]
    exact Port.wf_setWords _ _ _ hraised
  · rw [← hslots hm i e he]
    refine Port.wordsAt_congr fun x hx _ => hbytes x ?_
    unfold slotAddr at hx
    omega

/-- LOG_TAKE after such a reset: the number of the entries (R149, R151). -/
theorem LogBegins.readRegister {before : State} {es : List LogEntry} {s : State} (h : LogBegins before es s)
    (hn : es.length < 64) : readRegister s 6 = s.log.nextSequence ∧ (es = [] → readRegister s 6 = 0) := by
  have hread : Machine.readRegister s 6 = packBytes s.log.occupancy s.log.readPos := rfl
  have hbegun : packBytes (LogRing.begun es.length).occupancy (LogRing.begun es.length).readPos =
      (LogRing.begun es.length).nextSequence := by
    show BitVec.ofNat 16 (min es.length 255 + 256 * min 0 255) = BitVec.ofNat 16 es.length
    congr 1
    omega
  rw [hread, h.ring]
  refine ⟨hbegun, fun he => ?_⟩
  subst he
  rfl

theorem keptResetEntries_length (kind : ResetCause) (s : State) : (keptResetEntries kind s).length < 64 := by
  have hopen := openedEntries_length (establish kind s)
  have hstand := List.length_filter_le (standsAfresh s.wear.counters (uncontrolledOpen (establish kind s))) allCounters
  have ha : allCounters.length = 10 := rfl
  unfold keptResetEntries
  rw [List.length_append, List.length_map]
  omega

/-- Without a set POS-closed flag and without a warned counter such a reset makes no entry. -/
theorem keptResetEntries_nil (kind : ResetCause) {s : State} (hflag : s.dsv.posFlag = false)
    (hwarned : ∀ c : Counter, (s.counter c).warned = .none) : keptResetEntries kind s = [] := by
  have hopen : openedEntries (establish kind s) = [] := by
    unfold openedEntries
    rw [if_neg (by simpa [establish] using hflag)]
  have hclear : uncontrolledOpen (establish kind s) = establish kind s := uncontrolledOpen_clear hflag
  have hfilter : allCounters.filter (standsAfresh s.wear.counters (establish kind s)) = [] := by
    rw [List.filter_eq_nil_iff]
    intro c _
    have hc : ((establish kind s).counter c).warned = .none := hwarned c
    simp [standsAfresh, hc]
  unfold keptResetEntries
  rw [hopen, hclear, hfilter]
  rfl

/-! ## The resets by their commands -/

/-- The state from which main power with RESET released resets the part: a fresh content of the RAM (R164). -/
def poweredUp (kind : ResetCause) (vkeep : Bool) (s : State) : State :=
  { s with
    supply := { s.supply with main := true, keep := vkeep, markerHolds := decide (kind ≠ .keepPowerUp) },
    port := { s.port with ram := [], powerUps := s.port.powerUps + 1 } }

/-- The state in which RESET, held across a main power-up, waits for its release (R19, log 30). -/
def poweredUpHeld (kind : ResetCause) (vkeep : Bool) (s : State) : State :=
  forceOpen { poweredUp kind vkeep s with
    supply := { (poweredUp kind vkeep s).supply with heldPowerUp := some kind } }

/-- The state from which the release of RESET resets the part. -/
def released (s : State) : State := { s with supply := { s.supply with resetAsserted := false } }

theorem powerUp_free (kind : ResetCause) (vkeep : Bool) {s : State} (h : s.supply.resetAsserted = false) :
    powerUp kind vkeep s = endOfReset kind (poweredUp kind vkeep s) := by
  unfold powerUp
  rw [h]
  rfl

theorem powerUp_held (kind : ResetCause) (vkeep : Bool) {s : State} (h : s.supply.resetAsserted = true) :
    powerUp kind vkeep s = poweredUpHeld kind vkeep s := by
  unfold powerUp
  rw [h]
  rfl

theorem releaseReset_main {s : State} (h : s.supply.main = true) :
    releaseReset s = endOfReset (s.supply.heldPowerUp.getD .pin) (released s) := by
  unfold releaseReset
  rw [h]
  rfl

theorem execMainPowerUp_marker (vkeep : Bool) {s : State} (h : s.supply.markerHolds = true) :
    exec (.mainPowerUp vkeep) s = .next (powerUp .mainPowerUp vkeep s) := by
  show Host.Outcome.next _ = _
  rw [h]
  rfl

/-- What stands between a power-up with RESET held and the release (R2, R18; log 30). -/
theorem poweredUpHeld_waits (kind : ResetCause) (vkeep : Bool) {s : State} (h : s.supply.resetAsserted = true) :
    (poweredUpHeld kind vkeep s).supply.main = true ∧ (poweredUpHeld kind vkeep s).running = false ∧
      contactorOutputs (poweredUpHeld kind vkeep s) = (false, false, false) :=
  ⟨rfl, running_of_reset h, rfl⟩

/-! ## The keep power-up -/

/-- The count of power-ups takes no part in a write of words. -/
theorem Port.setWords_withPowerUps (p : Port) (n a : Nat) (ws : List Word) :
    ({ p with powerUps := n } : Port).setWords a ws = { p.setWords a ws with powerUps := n } := by
  induction ws generalizing p a with
  | nil => rfl
  | cons w ws ih => exact ih (p.setWord a w) (a + 2)

theorem Port.setCause_withPowerUps (p : Port) (n : Nat) (c : Cause) :
    ({ p with powerUps := n } : Port).setCause c = { p.setCause c with powerUps := n } := by
  unfold Port.setCause Port.setAttn
  split <;> rfl

theorem Port.quietAppend_withPowerUps (p : Port) (n : Nat) (r : LogRing) (e : LogEntry) :
    ({ p with powerUps := n } : Port).afterAppend true r e = { p.afterAppend true r e with powerUps := n } := by
  unfold Port.afterAppend
  split
  · split
    · rw [Port.setWords_withPowerUps]; rfl
    · rfl
  · rfl

theorem statusWords_congr {s t : State} (hdsv : t.dsv = s.dsv) (hwear : t.wear = s.wear) (hexc : t.exc = s.exc)
    (hlog : t.log = s.log) (hattn : t.port.attn = s.port.attn) : statusWords t = statusWords s := by
  unfold statusWords
  rw [hdsv, hwear, hexc, hlog, hattn]

theorem retainedLost_rest (s : State) : (retainedLost s).rest = s.rest := rfl

theorem retainedLost_dsv (s : State) : (retainedLost s).dsv = s.dsv := rfl

theorem retainedLost_wear (s : State) : (retainedLost s).wear = s.wear := rfl

theorem retainedLost_exc (s : State) : (retainedLost s).exc = s.exc := rfl

/-- The window of a part just powered up, before the reset's cause and entry. -/
def freshPort : Port := { ram := [], attn := 0, attnEn := 0, powerUps := 1 }

/-- The same with RETAINED_LOST set and logged (R19). -/
def retainedLostPort : Port :=
  (freshPort.setCause .retainedLost).afterAppend true LogRing.empty (entryNow State.reset .retainedLost none none none)

theorem retainedLost_port {s : State} (h : s.port.ram = []) :
    (retainedLost (establish .keepPowerUp (initialiseRetained s))).port =
      { retainedLostPort with powerUps := s.port.powerUps } := by
  have hport : (establish .keepPowerUp (initialiseRetained s)).port = { freshPort with powerUps := s.port.powerUps } :=
    Port.eq_of_fields (congrArg Memory.establish h) rfl rfl rfl
  have hentry : entryNow (establish .keepPowerUp (initialiseRetained s)) .retainedLost none none none =
      entryNow State.reset .retainedLost none none none := rfl
  have hlog : (setCause .retainedLost (establish .keepPowerUp (initialiseRetained s))).log = LogRing.empty := rfl
  unfold retainedLost
  rw [hentry, logAppend_port, hlog, setCause_port, hport, Port.setCause_withPowerUps, Port.quietAppend_withPowerUps]
  rfl

theorem retainedLost_log (s : State) :
    (retainedLost (establish .keepPowerUp (initialiseRetained s))).log = LogRing.begun 1 :=
  LogRing.begun_afterAppend (n := 0) (by omega) _

/-- The reset contents of State.reset are what the cause, the entry and the status block write (log 1). -/
theorem retainedLostPort_status : retainedLostPort.setWords (statusAddr 0) (statusWords State.reset) = State.reset.port := by
  decide +kernel

theorem Supply.established {p : Supply} (h : p.main = true) :
    ({ p with markerHolds := true, resetAsserted := false, heldPowerUp := none } : Supply) =
      { State.reset.supply with keep := p.keep } := by
  obtain ⟨main, keep, marker, resetAsserted, held⟩ := p
  subst h
  rfl

theorem establish_keepPowerUp_rest {s : State} (h : s.supply.main = true) :
    (establish .keepPowerUp (initialiseRetained s)).rest =
      { State.reset.rest with
        supply := { State.reset.supply with keep := s.supply.keep }, pending := s.pending } :=
  congrArg (fun u => { (establish .keepPowerUp (initialiseRetained s)).rest with supply := u }) (Supply.established h)

/-- The fault table right after a keep power-up (R158). -/
theorem resetRaisings_faults {s : State} (hfaults : s.faults = FaultTable.empty) (hvalid : s.ena.socValid = false)
    (hseconds : s.dsv.operatingSeconds = 0) : (resetRaisings s).faults = FaultTable.reset := by
  have hraised : resetRaisings s = quietRaise .configMissing (quietRaise .socUnknown s) := by
    unfold resetRaisings
    rw [hvalid]
    rfl
  rw [hraised]
  unfold quietRaise setRecord
  simp only [hfaults, hseconds]
  rfl

/-- A keep power-up leads to the reset state, but for VKEEP's level, the count of power-ups and the queue (R19; log 1). -/
theorem endOfKeepPowerUp_state {s : State} (hmain : s.supply.main = true) (hram : s.port.ram = []) :
    endOfKeepPowerUp s =
      { State.reset with
        supply := { State.reset.supply with keep := s.supply.keep },
        port := { State.reset.port with powerUps := s.port.powerUps }, pending := s.pending } := by
  have hport := retainedLost_port hram
  have hlog := retainedLost_log s
  have hdsv := (resetRaisings_dsv _).trans (retainedLost_dsv (establish .keepPowerUp (initialiseRetained s)))
  have hwear := (resetRaisings_wear _).trans (retainedLost_wear (establish .keepPowerUp (initialiseRetained s)))
  have hexc := (resetRaisings_exc _).trans (retainedLost_exc (establish .keepPowerUp (initialiseRetained s)))
  have hrest := (resetRaisings_rest _).trans (retainedLost_rest (establish .keepPowerUp (initialiseRetained s)))
  have hfaults : (resetRaisings (retainedLost (establish .keepPowerUp (initialiseRetained s)))).faults = FaultTable.reset :=
    resetRaisings_faults rfl rfl rfl
  unfold endOfKeepPowerUp
  generalize retainedLost (establish .keepPowerUp (initialiseRetained s)) = u at *
  have hattn : retainedLostPort.attn = State.reset.port.attn := by decide +kernel
  have hwords : statusWords (resetRaisings u) = statusWords State.reset := by
    refine statusWords_congr (hdsv.trans rfl) (hwear.trans rfl) (hexc.trans rfl) ?_ ?_
    · rw [resetRaisings_log, hlog]; rfl
    · rw [resetRaisings_port, hport]; dsimp only; rw [hattn]
  refine State.eq_of_fields ?_ ?_ ?_ ?_ ?_ ?_ ?_
  · rw [rewriteStatus_rest, hrest]
    exact establish_keepPowerUp_rest hmain
  · rw [rewriteStatus_dsv, hdsv]; rfl
  · rw [rewriteStatus_faults, hfaults]; rfl
  · rw [rewriteStatus_wear, hwear]; rfl
  · rw [rewriteStatus_log, resetRaisings_log, hlog]; rfl
  · rw [rewriteStatus_exc, hexc]; rfl
  · rw [rewriteStatus_port, hwords, resetRaisings_port, hport, Port.setWords_withPowerUps, retainedLostPort_status]

/-- Settles O7, by the state of a keep power-up at once and at the release of RESET. -/
theorem keepPowerUpGivesResetState : Obligations.KeepPowerUpGivesResetState := by
  intro vkeep s
  refine ⟨fun hfree => ?_, fun hheld => ?_, fun hmarker => ?_⟩
  · refine congrArg Host.Outcome.next ((powerUp_free .keepPowerUp vkeep hfree).trans ?_)
    exact endOfKeepPowerUp_state rfl rfl
  · obtain ⟨hmain, hrun, hout⟩ := poweredUpHeld_waits .keepPowerUp vkeep hheld
    refine ⟨_, congrArg Host.Outcome.next (powerUp_held .keepPowerUp vkeep hheld), hmain, hrun, hout, ?_⟩
    refine congrArg Host.Outcome.next ((releaseReset_main hmain).trans ?_)
    exact endOfKeepPowerUp_state rfl rfl
  · show Host.Outcome.next _ = _
    rw [hmarker]
    rfl

/-! ## The resets that keep the keep store -/

theorem exec_pinReset {s : State} (hmain : s.supply.main = true) (hheld : s.supply.heldPowerUp = none) :
    exec .pinReset s = .next (endOfKeptReset .pin (released s)) := by
  refine congrArg Host.Outcome.next ((releaseReset_main hmain).trans ?_)
  rw [hheld]
  rfl

theorem exec_mainPowerUp {s : State} (v : Bool) (hfree : s.supply.resetAsserted = false)
    (hmarker : s.supply.markerHolds = true) :
    exec (.mainPowerUp v) s = .next (endOfKeptReset .mainPowerUp (poweredUp .mainPowerUp v s)) :=
  (execMainPowerUp_marker v hmarker).trans (congrArg Host.Outcome.next (powerUp_free .mainPowerUp v hfree))

/-- What such a reset leaves of a state with the same records (R18, R19), and what LOG_TAKE then reads (R149, R151). -/
theorem endOfKeptReset_keeps (kind : ResetCause) (s : State) :
    KeptReset kind s (endOfKeptReset kind s) ∧
      readRegister (endOfKeptReset kind s) 6 = (endOfKeptReset kind s).log.nextSequence ∧
      (s.dsv.posFlag = false → (∀ c : Counter, (s.counter c).warned = .none) →
        readRegister (endOfKeptReset kind s) 6 = 0) := by
  obtain ⟨hread, hzero⟩ := (endOfKeptReset_begins kind s).readRegister (keptResetEntries_length kind s)
  exact ⟨endOfKeptReset_keptReset kind s, hread, fun hflag hwarned => hzero (keptResetEntries_nil kind hflag hwarned)⟩

theorem wordsAt_establish (kind : ResetCause) (s : State) {a n : Nat}
    (h : a + 2 * n ≤ 0x80 ∨ (0x100 ≤ a ∧ a + 2 * n ≤ 0x580)) :
    (endOfKeptReset kind s).port.wordsAt a n = freshPort.wordsAt a n := by
  refine Port.wordsAt_congr fun x hx hy => ?_
  rw [endOfKeptReset_byteAt kind s (by omega) (by omega), establish_byteAt, if_neg (by omega)]
  have hsome : (unlistedByte x).isSome = true := by
    unfold unlistedByte
    split
    · rfl
    · split
      · rfl
      · rw [if_pos (by omega)]; rfl
  obtain ⟨b, hb⟩ := Option.isSome_iff_exists.1 hsome
  show _ = (unlistedByte x).getD _
  rw [hb]
  rfl

/-- Settles O8, by what such a reset leaves and the log that it begins. -/
theorem keptResetsKeepTheKeepStore : Obligations.KeptResetsKeepTheKeepStore := by
  refine ⟨fun kind s => ⟨rfl, rfl, rfl, rfl⟩, fun vkeep s hfree hmarker => ?_, fun vkeep s hheld hmarker => ?_,
    fun s hmain hnone => ?_⟩
  · obtain ⟨hkept, hread⟩ := endOfKeptReset_keeps .mainPowerUp (poweredUp .mainPowerUp vkeep s)
    exact ⟨_, exec_mainPowerUp vkeep hfree hmarker, hkept, hread⟩
  · obtain ⟨hmain, hrun, hout⟩ := poweredUpHeld_waits .mainPowerUp vkeep hheld
    obtain ⟨hkept, hread⟩ := endOfKeptReset_keeps .mainPowerUp (released (poweredUpHeld .mainPowerUp vkeep s))
    refine ⟨_, _, (execMainPowerUp_marker vkeep hmarker).trans
      (congrArg Host.Outcome.next (powerUp_held .mainPowerUp vkeep hheld)), hmain, hrun, hout,
      congrArg Host.Outcome.next (releaseReset_main hmain), ?_, hkept, hread⟩
    show (endOfKeptReset .mainPowerUp _).running = true
    unfold State.running
    rw [endOfKeptReset_supply]
    rfl
  · obtain ⟨hkept, hread⟩ := endOfKeptReset_keeps .pin (released s)
    refine ⟨_, exec_pinReset hmain hnone, hkept, hread, fun a ha => ?_, fun c => ?_, fun k => ?_⟩
    · rw [endOfKeptReset_byteAt .pin _ (by omega) (by omega), establish_byteAt, if_pos (by omega)]
      rfl
    · rw [wordsAt_establish .pin _ (by unfold dirAddr; omega)]
      revert c
      decide +kernel
    · rw [wordsAt_establish .pin _ (by unfold headerAddr; omega)]
      revert k
      decide +kernel

/-- The entries of such a reset, from the counters before it and the stamps of the state it leaves, as R20 and R140 give
them. -/
def resetEntries (s t : State) : List LogEntry :=
  let r := s.counter w7
  let value := min (r.value + 1) 4294967295
  let urgentNow : Bool := decide (r.urgent ≠ 0 ∧ r.urgent ≤ value ∧ r.warned ≠ .urgent)
  let adviseNow : Bool := decide (r.advise ≠ 0 ∧ r.advise ≤ value ∧ r.warned = .none)
  let opened : List LogEntry :=
    if s.dsv.posFlag then
      entryNow t .uncontrolledOpen none none none ::
        (if urgentNow then [entryNow t .wearUrgent (some w7) (some (value : Int)) (some r.urgent)]
        else if adviseNow then [entryNow t .wearAdvise (some w7) (some (value : Int)) (some r.advise)] else [])
    else []
  let stands (c : Counter) : Bool :=
    decide ((s.counter c).warned ≠ .none) && !(s.dsv.posFlag && decide (c = w7) && (urgentNow || adviseNow))
  let standing (c : Counter) : LogEntry :=
    { kind := if (s.counter c).warned = .urgent then .wearUrgent else .wearAdvise, source := some c,
      value := some ((t.counter c).value : Int),
      threshold := some (if (s.counter c).warned = .urgent then (s.counter c).urgent else (s.counter c).advise),
      odometer := (s.counter c).stampOdometer, seconds := (s.counter c).stampSeconds, frame := t.exc.frameNumber }
  opened ++ (([0, 1, 2, 3, 4, 5, 6, 7, 8, 9] : List Counter).filter stands).map standing

theorem entryNow_congr {s t : State} (hodometer : t.sns.odometer = s.sns.odometer)
    (hseconds : t.dsv.operatingSeconds = s.dsv.operatingSeconds) (hframe : t.exc.frameNumber = s.exc.frameNumber)
    (k : LogKind) (c : Option Counter) (v : Option Int) (h : Option Nat) : entryNow t k c v h = entryNow s k c v h := by
  unfold entryNow
  rw [hodometer, hseconds, hframe]

/-- The warning that one more count gives a record (R127, R130). -/
theorem countedRecord_due (r : WearRecord) :
    (countedRecord r).due =
      if r.urgent ≠ 0 ∧ r.urgent ≤ min (r.value + 1) 4294967295 ∧ r.warned ≠ .urgent then some .urgent
      else if r.advise ≠ 0 ∧ r.advise ≤ min (r.value + 1) 4294967295 ∧ r.warned = .none then some .advise else none := rfl

theorem openedEntries_eq {s t : State} (hsns : t.sns = s.sns) (hseconds : t.dsv.operatingSeconds = s.dsv.operatingSeconds)
    (hexc : t.exc = s.exc) :
    openedEntries s =
      let r := s.counter w7
      let value := min (r.value + 1) 4294967295
      if s.dsv.posFlag then
        entryNow t .uncontrolledOpen none none none ::
          (if decide (r.urgent ≠ 0 ∧ r.urgent ≤ value ∧ r.warned ≠ .urgent) then
            [entryNow t .wearUrgent (some w7) (some (value : Int)) (some r.urgent)]
          else if decide (r.advise ≠ 0 ∧ r.advise ≤ value ∧ r.warned = .none) then
            [entryNow t .wearAdvise (some w7) (some (value : Int)) (some r.advise)] else [])
      else [] := by
  have hentry := entryNow_congr (congrArg Sns.odometer hsns) hseconds (congrArg Exc.frameNumber hexc)
  unfold openedEntries dueEntry
  rw [setCounter_counter_same, countedRecord_due]
  simp only [hentry, decide_eq_true_eq]
  split
  case isFalse => rfl
  case isTrue =>
    refine congrArg _ ?_
    by_cases hu : (s.counter w7).urgent ≠ 0 ∧ (s.counter w7).urgent ≤ min ((s.counter w7).value + 1) 4294967295 ∧
        (s.counter w7).warned ≠ .urgent
    · rw [if_pos hu, if_pos hu]
      rfl
    · rw [if_neg hu, if_neg hu]
      by_cases ha : (s.counter w7).advise ≠ 0 ∧ (s.counter w7).advise ≤ min ((s.counter w7).value + 1) 4294967295 ∧
          (s.counter w7).warned = .none
      · rw [if_pos ha, if_pos ha]
        rfl
      · rw [if_neg ha, if_neg ha]

/-- A warning given afresh is one that stood before the check of R20: that check changed at most its counter's value. -/
theorem uncontrolledOpen_counter_stands {s : State} {c : Counter}
    (h : standsAfresh s.wear.counters (uncontrolledOpen s) c = true) :
    ∃ value, (uncontrolledOpen s).counter c = { s.counter c with value := value } := by
  by_cases hc : s.dsv.posFlag = true ∧ c = w7
  case neg =>
    refine ⟨(s.counter c).value, ?_⟩
    by_cases hflag : s.dsv.posFlag = true
    · exact uncontrolledOpen_counter_other s fun hw => hc ⟨hflag, hw⟩
    · rw [uncontrolledOpen_clear (Bool.not_eq_true _ ▸ hflag)]
  case pos =>
    obtain ⟨hflag, rfl⟩ := hc
    have hrec := uncontrolledOpen_counter_w7 hflag
    cases hdue : (countedRecord (s.counter w7)).due with
    | none =>
      rw [hdue] at hrec
      exact ⟨_, hrec⟩
    | some level =>
      rw [hdue] at hrec
      have hsame : level = (s.counter w7).warned := by
        simp only [standsAfresh, hrec, Bool.not_eq_true', decide_eq_false_iff_not, not_or, not_not] at h
        exact h.2
      rw [countedRecord_due] at hdue
      grind [standsAfresh]

theorem standsAfresh_eq (s : State) (c : Counter) :
    standsAfresh s.wear.counters (uncontrolledOpen s) c =
      (decide ((s.counter c).warned ≠ .none) &&
        !(s.dsv.posFlag && decide (c = w7) && (countedRecord (s.counter w7)).due.isSome)) := by
  have hsame (h : (uncontrolledOpen s).counter c = { s.counter c with value := ((uncontrolledOpen s).counter c).value }) :
      standsAfresh s.wear.counters (uncontrolledOpen s) c = decide ((s.counter c).warned ≠ .none) := by
    unfold standsAfresh
    rw [h]
    by_cases hw : (s.counter c).warned = .none <;> simp [hw, show s.wear.counters.get c = s.counter c from rfl]
  by_cases hc : s.dsv.posFlag = true ∧ c = w7
  case neg =>
    have hb : (s.dsv.posFlag && decide (c = w7)) = false := by simpa using hc
    rw [hb, Bool.false_and, Bool.not_false, Bool.and_true]
    refine hsame ?_
    by_cases hflag : s.dsv.posFlag = true
    · rw [uncontrolledOpen_counter_other s fun hw => hc ⟨hflag, hw⟩]
    · rw [uncontrolledOpen_clear (Bool.not_eq_true _ ▸ hflag)]
  case pos =>
    obtain ⟨hflag, rfl⟩ := hc
    have hrec := uncontrolledOpen_counter_w7 hflag
    cases hdue : (countedRecord (s.counter w7)).due with
    | none =>
      rw [hdue] at hrec
      rw [hsame (by rw [hrec]; rfl)]
      simp
    | some level =>
      rw [hdue] at hrec
      have hnew : level ≠ (s.counter w7).warned := by
        rw [countedRecord_due] at hdue
        grind
      have hno : standsAfresh s.wear.counters (uncontrolledOpen s) w7 = false := by
        unfold standsAfresh
        rw [hrec]
        simp only [Bool.not_eq_false', decide_eq_true_eq]
        exact .inr hnew
      rw [hno, hflag]
      simp

/-- The entry of a warning given afresh, from the record before the check of R20 (R140). -/
theorem standingEntry_eq {s t u : State} {c : Counter} {value : Nat}
    (hrecord : u.counter c = { s.counter c with value := value }) (hstands : (s.counter c).warned ≠ .none)
    (hcounter : t.counter c = u.counter c) (hexc : t.exc = u.exc) :
    standingEntry c u =
      { kind := if (s.counter c).warned = .urgent then .wearUrgent else .wearAdvise, source := some c,
        value := some ((t.counter c).value : Int),
        threshold := some (if (s.counter c).warned = .urgent then (s.counter c).urgent else (s.counter c).advise),
        odometer := (s.counter c).stampOdometer, seconds := (s.counter c).stampSeconds, frame := t.exc.frameNumber } := by
  unfold standingEntry entryNow
  rw [hcounter, hexc, hrecord]
  dsimp only
  cases hw : (s.counter c).warned with
  | none => exact absurd hw hstands
  | advise => rfl
  | urgent => rfl

theorem sns_of_rest {s t : State} (h : t.rest = s.rest) : t.sns = s.sns := congrArg Rest.sns h

/-- The entries are those of R20 and R140. -/
theorem keptResetEntries_eq (kind : ResetCause) (s : State) :
    keptResetEntries kind s = resetEntries s (endOfKeptReset kind s) := by
  have hrest := endOfKeptReset_rest kind s
  have hexc : (endOfKeptReset kind s).exc = (establish kind s).exc := endOfKeptReset_exc kind s
  have hseconds : (endOfKeptReset kind s).dsv.operatingSeconds = (establish kind s).dsv.operatingSeconds := by
    rw [endOfKeptReset_dsv]; rfl
  have hcounter (c : Counter) := endOfKeptReset_counter kind s c
  have hsns : (endOfKeptReset kind s).sns = (establish kind s).sns := sns_of_rest hrest
  generalize endOfKeptReset kind s = t at *
  have hdue : (countedRecord ((establish kind s).counter w7)).due.isSome = _ :=
    congrArg Option.isSome (countedRecord_due (s.counter w7))
  unfold keptResetEntries resetEntries
  refine congrArg₂ _ (openedEntries_eq hsns hseconds hexc) ?_
  rw [List.map_congr_left (g := fun c =>
    ({ kind := if (s.counter c).warned = .urgent then .wearUrgent else .wearAdvise, source := some c,
       value := some ((t.counter c).value : Int),
       threshold := some (if (s.counter c).warned = .urgent then (s.counter c).urgent else (s.counter c).advise),
       odometer := (s.counter c).stampOdometer, seconds := (s.counter c).stampSeconds,
       frame := t.exc.frameNumber } : LogEntry))]
  · refine congrArg _ (List.filter_congr fun c _ => (standsAfresh_eq (establish kind s) c).trans ?_)
    rw [hdue]
    refine congrArg (fun b => _ && !(_ && _ && b)) ?_
    split_ifs with hu ha
    · rw [decide_eq_true hu]; rfl
    · rw [decide_eq_false hu, decide_eq_true ha]; rfl
    · rw [decide_eq_false hu, decide_eq_false ha]; rfl
  · intro c hc
    have hkept := List.of_mem_filter hc
    obtain ⟨value, hvalue⟩ := uncontrolledOpen_counter_stands (s := establish kind s) hkept
    have hkept' := hkept
    rw [show s.wear.counters = (establish kind s).wear.counters from rfl, standsAfresh_eq] at hkept'
    have hstands : (s.counter c).warned ≠ .none := of_decide_eq_true (Bool.and_elim_left hkept')
    exact standingEntry_eq hvalue hstands (hcounter c) (hexc.trans (uncontrolledOpen_quietKept _).exc.symm)

/-- What R20 and R140 say of the end of such a reset. -/
theorem endOfKeptReset_opened (kind : ResetCause) {s : State} (hm : MemoryInv s) :
    (endOfKeptReset kind s).dsv.posFlag = false ∧
      (s.dsv.posFlag = true →
        ((endOfKeptReset kind s).counter w7).value = min ((s.counter w7).value + 1) 4294967295) ∧
      (s.dsv.posFlag = false → (endOfKeptReset kind s).counter w7 = s.counter w7) ∧
      (∀ d : Counter, d ≠ w7 → (endOfKeptReset kind s).counter d = s.counter d) ∧
      (endOfKeptReset kind s).log.occupancy = (resetEntries s (endOfKeptReset kind s)).length ∧
      ∀ (i : Nat) (e : LogEntry), (resetEntries s (endOfKeptReset kind s))[i]? = some e →
        (endOfKeptReset kind s).port.wordsAt (slotAddr i) 16 = e.words (BitVec.ofNat 16 i) := by
  have hlog := endOfKeptReset_begins kind s
  rw [← keptResetEntries_eq]
  refine ⟨?_, fun hflag => ?_, fun hflag => endOfKeptReset_counter_other kind s (.inl hflag),
    fun d hd => endOfKeptReset_counter_other kind s (.inr hd), ?_, hlog.slots hm⟩
  · rw [endOfKeptReset_dsv]; rfl
  · rw [endOfKeptReset_counter, uncontrolledOpen_counter_w7 (s := establish kind s) hflag]
    cases (countedRecord ((establish kind s).counter w7)).due <;> rfl
  · rw [hlog.ring]; rfl

/-- Settles O9, by the entries of the reset that each of the two commands ends in. -/
theorem uncontrolledOpenAndStandingWarnings : Obligations.UncontrolledOpenAndStandingWarnings := by
  intro s hm r value urgentNow adviseNow opened stands standing entries c hc
  rcases hc with ⟨rfl, hmain, hheld⟩ | ⟨⟨v, rfl⟩, hfree, hmarker⟩
  · exact ⟨_, exec_pinReset hmain hheld, endOfKeptReset_opened .pin (s := released s) hm⟩
  · exact ⟨_, exec_mainPowerUp v hfree hmarker,
      endOfKeptReset_opened .mainPowerUp (s := poweredUp .mainPowerUp v s) rfl⟩

end Sys2Proof.Machine
end

section
/-! PROOF. The driveline supervisor's tests: what each gives in its state, what they leave as it was, and the timers whose
events end in them (R1, R4 to R11). -/

namespace Sys2Proof.Machine

open Sys2Proof

/-! ## The port after a change of driveline state -/

/-- The port q shows the driveline state that p's part entered: STATE_CHANGE, the status block's word and the attention mirror
are written, and only the listed items of the status block (R1, R180, R182). -/
structure StateShown (items : List Nat) (st : DrivelineState) (p q : Port) : Prop where
  attn : q.attn = p.attn ||| Cause.stateChange.bit
  attnEn : q.attnEn = p.attnEn
  powerUps : q.powerUps = p.powerUps
  outside : ∀ a : Nat, (∀ i ∈ items, a ≠ statusAddr i ∧ a ≠ statusAddr i + 1) → q.byteAt a = p.byteAt a
  memory : Memory.wf p.ram = true → Memory.wf q.ram = true
  code : Memory.wf p.ram = true → q.wordAt (statusAddr 1) = natWord st.code
  mirror : Memory.wf p.ram = true → q.attn ≠ p.attn → q.wordAt (statusAddr 11) = q.attn.setWidth 16
  mirrorKept : q.attn = p.attn → q.wordAt (statusAddr 11) = p.wordAt (statusAddr 11)

theorem Port.wordAt_setAttn_mirror {p : Port} {a : BitVec 8} (h : Memory.wf p.ram = true) (ha : a ≠ p.attn) :
    (p.setAttn a).wordAt (statusAddr 11) = a.setWidth 16 := by
  unfold Port.setAttn
  rw [if_neg ha]
  exact Port.wordAt_setWord_same _ _ (by decide) h

theorem Port.wordAt_setAttn_other (p : Port) (a : BitVec 8) {x : Nat} (h : x + 1 < statusAddr 11 ∨ statusAddr 11 + 1 < x) :
    (p.setAttn a).wordAt x = p.wordAt x := by
  unfold Port.wordAt
  rw [Port.byteAt_setAttn_other _ _ (by omega) (by omega), Port.byteAt_setAttn_other _ _ (by omega) (by omega)]

theorem setDrivelineState_shown (st : DrivelineState) (s : State) :
    StateShown [1, 11] st s.port (setDrivelineState st s).port := by
  rw [setDrivelineState_port]
  generalize s.port = p
  have hset (h : Memory.wf p.ram = true) := Port.wf_setStatus p 1 (natWord st.code) h
  unfold Port.setCause
  refine ⟨Port.setAttn_attn _ _, Port.setAttn_attnEn _ _, Port.setAttn_powerUps _ _, fun a ha => ?_,
    fun h => Port.wf_setAttn _ _ (hset h), fun h => ?_, fun h hn => ?_, fun he => ?_⟩
  · obtain ⟨hcode, hmirror⟩ : (a ≠ statusAddr 1 ∧ a ≠ statusAddr 1 + 1) ∧ a ≠ statusAddr 11 ∧ a ≠ statusAddr 11 + 1 :=
      ⟨ha 1 (by simp), ha 11 (by simp)⟩
    rw [Port.byteAt_setAttn_other _ _ hmirror.1 hmirror.2]
    exact Port.byteAt_setWord_other _ _ hcode.1 hcode.2
  · rw [Port.wordAt_setAttn_other _ _ (by decide)]
    exact Port.wordAt_setWord_same p _ (by decide) h
  · rw [Port.setAttn_attn] at hn ⊢
    exact Port.wordAt_setAttn_mirror (hset h) hn
  · rw [Port.setAttn_attn] at he
    unfold Port.setAttn
    rw [if_pos (he.trans (Port.setStatus_attn p 1 (natWord st.code)).symm)]
    exact Port.wordAt_setWord_other p _ (by decide)

theorem StateShown.mono {is js : List Nat} {st : DrivelineState} {p q : Port} (h : StateShown is st p q)
    (hij : ∀ i ∈ is, i ∈ js) : StateShown js st p q :=
  { h with outside := fun a ha => h.outside a fun i hi => ha i (hij i hi) }

/-- A second change of state in the same event (R1). -/
theorem StateShown.trans {is : List Nat} {st st' : DrivelineState} {p q r : Port} (h : StateShown is st p q)
    (k : StateShown is st' q r) : StateShown is st' p r := by
  have hattn : r.attn = q.attn := by
    rw [k.attn, h.attn, BitVec.or_assoc, BitVec.or_self]
  refine ⟨hattn.trans h.attn, k.attnEn.trans h.attnEn, k.powerUps.trans h.powerUps,
    fun a ha => (k.outside a ha).trans (h.outside a ha), fun hm => k.memory (h.memory hm), fun hm => k.code (h.memory hm),
    fun hm hn => ?_, fun he => ?_⟩
  · rw [k.mirrorKept hattn, hattn]
    exact h.mirror hm (hattn ▸ hn)
  · rw [k.mirrorKept hattn]
    exact h.mirrorKept (hattn.symm.trans he)

/-- The reseed window's close writes the items 4 and 5 alone (R132, R180). -/
theorem StateShown.closeWindow {is : List Nat} {st : DrivelineState} {p : Port} {t : State} (h : StateShown is st p t.port)
    (h4 : 4 ∈ is) (h5 : 5 ∈ is) : StateShown is st p (closeWindow t).port := by
  have hport : (Machine.closeWindow t).port = t.port ∨
      (Machine.closeWindow t).port = (t.port.setStatus 5 0).setStatus 4 1 := by
    unfold Machine.closeWindow
    split
    · exact .inr rfl
    · exact .inl rfl
  rcases hport with hport | hport
  · rwa [hport]
  · rw [hport]
    have hword (x : Nat) (hx : x = statusAddr 1 ∨ x = statusAddr 11) :
        ((t.port.setStatus 5 0).setStatus 4 1).wordAt x = t.port.wordAt x := by
      unfold Port.setStatus
      rw [Port.wordAt_setWord_other _ _ (by unfold statusAddr at *; omega),
        Port.wordAt_setWord_other _ _ (by unfold statusAddr at *; omega)]
    refine ⟨h.attn, h.attnEn, h.powerUps, fun a ha => ?_,
      fun hm => Port.wf_setStatus _ _ _ (Port.wf_setStatus _ _ _ (h.memory hm)),
      fun hm => (hword _ (.inl rfl)).trans (h.code hm), fun hm hn => (hword _ (.inr rfl)).trans (h.mirror hm hn),
      fun he => (hword _ (.inr rfl)).trans (h.mirrorKept he)⟩
    obtain ⟨ha4, ha4'⟩ := ha 4 h4
    obtain ⟨ha5, ha5'⟩ := ha 5 h5
    rw [← h.outside a ha]
    unfold Port.setStatus
    rw [Port.byteAt_setWord_other _ _ ha4 ha4', Port.byteAt_setWord_other _ _ ha5 ha5']

theorem enterDrive_shown (s : State) : StateShown [1, 4, 5, 11] .drive s.port (enterDrive s).port :=
  ((setDrivelineState_shown .drive s).mono (by decide)).closeWindow (by decide) (by decide)

/-- What the statements say of the port after a change of state. -/
theorem StateShown.statement {is : List Nat} {st : DrivelineState} {s t : State} (h : StateShown is st s.port t.port) :
    t.port.attn = s.port.attn ||| Cause.stateChange.bit ∧ PortOutsideStatus is s t ∧
      (MemoryInv s → t.port.wordAt (statusAddr 1) = natWord st.code ∧
        (t.port.attn ≠ s.port.attn → t.port.wordAt (statusAddr 11) = t.port.attn.setWidth 16)) :=
  ⟨h.attn, ⟨h.attnEn, h.powerUps, h.outside⟩, fun hm => ⟨h.code hm, h.mirror hm⟩⟩

/-! ## The tests of each state -/

section
variable {s : State}

theorem dsvTest_standby (h : s.dsv.state = .standby) :
    dsvTest s =
      if s.dsv.mode.keyOn ∧ s.dsv.cooldownTimer = none ∧ s.faults.highest.rank < 3 then enterPrecharge s else s := by
  unfold dsvTest
  rw [h]

theorem dsvTest_ready (h : s.dsv.state = .ready) :
    dsvTest s =
      if s.spl.demand.direction ≠ .neutral ∧ s.faults.isActive .configMissing = false then
        (if s.faults.highest.rank < 2 then enterDrive s
        else if s.faults.highest.rank = 2 then setDrivelineState .limp s else s)
      else s := by
  unfold dsvTest
  rw [h]

theorem dsvTest_drive (h : s.dsv.state = .drive) :
    dsvTest s =
      if s.faults.highest.rank = 2 then setDrivelineState .limp s
      else if s.spl.demand.direction = .neutral ∧ s.sns.roadSpeed < 10 then setDrivelineState .ready s else s := by
  unfold dsvTest
  rw [h]

theorem dsvTest_limp (h : s.dsv.state = .limp) :
    dsvTest s = if s.faults.highest.rank < 2 ∧ s.spl.demand.accelerator = 0 then enterDrive s else s := by
  unfold dsvTest
  rw [h]

theorem dsvTest_safeStop (h : s.dsv.state = .safeStop) :
    dsvTest s = if s.sns.roadSpeed < 10 then enterPowerDown s else s := by
  unfold dsvTest
  rw [h]

/-- The states that no test leaves (R5, R11, R13). -/
theorem dsvTest_waiting (h : s.dsv.state = .precharge ∨ s.dsv.state = .powerDown ∨ s.dsv.state = .faulted) :
    dsvTest s = s := by
  unfold dsvTest
  rcases h with h | h | h <;> rw [h]

/-! ## The tests of an event -/

theorem dsvSettle_of_fixed {t : State} (h : dsvTest s = t) (ht : dsvTest t = t) : dsvSettle s = t := by
  unfold dsvSettle
  rw [h, ht]

theorem dsvSettle_waiting (h : s.dsv.state = .precharge ∨ s.dsv.state = .powerDown ∨ s.dsv.state = .faulted) :
    dsvSettle s = s :=
  dsvSettle_of_fixed (dsvTest_waiting h) (dsvTest_waiting h)

theorem dsvSettle_standby (h : s.dsv.state = .standby) :
    dsvSettle s =
      if s.dsv.mode.keyOn ∧ s.dsv.cooldownTimer = none ∧ s.faults.highest.rank < 3 then enterPrecharge s else s := by
  have htest := dsvTest_standby h
  split at htest <;> rename_i hgo
  · rw [if_pos hgo]
    exact dsvSettle_of_fixed htest (dsvTest_waiting (.inl rfl))
  · rw [if_neg hgo]
    exact dsvSettle_of_fixed htest htest

theorem dsvSettle_safeStop (h : s.dsv.state = .safeStop) :
    dsvSettle s = if s.sns.roadSpeed < 10 then enterPowerDown s else s := by
  have htest := dsvTest_safeStop h
  split at htest <;> rename_i hgo
  · rw [if_pos hgo]
    exact dsvSettle_of_fixed htest (dsvTest_waiting (.inr (.inl rfl)))
  · rw [if_neg hgo]
    exact dsvSettle_of_fixed htest htest

theorem enterDrive_state (s : State) : (enterDrive s).dsv.state = .drive := by
  rw [enterDrive_dsv]

/-- DRIVE just entered: only a neutral direction at rest leaves it at once (R9). -/
theorem dsvTest_enterDrive (hrank : s.faults.highest.rank < 2) :
    dsvTest (enterDrive s) =
      if s.spl.demand.direction = .neutral ∧ s.sns.roadSpeed < 10 then setDrivelineState .ready (enterDrive s)
      else enterDrive s := by
  rw [dsvTest_drive (enterDrive_state s), enterDrive_faults, enterDrive_spl, enterDrive_sns, if_neg (by omega)]

theorem dsvTest_toLimp (hrank : s.faults.highest.rank = 2) :
    dsvTest (setDrivelineState .limp s) = setDrivelineState .limp s := by
  have h : ¬((setDrivelineState .limp s).faults.highest.rank < 2 ∧
      (setDrivelineState .limp s).spl.demand.accelerator = 0) := by
    rw [setDrivelineState_faults]
    omega
  rw [dsvTest_limp rfl, if_neg h]

theorem dsvTest_toReady (hneutral : s.spl.demand.direction = .neutral) :
    dsvTest (setDrivelineState .ready s) = setDrivelineState .ready s := by
  rw [dsvTest_ready rfl, if_neg fun h => h.1 hneutral]

theorem dsvSettle_ready (h : s.dsv.state = .ready) :
    dsvSettle s =
      if s.spl.demand.direction ≠ .neutral ∧ s.faults.isActive .configMissing = false then
        (if s.faults.highest.rank < 2 then enterDrive s
        else if s.faults.highest.rank = 2 then setDrivelineState .limp s else s)
      else s := by
  have htest := dsvTest_ready h
  refine dsvSettle_of_fixed htest ?_
  split_ifs with hgo hdrive hlimp
  · rw [dsvTest_enterDrive hdrive, if_neg fun hn => hgo.1 hn.1]
  · exact dsvTest_toLimp hlimp
  · rw [htest, if_pos hgo, if_neg hdrive, if_neg hlimp]
  · rw [htest, if_neg hgo]

theorem dsvSettle_drive (h : s.dsv.state = .drive) :
    dsvSettle s =
      if s.faults.highest.rank = 2 then setDrivelineState .limp s
      else if s.spl.demand.direction = .neutral ∧ s.sns.roadSpeed < 10 then setDrivelineState .ready s else s := by
  have htest := dsvTest_drive h
  refine dsvSettle_of_fixed htest ?_
  split_ifs with hlimp hrest
  · exact dsvTest_toLimp hlimp
  · exact dsvTest_toReady hrest.1
  · rw [htest, if_neg hlimp, if_neg hrest]

theorem dsvSettle_limp (h : s.dsv.state = .limp) :
    dsvSettle s =
      if s.faults.highest.rank < 2 ∧ s.spl.demand.accelerator = 0 then
        (if s.spl.demand.direction = .neutral ∧ s.sns.roadSpeed < 10 then setDrivelineState .ready (enterDrive s)
        else enterDrive s)
      else s := by
  have htest := dsvTest_limp h
  by_cases hgo : s.faults.highest.rank < 2 ∧ s.spl.demand.accelerator = 0
  · rw [if_pos hgo] at htest ⊢
    rw [← dsvTest_enterDrive hgo.1]
    unfold dsvSettle
    rw [htest]
  · rw [if_neg hgo] at htest ⊢
    exact dsvSettle_of_fixed htest htest

end

/-! ## What the tests leave as it was -/

theorem closeWindow_wear (s : State) : (closeWindow s).wear = { s.wear with windowOpen := false } := by
  unfold closeWindow
  split
  · rfl
  · rename_i h
    have hclosed : s.wear.windowOpen = false := Bool.eq_false_iff.2 h
    generalize s.wear = w at hclosed
    cases w
    simp_all

@[simp] theorem enterDrive_wear (s : State) : (enterDrive s).wear = { s.wear with windowOpen := false } :=
  closeWindow_wear _

@[simp] theorem dsvTest_counters (s : State) : (dsvTest s).wear.counters = s.wear.counters := by
  cases h : s.dsv.state
  case standby => rw [dsvTest_standby h]; split <;> simp
  case ready => rw [dsvTest_ready h]; split_ifs <;> simp
  case drive => rw [dsvTest_drive h]; split_ifs <;> simp
  case limp => rw [dsvTest_limp h]; split <;> simp
  case safeStop => rw [dsvTest_safeStop h]; split <;> simp
  case precharge => rw [dsvTest_waiting (.inl h)]
  case powerDown => rw [dsvTest_waiting (.inr (.inl h))]
  case faulted => rw [dsvTest_waiting (.inr (.inr h))]

@[simp] theorem dsvSettle_counters (s : State) : (dsvSettle s).wear.counters = s.wear.counters := by
  unfold dsvSettle
  rw [dsvTest_counters, dsvTest_counters]

theorem Wear.eq_of_counters {w v : Wear} (h : v.counters = w.counters) : v = { w with windowOpen := v.windowOpen } := by
  cases w
  cases v
  simp_all

/-! ## The state that the tests give -/

/-- The state that the test of READY gives (R8). -/
def readyGoal (s : State) : DrivelineState :=
  if s.spl.demand.direction ≠ .neutral ∧ s.faults.isActive .configMissing = false then
    (if s.faults.highest.rank < 2 then .drive else if s.faults.highest.rank = 2 then .limp else .ready)
  else .ready

section
variable {s : State}

theorem dsvSettle_ready_dsv (h : s.dsv.state = .ready) :
    (dsvSettle s).dsv = { s.dsv with
      state := readyGoal s,
      keepStoreValid := s.dsv.keepStoreValid || (decide (readyGoal s = .drive) && s.wear.windowOpen) } := by
  have hstay : { s.dsv with state := .ready, keepStoreValid := s.dsv.keepStoreValid || false } = s.dsv := by
    generalize s.dsv = d at h
    cases d
    simp_all
  rw [dsvSettle_ready h]
  unfold readyGoal
  split_ifs
  · simp
  · simp
  · exact hstay.symm
  · exact hstay.symm

theorem dsvSettle_ready_window (h : s.dsv.state = .ready) :
    (dsvSettle s).wear.windowOpen = (s.wear.windowOpen && !decide (readyGoal s = .drive)) := by
  rw [dsvSettle_ready h]
  unfold readyGoal
  split_ifs <;> simp

theorem dsvSettle_ready_shown {p : Port} (h : s.dsv.state = .ready) (hp : StateShown [1, 4, 5, 11] .ready p s.port) :
    StateShown [1, 4, 5, 11] (readyGoal s) p (dsvSettle s).port := by
  rw [dsvSettle_ready h]
  unfold readyGoal
  split_ifs
  · exact hp.trans (enterDrive_shown s)
  · exact hp.trans ((setDrivelineState_shown .limp s).mono (by decide))
  · exact hp
  · exact hp

end

/-! ## Timers that end in the tests alone -/

theorem exec_safeStopTimerExpiry {s : State} (hrun : s.running = true) (h : s.dsv.safeStopTimer.isSome = true) :
    exec .safeStopTimerExpiry s =
      .next (dsvSettle (enterPowerDown (s.withDsv { s.dsv with safeStopTimer := none }))) := by
  refine congrArg Host.Outcome.next ((whileRunning_runs safeStopExpiry hrun).trans ?_)
  unfold safeStopExpiry
  rw [if_pos h]

/-- Settles O25, by the entry to POWER_DOWN, which no test leaves. -/
theorem safeStopExpiryEntersPowerDown : Obligations.SafeStopExpiryEntersPowerDown := by
  intro s hrun _ htimer
  refine ⟨_, exec_safeStopTimerExpiry hrun htimer, ?_⟩
  rw [dsvSettle_waiting (.inr (.inl rfl))]
  exact ⟨rfl, (setDrivelineState_shown .powerDown _).statement⟩

theorem exec_cooldownTimerExpiry {s : State} (hrun : s.running = true) (h : s.dsv.cooldownTimer.isSome = true) :
    exec .cooldownTimerExpiry s = .next (dsvSettle (s.withDsv { s.dsv with cooldownTimer := none })) := by
  refine congrArg Host.Outcome.next ((whileRunning_runs cooldownExpiry hrun).trans ?_)
  unfold cooldownExpiry
  rw [if_pos h]

/-- Settles O23, by the test of STANDBY without a cooldown. -/
theorem cooldownExpiryRetriesPrecharge : Obligations.CooldownExpiryRetriesPrecharge := by
  intro s hrun hstate htimer
  have hexec := exec_cooldownTimerExpiry hrun htimer
  rw [dsvSettle_standby (s := s.withDsv { s.dsv with cooldownTimer := none }) hstate] at hexec
  refine ⟨fun hgo => ?_, fun hstay => ?_⟩
  · rw [if_pos ⟨hgo.1, rfl, hgo.2⟩] at hexec
    exact ⟨_, hexec, rfl, (setDrivelineState_shown .precharge _).statement⟩
  · rwa [if_neg fun h => hstay ⟨h.1, h.2.2⟩] at hexec

/-- READY just entered, at the end of the settle delay (R5). -/
def settledReady (s : State) : State :=
  setDrivelineState .ready (s.withDsv { s.dsv with settleTimer := none, preClosed := false })

theorem exec_settleTimerExpiry {s : State} (hrun : s.running = true) (h : s.dsv.settleTimer.isSome = true) :
    exec .settleTimerExpiry s = .next (dsvSettle (settledReady s)) := by
  refine congrArg Host.Outcome.next ((whileRunning_runs settleExpiry hrun).trans ?_)
  unfold settleExpiry
  rw [if_pos h]
  rfl

theorem settledReady_dsv (s : State) :
    (settledReady s).dsv = { s.dsv with settleTimer := none, preClosed := false, state := .ready } := rfl

theorem settledReady_shown (s : State) : StateShown [1, 4, 5, 11] .ready s.port (settledReady s).port :=
  (setDrivelineState_shown .ready _).mono (by decide)

theorem settledReady_goal (s : State) :
    readyGoal (settledReady s) =
      if (decide (s.spl.demand.direction ≠ .neutral) && !s.faults.isActive .configMissing) &&
        decide (s.faults.highest.rank < 2) then .drive
      else if (decide (s.spl.demand.direction ≠ .neutral) && !s.faults.isActive .configMissing) &&
        decide (s.faults.highest.rank = 2) then .limp else .ready := by
  show (if s.spl.demand.direction ≠ .neutral ∧ s.faults.isActive .configMissing = false then
      (if s.faults.highest.rank < 2 then DrivelineState.drive else if s.faults.highest.rank = 2 then .limp else .ready)
    else .ready) = _
  by_cases hd : s.spl.demand.direction = .neutral
  · simp [hd]
  · cases hc : s.faults.isActive .configMissing <;> simp [hd]

/-- Settles O21, by the entry to READY and the test of READY. -/
theorem settleExpiryEntersReady : Obligations.SettleExpiryEntersReady := by
  intro s hrun htimer _ go final closes
  have hstate : (settledReady s).dsv.state = .ready := rfl
  have hgoal : readyGoal (settledReady s) = final := settledReady_goal s
  have hport := dsvSettle_ready_shown hstate (settledReady_shown s)
  have hdsv := dsvSettle_ready_dsv hstate
  have hwindow := dsvSettle_ready_window hstate
  rw [hgoal] at hport hdsv hwindow
  refine ⟨_, exec_settleTimerExpiry hrun htimer, State.eq_of_fields (dsvSettle_rest _) ?_ (dsvSettle_faults _) ?_
    (dsvSettle_log _) (dsvSettle_exc _) rfl, hport.statement⟩
  · rw [hdsv, settledReady_dsv]
    rfl
  · rw [Wear.eq_of_counters (dsvSettle_counters _), hwindow]
    have hw : (s.wear.windowOpen && !decide (final = .drive)) = (s.wear.windowOpen && !closes) := by
      simp only [closes]
      cases s.wear.windowOpen <;> simp
    exact congrArg (fun b => { s.wear with windowOpen := b }) hw

end Sys2Proof.Machine
end

section
/-! PROOF. What an opening of POS logs and counts, the end of POWER_DOWN, and the timers that open contactors (R2, R3, R6,
R11). -/

namespace Sys2Proof.Machine

open Sys2Proof

/-! ## An increment request -/

theorem thresholdCheck_log (q : Bool) (c : Counter) (s : State) :
    (thresholdCheck q c s).log =
      match (s.counter c).due with
      | none => s.log
      | some level =>
        s.log.afterAppend
          (entryNow s level.kind (some c) (some ((s.counter c).value : Int)) (some ((s.counter c).thresholdOf level))) := by
  unfold thresholdCheck
  cases (s.counter c).due <;> rfl

/-- The log after an increment request (R127, R130, R131). -/
theorem wearIncrement_log (q : Bool) (c : Counter) (s : State) : (wearIncrement q c s).log = warnedLog s c s.log := by
  unfold wearIncrement
  rw [thresholdCheck_log, setCounter_counter_same]
  have hdue := countedRecord_due (s.counter c)
  unfold countedRecord at hdue
  rw [hdue]
  unfold warnedLog
  dsimp only
  by_cases hu : (s.counter c).urgent ≠ 0 ∧ (s.counter c).urgent ≤ min ((s.counter c).value + 1) 4294967295 ∧
      (s.counter c).warned ≠ .urgent
  · rw [if_pos hu, if_pos hu]
    rfl
  · rw [if_neg hu, if_neg hu]
    by_cases ha : (s.counter c).advise ≠ 0 ∧ (s.counter c).advise ≤ min ((s.counter c).value + 1) 4294967295 ∧
        (s.counter c).warned = .none
    · rw [if_pos ha, if_pos ha]
      rfl
    · rw [if_neg ha, if_neg ha]
      rfl

/-- Without thresholds an increment request logs nothing (R130). -/
theorem wearIncrement_log_unwarned (q : Bool) {c : Counter} {s : State}
    (h : (s.counter c).advise = 0 ∧ (s.counter c).urgent = 0) : (wearIncrement q c s).log = s.log := by
  rw [wearIncrement_log]
  unfold warnedLog
  dsimp only
  rw [if_neg fun hu => hu.1 h.2, if_neg fun ha => ha.1 h.1]

theorem warnedLog_congr {s t : State} {c : Counter} (hodometer : t.sns.odometer = s.sns.odometer)
    (hseconds : t.dsv.operatingSeconds = s.dsv.operatingSeconds) (hframe : t.exc.frameNumber = s.exc.frameNumber)
    (hc : t.counter c = s.counter c)
    (l : LogRing) : warnedLog t c l = warnedLog s c l := by
  unfold warnedLog
  simp only [entryNow_congr hodometer hseconds hframe, hc]

/-! ## An opening of POS -/

theorem hotOpening_iff (s : State) :
    hotOpening s = true ↔ s.sns.packLink.up = false ∨ 500 < s.ena.current.natAbs := by
  unfold hotOpening State.packCurrentMagnitude
  rw [Bool.or_eq_true, decide_eq_true_eq, Bool.not_eq_true', or_comm]

theorem judgeOpening_cool {s : State} (hup : s.sns.packLink.up = true) (hcurrent : s.ena.current.natAbs ≤ 500) :
    judgeOpening s = s := by
  have h : ¬hotOpening s = true := by
    rw [hotOpening_iff, hup]
    simpa using hcurrent
  unfold judgeOpening
  rw [if_neg h]

theorem judgeOpening_hot {s : State} (h : s.sns.packLink.up = false ∨ 500 < s.ena.current.natAbs) :
    judgeOpening s =
      wearIncrement false w7
        (logNow .hotOpen none (if s.sns.packLink.up then some (s.ena.current.natAbs : Int) else none) s) := by
  unfold judgeOpening
  rw [if_pos ((hotOpening_iff s).2 h)]
  rfl

theorem judgeOpening_log (s : State) : (judgeOpening s).log = openingLog s := by
  unfold openingLog
  by_cases h : s.sns.packLink.up = true ∧ s.ena.current.natAbs ≤ 500
  · rw [if_pos h, judgeOpening_cool h.1 h.2]
  · have hhot : s.sns.packLink.up = false ∨ 500 < s.ena.current.natAbs := by
      rw [Decidable.not_and_iff_not_or_not, Bool.not_eq_true, Nat.not_le] at h
      exact h
    rw [if_neg h, judgeOpening_hot hhot, wearIncrement_log]
    exact warnedLog_congr rfl rfl rfl rfl _

theorem judgeOpening_counter_other {c : Counter} (s : State) (h : c ≠ w7) : (judgeOpening s).counter c = s.counter c := by
  unfold judgeOpening
  split
  · exact wearIncrement_counter_other false _ h
  · rfl

@[simp] theorem judgeOpening_window (s : State) : (judgeOpening s).wear.windowOpen = s.wear.windowOpen := by
  unfold judgeOpening
  split
  · rw [wearIncrement_window]; rfl
  · rfl

/-- W7 after an opening that is judged (R3). -/
theorem judgeOpening_w7 (s : State) :
    ((judgeOpening s).counter w7).value =
      if s.sns.packLink.up = false ∨ 500 < s.ena.current.natAbs then min ((s.counter w7).value + 1) 4294967295
      else (s.counter w7).value := by
  split
  · rename_i h
    rw [judgeOpening_hot h, wearIncrement_value]
    rfl
  · rename_i h
    rw [not_or, Bool.not_eq_false, Nat.not_lt] at h
    rw [judgeOpening_cool h.1 h.2]

theorem openPos_open {s : State} (h : s.dsv.posClosed = false) : openPos s = s := by
  simp [openPos, h]

theorem openPos_wear (s : State) : (openPos s).wear = if s.dsv.posClosed then (judgeOpening s).wear else s.wear := by
  unfold openPos
  split <;> rfl

theorem openPos_log (s : State) : (openPos s).log = if s.dsv.posClosed then openingLog s else s.log := by
  unfold openPos
  split
  · exact judgeOpening_log s
  · rfl

theorem openPos_counter_other {c : Counter} (s : State) (h : c ≠ w7) : (openPos s).counter c = s.counter c := by
  unfold openPos
  split
  · exact judgeOpening_counter_other s h
  · rfl

theorem openPos_w7 (s : State) :
    ((openPos s).counter w7).value =
      if s.dsv.posClosed = true ∧ (s.sns.packLink.up = false ∨ 500 < s.ena.current.natAbs) then
        min ((s.counter w7).value + 1) 4294967295
      else (s.counter w7).value := by
  by_cases hpos : s.dsv.posClosed = true
  · simp only [hpos, true_and]
    rw [← judgeOpening_w7]
    unfold openPos
    rw [if_pos hpos]
    rfl
  · rw [if_neg fun h => hpos h.1, openPos_open (Bool.eq_false_iff.2 hpos)]

/-- An opening that is not hot counts nothing (R3). -/
theorem openPos_wear_cool {s : State}
    (h : s.dsv.posClosed = false ∨ (s.sns.packLink.up = true ∧ s.ena.current.natAbs ≤ 500)) :
    (openPos s).wear = s.wear := by
  rw [openPos_wear]
  split
  · rename_i hpos
    obtain ⟨hup, hcurrent⟩ := h.resolve_left (by rw [hpos]; exact Bool.noConfusion)
    rw [judgeOpening_cool hup hcurrent]
  · rfl

/-! ## The end of POWER_DOWN -/

theorem shutdownLog_congr {s t : State} (hodometer : t.sns.odometer = s.sns.odometer)
    (hseconds : t.dsv.operatingSeconds = s.dsv.operatingSeconds) (hframe : t.exc.frameNumber = s.exc.frameNumber)
    (c : StopCause) (l : LogRing) :
    shutdownLog t c l = shutdownLog s c l := by
  cases c with
  | fault k => exact congrArg l.afterAppend (entryNow_congr hodometer hseconds hframe _ _ _ _)
  | keyOff => rfl
  | none => rfl

/-- The state that the wait of POWER_DOWN ends in, before DSV's tests (R11). -/
def poweredDown (s : State) : State :=
  let t := (openPos s).withDsv { (openPos s).dsv with negClosed := false, powerDownTimer := none }
  match s.dsv.stopCause with
  | .fault k => setDrivelineState .faulted (logNow .shutdown none (some (k.number.val : Int)) t)
  | .keyOff => enterStandby t
  | .none => enterStandby t

theorem completePowerDown_eq (s : State) : completePowerDown s = dsvSettle (poweredDown s) := by
  have hcause : (openPos s).dsv.stopCause = s.dsv.stopCause := by rw [openPos_dsv]
  unfold completePowerDown poweredDown
  dsimp only
  rw [withDsv_dsv, hcause] <;> rfl

section
variable (s : State)

theorem poweredDown_dsv :
    (poweredDown s).dsv =
      { s.dsv with
        posClosed := false, posFlag := !s.dsv.posClosed && s.dsv.posFlag, negClosed := false, powerDownTimer := none,
        state := (match s.dsv.stopCause with
          | .fault _ => .faulted
          | .keyOff => .standby
          | .none => .standby),
        stopCause := (match s.dsv.stopCause with
          | .fault k => .fault k
          | .keyOff => .none
          | .none => .none) } := by
  unfold poweredDown
  cases h : s.dsv.stopCause <;> simp [h]

theorem poweredDown_state : (poweredDown s).dsv.state = .standby ∨ (poweredDown s).dsv.state = .faulted := by
  rw [poweredDown_dsv]
  cases s.dsv.stopCause
  · exact .inl rfl
  · exact .inl rfl
  · exact .inr rfl

theorem poweredDown_faults : (poweredDown s).faults = s.faults := by
  unfold poweredDown
  cases s.dsv.stopCause <;> simp

theorem poweredDown_wear : (poweredDown s).wear = (openPos s).wear := by
  unfold poweredDown
  cases s.dsv.stopCause <;> simp

theorem poweredDown_log :
    (poweredDown s).log = shutdownLog s s.dsv.stopCause (if s.dsv.posClosed then openingLog s else s.log) := by
  rw [← openPos_log]
  unfold poweredDown
  cases s.dsv.stopCause with
  | fault k =>
    refine congrArg (openPos s).log.afterAppend (entryNow_congr (congrArg Sns.odometer (openPos_sns s)) ?_
      (congrArg Exc.frameNumber (openPos_exc s)) _ _ _ _)
    rw [openPos_dsv]
  | keyOff => exact enterStandby_log _
  | none => exact enterStandby_log _

theorem poweredDown_stateChange : (poweredDown s).causeSet .stateChange = true := by
  unfold poweredDown
  cases s.dsv.stopCause <;> exact setCause_causeSet .stateChange _

end

/-! ## The tests in STANDBY and FAULTED -/

theorem dsvSettle_stopped_wear {s : State} (h : s.dsv.state = .standby ∨ s.dsv.state = .faulted) :
    (dsvSettle s).wear = s.wear := by
  rcases h with h | h
  · rw [dsvSettle_standby h]
    split <;> simp
  · rw [dsvSettle_waiting (.inr (.inr h))]

/-- The tests open and close nothing of POS, and stop no wait of a state at rest. -/
theorem dsvSettle_stopped_dsv {s : State} (h : s.dsv.state = .standby ∨ s.dsv.state = .faulted) :
    (dsvSettle s).dsv.posClosed = s.dsv.posClosed ∧ (dsvSettle s).dsv.posFlag = s.dsv.posFlag ∧
      (dsvSettle s).dsv.powerDownTimer = s.dsv.powerDownTimer ∧ (dsvSettle s).dsv.stopCause = s.dsv.stopCause := by
  rcases h with h | h
  · rw [dsvSettle_standby h]
    split <;> simp
  · rw [dsvSettle_waiting (.inr (.inr h))]
    simp

/-- STANDBY with the key OFF, in a cooldown or with a class that bars PRECHARGE stays (R4). -/
theorem dsvSettle_standby_stays {s : State} (h : s.dsv.state = .standby)
    (hbar : s.dsv.mode.keyOn = false ∨ s.dsv.cooldownTimer ≠ none ∨ 3 ≤ s.faults.highest.rank) : dsvSettle s = s := by
  rw [dsvSettle_standby h, if_neg]
  rintro ⟨hkey, hcool, hrank⟩
  rcases hbar with hbar | hbar | hbar
  · rw [hbar] at hkey; cases hkey
  · exact hbar hcool
  · omega

section
variable (s : State)

theorem completePowerDown_wear : (completePowerDown s).wear = (openPos s).wear := by
  rw [completePowerDown_eq, dsvSettle_stopped_wear (poweredDown_state s), poweredDown_wear]

theorem completePowerDown_w7 :
    ((completePowerDown s).counter w7).value =
      if s.dsv.posClosed = true ∧ (s.sns.packLink.up = false ∨ 500 < s.ena.current.natAbs) then
        min ((s.counter w7).value + 1) 4294967295
      else (s.counter w7).value := by
  rw [← openPos_w7]
  unfold State.counter
  rw [completePowerDown_wear]

theorem completePowerDown_counter_other {c : Counter} (h : c ≠ w7) :
    (completePowerDown s).counter c = s.counter c := by
  rw [← openPos_counter_other s h]
  unfold State.counter
  rw [completePowerDown_wear]

theorem completePowerDown_log :
    (completePowerDown s).log = shutdownLog s s.dsv.stopCause (if s.dsv.posClosed then openingLog s else s.log) := by
  rw [completePowerDown_eq, dsvSettle_log, poweredDown_log]

theorem completePowerDown_stateChange : (completePowerDown s).causeSet .stateChange = true := by
  rw [completePowerDown_eq]
  exact (dsvSettle_kept _).causes _ (poweredDown_stateChange s)

/-- POS is open after the wait, and the wait is over (R11). -/
theorem completePowerDown_opens :
    (completePowerDown s).dsv.posClosed = false ∧
      (completePowerDown s).dsv.posFlag = (!s.dsv.posClosed && s.dsv.posFlag) ∧
      (completePowerDown s).dsv.powerDownTimer = none := by
  obtain ⟨hpos, hflag, htimer, -⟩ := dsvSettle_stopped_dsv (poweredDown_state s)
  rw [completePowerDown_eq, hpos, hflag, htimer, poweredDown_dsv]
  exact ⟨rfl, rfl, rfl⟩

end

/-- After a fault the wait ends in FAULTED (R11). -/
theorem completePowerDown_fault {s : State} {k : FaultKind} (h : s.dsv.stopCause = .fault k) :
    (completePowerDown s).dsv.state = .faulted ∧ (completePowerDown s).dsv.stopCause = .fault k ∧
      (completePowerDown s).dsv.negClosed = false := by
  have hdsv := poweredDown_dsv s
  rw [h] at hdsv
  rw [completePowerDown_eq, dsvSettle_waiting (.inr (.inr (congrArg Dsv.state hdsv))), hdsv]
  exact ⟨rfl, rfl, rfl⟩

/-- After a key OFF the wait ends in STANDBY (R11). -/
theorem completePowerDown_keyOff {s : State} (h : s.dsv.stopCause = .keyOff) (hkey : s.dsv.mode.keyOn = false) :
    (completePowerDown s).dsv.state = .standby ∧ (completePowerDown s).dsv.stopCause = .none ∧
      (completePowerDown s).dsv.negClosed = false := by
  have hdsv := poweredDown_dsv s
  rw [h] at hdsv
  have hoff : (poweredDown s).dsv.mode.keyOn = false := by rw [hdsv]; exact hkey
  rw [completePowerDown_eq, dsvSettle_standby_stays (congrArg Dsv.state hdsv) (.inl hoff), hdsv]
  exact ⟨rfl, rfl, rfl⟩

/-- With the key ON again and nothing against it, STANDBY goes on to PRECHARGE (R4). -/
theorem completePowerDown_keyOn {s : State} (h : s.dsv.stopCause = .keyOff) (hkey : s.dsv.mode.keyOn = true)
    (hcool : s.dsv.cooldownTimer = none) (hrank : s.faults.highest.rank < 3) :
    (completePowerDown s).dsv.state = .precharge := by
  have hdsv := poweredDown_dsv s
  rw [h] at hdsv
  have hgo : (poweredDown s).dsv.mode.keyOn = true ∧ (poweredDown s).dsv.cooldownTimer = none ∧
      (poweredDown s).faults.highest.rank < 3 := by
    rw [hdsv, poweredDown_faults]
    exact ⟨hkey, hcool, hrank⟩
  rw [completePowerDown_eq, dsvSettle_standby (congrArg Dsv.state hdsv), if_pos hgo, enterPrecharge_dsv]

/-! ## The power-down and precharge timers -/

theorem exec_powerDownTimerExpiry {s : State} (hrun : s.running = true) (h : s.dsv.powerDownTimer.isSome = true) :
    exec .powerDownTimerExpiry s = .next (completePowerDown (s.withDsv { s.dsv with powerDownTimer := none })) := by
  refine congrArg Host.Outcome.next ((whileRunning_runs powerDownExpiry hrun).trans ?_)
  unfold powerDownExpiry
  rw [if_pos h]

/-- Settles O24, by the end of POWER_DOWN. -/
theorem powerDownExpiryOpens : Obligations.PowerDownExpiryOpens := by
  intro s hrun _ hlog htimer hpos
  have hexec := exec_powerDownTimerExpiry hrun htimer
  have hframe := event_frame rfl (fun v => Instr.noConfusion) hlog hexec
  refine ⟨_, hexec, ?_⟩
  obtain ⟨hopen, hflag, hstopped⟩ := completePowerDown_opens (s.withDsv { s.dsv with powerDownTimer := none })
  have hwear := completePowerDown_wear (s.withDsv { s.dsv with powerDownTimer := none })
  have hw7 := completePowerDown_w7 (s.withDsv { s.dsv with powerDownTimer := none })
  have hlogged := completePowerDown_log (s.withDsv { s.dsv with powerDownTimer := none })
  have hclosed : (s.withDsv { s.dsv with powerDownTimer := none }).dsv.posClosed = true := hpos
  rw [hclosed] at hflag hw7 hlogged
  refine ⟨hopen, hflag, hstopped, fun k hk => completePowerDown_fault hk, fun hk hkey => completePowerDown_keyOff hk hkey,
    fun hup hcurrent => ?_, fun hhot => ⟨?_, fun c hc => completePowerDown_counter_other _ hc⟩, ?_,
    State.eq_of_fields (completePowerDown_rest _) rfl (completePowerDown_faults _) rfl rfl (completePowerDown_exc _) rfl,
    completePowerDown_stateChange _, hframe⟩
  · exact hwear.trans (openPos_wear_cool (.inr ⟨hup, hcurrent⟩))
  · exact hw7.trans (if_pos ⟨rfl, hhot⟩)
  · exact hlogged

theorem exec_prechargeTimeout {s : State} (hrun : s.running = true) :
    exec .prechargeTimeout s = .next (prechargeExpiry s) :=
  congrArg Host.Outcome.next (whileRunning_runs prechargeExpiry hrun)

/-- The state that a precharge timeout ends in, before DSV's tests (R6). -/
def prechargeFailed (s : State) : State :=
  let t := momentaryFault .prechargeTimeout (openAll (s.withDsv { s.dsv with prechargeTimer := none }))
  let u := logNow .prechargeTimeout none
    (if t.dsv.inverterSincePrecharge then some (t.sns.linkVoltage : Int) else none) t
  enterStandby (u.withDsv { u.dsv with cooldownTimer := some 10000 })

theorem prechargeExpiry_eq {s : State} (h : s.dsv.prechargeTimer.isSome = true) :
    prechargeExpiry s = dsvSettle (prechargeFailed s) := by
  unfold prechargeExpiry
  rw [if_pos h]
  rfl

theorem momentaryFault_faults (k : FaultKind) (s : State) :
    (momentaryFault k s).faults =
      (setRecord k { (s.faults.record k).raise s.dsv.operatingSeconds with state := .latched } s).faults := by
  unfold momentaryFault
  rw [notifyFaults_faults]

/-- What the timeout leaves, its contactors opened with POS already OPEN (R6). -/
theorem prechargeFailed_eq {s : State} (hpos : s.dsv.posClosed = false) :
    prechargeFailed s =
      enterStandby ((logNow .prechargeTimeout none
        (if s.dsv.inverterSincePrecharge then some (s.sns.linkVoltage : Int) else none)
        (momentaryFault .prechargeTimeout
          (s.withDsv { s.dsv with prechargeTimer := none, preClosed := false, negClosed := false }))).withDsv
        { s.dsv with prechargeTimer := none, preClosed := false, negClosed := false, cooldownTimer := some 10000 }) := by
  have hopen : openAll (s.withDsv { s.dsv with prechargeTimer := none }) =
      s.withDsv { s.dsv with prechargeTimer := none, preClosed := false, negClosed := false } := by
    unfold openAll
    rw [openPos_open (s := s.withDsv { s.dsv with prechargeTimer := none }) hpos]
    rfl
  unfold prechargeFailed
  rw [hopen]
  simp only [logNow_dsv, momentaryFault_dsv, momentaryFault_sns, withDsv_dsv, withDsv_sns]

/-- Settles O22, by the state that a precharge timeout ends in, which the cooldown keeps in STANDBY. -/
theorem prechargeTimeoutReturnsToStandby : Obligations.PrechargeTimeoutReturnsToStandby := by
  intro s hrun hcontactor hlog htimer
  obtain ⟨-, -, hprecharge, -⟩ := hcontactor
  obtain ⟨hstate, hsettle, hpos⟩ := hprecharge htimer
  have hexec := exec_prechargeTimeout hrun
  have hframe := event_frame rfl (fun v => Instr.noConfusion) hlog hexec
  have hstay : dsvSettle (prechargeFailed s) = prechargeFailed s := by
    rw [prechargeFailed_eq hpos]
    exact dsvSettle_standby_stays rfl (.inr (.inl (Option.some_ne_none _)))
  rw [prechargeExpiry_eq htimer, hstay, prechargeFailed_eq hpos] at hexec hframe
  have hraised := momentaryFault_faults .prechargeTimeout
    (s.withDsv { s.dsv with prechargeTimer := none, preClosed := false, negClosed := false })
  obtain ⟨hcause, hrow⟩ := notifyFaults_notifies (setRecord .prechargeTimeout
    { (s.faults.record .prechargeTimeout).raise s.dsv.operatingSeconds with state := .latched }
    (s.withDsv { s.dsv with prechargeTimer := none, preClosed := false, negClosed := false }))
  refine ⟨_, hexec, rfl, ?_, fun k hk => ?_, rfl,
    State.eq_of_fields rfl rfl rfl rfl rfl rfl rfl, hrow, ?_, setCause_causeSet .stateChange _, hframe⟩
  · exact (congrArg (fun f => FaultTable.record f _) hraised).trans (setRecord_record_same _ _ _)
  · exact (congrArg (fun f => FaultTable.record f _) hraised).trans (setRecord_record_other _ _ hk)
  · exact ((logNow_kept _ _ _ _).trans ((withDsv_kept rfl rfl rfl rfl).trans (enterStandby_kept _))).causes _ hcause

end Sys2Proof.Machine
end

section
/-! PROOF. The state that the supervisor's tests give in READY, DRIVE and LIMP, what a clearing report and the arrival of a
message leave, and the messages of the drive, engine and brake links (R5, R8 to R10, R21, R24 to R31, R155). -/

namespace Sys2Proof.Machine

open Sys2Proof

/-! ## READY, DRIVE and LIMP under the tests -/

/-- The states in which the bus may move off or moves (R8, R9). -/
def DrivelineState.moves (st : DrivelineState) : Prop := st = .ready ∨ st = .drive ∨ st = .limp

section
variable {s : State}

theorem dsvSettle_ready_state (h : s.dsv.state = .ready) : (dsvSettle s).dsv.state = readyGoal s := by
  rw [dsvSettle_ready_dsv h]

theorem dsvSettle_drive_state (h : s.dsv.state = .drive) (hrank : s.faults.highest.rank ≠ 2) :
    (dsvSettle s).dsv.state =
      if s.spl.demand.direction = .neutral ∧ s.sns.roadSpeed < 10 then .ready else .drive := by
  rw [dsvSettle_drive h, if_neg hrank]
  split
  · rfl
  · exact h

theorem dsvSettle_limp_state (h : s.dsv.state = .limp) (hrank : s.faults.highest.rank < 2) :
    (dsvSettle s).dsv.state =
      if s.spl.demand.accelerator = 0 then
        (if s.spl.demand.direction = .neutral ∧ s.sns.roadSpeed < 10 then .ready else .drive)
      else .limp := by
  rw [dsvSettle_limp h]
  by_cases hacc : s.spl.demand.accelerator = 0
  · rw [if_pos ⟨hrank, hacc⟩, if_pos hacc]
    split
    · rfl
    · exact enterDrive_state s
  · rw [if_neg fun hgo => hacc hgo.2, if_neg hacc]
    exact h

/-- LIMP stays where its class stands or the accelerator is applied (R9). -/
theorem dsvSettle_limp_stays (h : s.dsv.state = .limp)
    (hbar : 2 ≤ s.faults.highest.rank ∨ 0 < s.spl.demand.accelerator) : dsvSettle s = s := by
  rw [dsvSettle_limp h, if_neg (by omega)]

/-- READY stays in NEUTRAL, without a configuration, or with a class above LIMP (R8). -/
theorem dsvSettle_ready_stays (h : s.dsv.state = .ready)
    (hbar : s.spl.demand.direction = .neutral ∨ s.faults.isActive .configMissing = true ∨ 3 ≤ s.faults.highest.rank) :
    dsvSettle s = s := by
  rw [dsvSettle_ready h]
  by_cases hgo : s.spl.demand.direction ≠ .neutral ∧ s.faults.isActive .configMissing = false
  · have hrank : 3 ≤ s.faults.highest.rank := by
      rcases hbar with hbar | hbar | hbar
      · exact absurd hbar hgo.1
      · exact absurd hbar (by simp [hgo.2])
      · exact hbar
    rw [if_pos hgo, if_neg (by omega), if_neg (by omega)]
  · rw [if_neg hgo]

theorem dsvSettle_drive_stays (h : s.dsv.state = .drive) (hrank : s.faults.highest.rank ≠ 2)
    (hbar : s.spl.demand.direction ≠ .neutral ∨ 10 ≤ s.sns.roadSpeed) : dsvSettle s = s := by
  rw [dsvSettle_drive h, if_neg hrank, if_neg]
  rintro ⟨hneutral, hslow⟩
  rcases hbar with hbar | hbar
  · exact hbar hneutral
  · omega

theorem dsvSettle_safeStop_stays (h : s.dsv.state = .safeStop) (hroad : 10 ≤ s.sns.roadSpeed) : dsvSettle s = s := by
  rw [dsvSettle_safeStop h, if_neg (by omega)]

/-- Among these states the tests change nothing of DSV but the state and the keep-store flag. -/
theorem dsvSettle_moves (h : s.dsv.state.moves) :
    (dsvSettle s).dsv.state.moves ∧
      (dsvSettle s).dsv =
        { s.dsv with state := (dsvSettle s).dsv.state, keepStoreValid := (dsvSettle s).dsv.keepStoreValid } := by
  rcases h with h | h | h
  · have hdsv := dsvSettle_ready_dsv h
    refine ⟨?_, by rw [hdsv]⟩
    rw [dsvSettle_ready_state h]
    unfold readyGoal DrivelineState.moves
    split_ifs <;> simp
  · rw [dsvSettle_drive h]
    split_ifs
    · exact ⟨.inr (.inr rfl), rfl⟩
    · exact ⟨.inl rfl, rfl⟩
    · exact ⟨.inr (.inl h), rfl⟩
  · rw [dsvSettle_limp h]
    split_ifs
    · exact ⟨.inl rfl, by simp⟩
    · exact ⟨.inr (.inl (enterDrive_state s)), by simp⟩
    · exact ⟨.inr (.inr h), rfl⟩

/-- DRIVE entered by the tests leaves the reseed window closed (R132). -/
theorem dsvSettle_driveClosed (h : s.dsv.state = .drive → s.wear.windowOpen = false)
    (ht : (dsvSettle s).dsv.state = .drive) : (dsvSettle s).wear.windowOpen = false := by
  cases hs : s.dsv.state
  case standby =>
    rw [dsvSettle_standby hs] at ht
    split at ht
    · cases ht
    · rw [hs] at ht; cases ht
  case ready =>
    rw [dsvSettle_ready_window hs, ← dsvSettle_ready_state hs, ht]
    simp
  case drive =>
    have hclosed := h hs
    rw [dsvSettle_drive hs]
    split_ifs <;> exact hclosed
  case limp =>
    rw [dsvSettle_limp hs] at ht ⊢
    by_cases hgo : s.faults.highest.rank < 2 ∧ s.spl.demand.accelerator = 0
    · rw [if_pos hgo]
      split <;> simp
    · rw [if_neg hgo, hs] at ht
      cases ht
  case safeStop =>
    rw [dsvSettle_safeStop hs] at ht
    split at ht
    · cases ht
    · rw [hs] at ht; cases ht
  all_goals
    rw [dsvSettle_waiting (by simp [hs]), hs] at ht
    cases ht

/-- The tests find nothing more to do after themselves (R1). -/
theorem dsvTest_dsvSettle (s : State) : dsvTest (dsvSettle s) = dsvSettle s := by
  cases hs : s.dsv.state
  case standby =>
    rw [dsvSettle_standby hs]
    split
    · exact dsvTest_waiting (.inl rfl)
    · rename_i hbar
      rw [dsvTest_standby hs, if_neg hbar]
  case ready =>
    rw [dsvSettle_ready hs]
    split_ifs with hgo hdrive hlimp
    · rw [dsvTest_enterDrive hdrive, if_neg fun hn => hgo.1 hn.1]
    · exact dsvTest_toLimp hlimp
    · rw [dsvTest_ready hs, if_pos hgo, if_neg hdrive, if_neg hlimp]
    · rw [dsvTest_ready hs, if_neg hgo]
  case drive =>
    rw [dsvSettle_drive hs]
    split_ifs with hlimp hrest
    · exact dsvTest_toLimp hlimp
    · exact dsvTest_toReady hrest.1
    · rw [dsvTest_drive hs, if_neg hlimp, if_neg hrest]
  case limp =>
    rw [dsvSettle_limp hs]
    split_ifs with hgo hrest
    · refine dsvTest_toReady ?_
      rw [enterDrive_spl]
      exact hrest.1
    · rw [dsvTest_enterDrive hgo.1, if_neg hrest]
    · rw [dsvTest_limp hs, if_neg hgo]
  case safeStop =>
    rw [dsvSettle_safeStop hs]
    split
    · exact dsvTest_waiting (.inr (.inl rfl))
    · rename_i hroad
      rw [dsvTest_safeStop hs, if_neg hroad]
  all_goals
    have hwait : s.dsv.state = .precharge ∨ s.dsv.state = .powerDown ∨ s.dsv.state = .faulted := by simp [hs]
    rw [dsvSettle_waiting hwait, dsvTest_waiting hwait]

theorem dsvSettle_dsvSettle (s : State) : dsvSettle (dsvSettle s) = dsvSettle s :=
  dsvSettle_of_fixed (dsvTest_dsvSettle s) (dsvTest_dsvSettle s)

end

/-! ## A clearing report -/

/-- A record turned LATCHED and notified, before DSV's tests (R155, R160). -/
def latchedFault (k : FaultKind) (s : State) : State :=
  notifyFaults (setRecord k { s.faults.record k with state := .latched } s)

theorem clearFault_latches {k : FaultKind} {s : State} (h : s.faults.isActive k = true) :
    clearFault k s = dsvSettle (latchedFault k s) := clearFault_active h

@[simp] theorem clearFault_counters (k : FaultKind) (s : State) :
    (clearFault k s).wear.counters = s.wear.counters := by
  unfold clearFault
  split
  · rw [dsvSettle_counters]; rfl
  · rfl

/-- In a state that no test leaves, a clearing report leaves DSV as it was. -/
theorem clearFault_waiting_dsv (k : FaultKind) {s : State}
    (h : s.dsv.state = .precharge ∨ s.dsv.state = .powerDown ∨ s.dsv.state = .faulted) :
    (clearFault k s).dsv = s.dsv := by
  cases hactive : s.faults.isActive k with
  | false => rw [clearFault_inactive hactive]
  | true => rw [clearFault_latches hactive, dsvSettle_waiting (s := latchedFault k s) h]; rfl

/-! ## The arrival of a message -/

/-- The link's part of the arrival of a message of its kind (R21). -/
def linkUp (i : LinkId) (s : State) : State :=
  s.withSns (s.sns.setLink i { up := true, seen := true, monitor := some (lossTime i) })

/-- The arrival ends a loss (R21). -/
def endsLoss (i : LinkId) (s : State) : Bool := !(s.sns.link i).up && (s.sns.link i).seen

theorem linkArrival_eq (i : LinkId) (s : State) :
    linkArrival i s = if endsLoss i s then clearFault (linkFault i) (linkUp i s) else linkUp i s := rfl

/-- An arrival that clears nothing. -/
theorem linkArrival_quiet {i : LinkId} {s : State}
    (h : (endsLoss i s && s.faults.isActive (linkFault i)) = false) : linkArrival i s = linkUp i s := by
  rw [linkArrival_eq]
  split
  · rename_i hends
    rw [hends, Bool.true_and] at h
    exact clearFault_inactive h
  · rfl

/-- An arrival that turns its link's record LATCHED. -/
theorem linkArrival_clears {i : LinkId} {s : State}
    (h : (endsLoss i s && s.faults.isActive (linkFault i)) = true) :
    linkArrival i s = dsvSettle (latchedFault (linkFault i) (linkUp i s)) := by
  obtain ⟨hends, hactive⟩ := Bool.and_eq_true_iff.1 h
  rw [linkArrival_eq, if_pos hends]
  exact clearFault_latches hactive

section
variable (i : LinkId) (s : State)

theorem linkArrival_rest : (linkArrival i s).rest = (linkUp i s).rest := by
  rw [linkArrival_eq]
  split
  · exact clearFault_rest _ _
  · rfl

theorem linkArrival_sns :
    (linkArrival i s).sns = s.sns.setLink i { up := true, seen := true, monitor := some (lossTime i) } :=
  sns_of_rest (linkArrival_rest i s)

theorem linkArrival_log : (linkArrival i s).log = s.log := by
  rw [linkArrival_eq]
  split
  · exact clearFault_log _ _
  · rfl

theorem linkArrival_counters : (linkArrival i s).wear.counters = s.wear.counters := by
  rw [linkArrival_eq]
  split
  · exact clearFault_counters _ _
  · rfl

theorem linkArrival_record_same :
    (linkArrival i s).faults.record (linkFault i) =
      if (endsLoss i s && s.faults.isActive (linkFault i)) = true then
        { s.faults.record (linkFault i) with state := .latched }
      else s.faults.record (linkFault i) := by
  split
  · rename_i h
    rw [linkArrival_clears h, dsvSettle_faults]
    exact setRecord_record_same _ _ _
  · rename_i h
    rw [linkArrival_quiet (Bool.eq_false_iff.2 h)]
    rfl

theorem linkArrival_record_other {k : FaultKind} (h : k ≠ linkFault i) :
    (linkArrival i s).faults.record k = s.faults.record k := by
  rw [linkArrival_eq]
  split
  · exact clearFault_record_other _ h
  · rfl

end

end Sys2Proof.Machine
end

section
/-! PROOF. The messages of the drive, engine and brake links (R5, R8 to R10, R21, R24 to R31, R155). -/

namespace Sys2Proof.Machine

open Sys2Proof

/-! ## What an arrival leaves as it was -/

/-- The records of an arrival in which SNS takes in fields and DSV acts. -/
theorem eq_of_arrival {s t : State} (hrest : t.rest = { s.rest with sns := t.sns })
    (hcounters : t.wear.counters = s.wear.counters) (hlog : t.log = s.log) :
    t = { s with
      sns := t.sns, dsv := t.dsv, faults := t.faults, wear := { s.wear with windowOpen := t.wear.windowOpen },
      exc := t.exc, port := t.port } :=
  State.eq_of_fields hrest rfl rfl (Wear.eq_of_counters hcounters) hlog rfl rfl

theorem linkArrival_rest_but_sns (i : LinkId) (s : State) (n : Sns) :
    ({ (linkArrival i s).rest with sns := n } : Rest) = { s.rest with sns := n } := by
  rw [linkArrival_rest]
  rfl

theorem Sns.setLink_roadSpeed (n : Sns) (i : LinkId) (l : Link) : (n.setLink i l).roadSpeed = n.roadSpeed := by
  cases i <;> rfl

/-- What R8 and R9 say of an event whose tests are those of a state with the same driveline state and road speed. -/
theorem follows_of_settled {s t x : State} (hstate : x.dsv.state = s.dsv.state)
    (hroad : x.sns.roadSpeed = s.sns.roadSpeed) (hspl : t.spl = x.spl) (hfaults : t.faults = x.faults)
    (hdsv : t.dsv = (dsvSettle x).dsv) (hwear : t.wear = (dsvSettle x).wear) : LimpFollows s t ∧ ReadyFollows s t := by
  refine ⟨fun hs hrank => ?_, fun hs => ⟨?_, fun hdrive => ?_⟩⟩
  · rw [hdsv, hspl, ← hroad]
    exact dsvSettle_limp_state (hstate.trans hs) (hfaults ▸ hrank)
  · rw [hdsv, dsvSettle_ready_state (hstate.trans hs), hspl, hfaults]
    unfold readyGoal
    simp only [FaultTable.isActive_false_iff]
  · rw [hwear]
    rw [hdsv] at hdrive
    refine dsvSettle_driveClosed (fun hx => ?_) hdrive
    rw [hstate, hs] at hx
    cases hx

theorem driveFollows_of_settled {s t x : State} (hstate : x.dsv.state = s.dsv.state)
    (hroad : t.sns.roadSpeed = x.sns.roadSpeed) (hspl : t.spl = x.spl) (hfaults : t.faults = x.faults)
    (hdsv : t.dsv = (dsvSettle x).dsv) : DriveFollows s t := by
  intro hs hrank
  rw [hdsv, hspl, hroad]
  exact dsvSettle_drive_state (hstate.trans hs) (hfaults ▸ hrank)

/-- The arrival that turns its link's record LATCHED: R8 and R9 follow. -/
theorem linkArrival_follows {i : LinkId} {s t : State} (h : (endsLoss i s && s.faults.isActive (linkFault i)) = true)
    (hspl : t.spl = s.spl) (hfaults : t.faults = (linkArrival i s).faults) (hdsv : t.dsv = (linkArrival i s).dsv)
    (hwear : t.wear = (linkArrival i s).wear) : LimpFollows s t ∧ ReadyFollows s t := by
  rw [linkArrival_clears h] at hfaults hdsv hwear
  exact follows_of_settled (x := latchedFault (linkFault i) (linkUp i s)) rfl (Sns.setLink_roadSpeed _ _ _) hspl
    (hfaults.trans (dsvSettle_faults _)) hdsv hwear

/-! ## The engine and the brake link -/

/-- What the arrival of a message on a link leaves, its fields n taken in after it. -/
theorem linkArrival_withSns (i : LinkId) (s : State) (n : Sns) :
    let t := (linkArrival i s).withSns n
    t = { s with
      sns := t.sns, dsv := t.dsv, faults := t.faults, wear := { s.wear with windowOpen := t.wear.windowOpen },
      exc := t.exc, port := t.port } ∧
    (∀ k : FaultKind, k ≠ linkFault i → t.faults.record k = s.faults.record k) ∧
    ((s.sns.link i).up = false → (s.sns.link i).seen = true → s.faults.isActive (linkFault i) = true →
      t.faults.record (linkFault i) = { s.faults.record (linkFault i) with state := .latched } ∧ LimpFollows s t ∧
        ReadyFollows s t) ∧
    ((s.sns.link i).up = true → t.faults = s.faults ∧ t.dsv = s.dsv) := by
  intro t
  refine ⟨eq_of_arrival (linkArrival_rest_but_sns i s n) (linkArrival_counters i s) (linkArrival_log i s),
    fun k hk => linkArrival_record_other i s hk, fun hup hseen hactive => ?_, fun hup => ?_⟩
  · have hclears : (endsLoss i s && s.faults.isActive (linkFault i)) = true := by
      simp [endsLoss, hup, hseen, hactive]
    refine ⟨?_, linkArrival_follows hclears ?_ rfl rfl rfl⟩
    · exact (linkArrival_record_same i s).trans (if_pos hclears)
    · exact congrArg Rest.spl (linkArrival_rest i s)
  · have hquiet : (endsLoss i s && s.faults.isActive (linkFault i)) = false := by
      simp [endsLoss, hup]
    show (linkArrival i s).faults = _ ∧ (linkArrival i s).dsv = _
    rw [linkArrival_quiet hquiet]
    exact ⟨rfl, rfl⟩

theorem exec_engineStatus {s : State} (speed torque : Int) (run : Bool) (hrun : s.running = true) :
    exec (.engineStatus true speed torque run) s = .next (engineArrival speed torque run s) :=
  congrArg Host.Outcome.next (whileRunning_runs _ hrun)

theorem exec_brakeStatus {s : State} (available abs : Bool) (hrun : s.running = true) :
    exec (.brakeStatus true available abs) s = .next (brakeArrival available abs s) :=
  congrArg Host.Outcome.next (whileRunning_runs _ hrun)

/-- Settles O29, by the arrival of a message on each of the two links. -/
theorem engineAndBrakeStatusTakenIn : Obligations.EngineAndBrakeStatusTakenIn := by
  intro s speed torque run available abs hrun hlog
  constructor
  · have hexec := exec_engineStatus speed torque run hrun
    obtain ⟨hframe, hother, hclears, hup⟩ := linkArrival_withSns .engine s
      { (linkArrival .engine s).sns with
        engineSpeed := satField speed 4000, engineTorque := clamp torque (-500) 2000, engineRunning := run }
    refine ⟨_, hexec, ?_, hframe, hother, hclears, hup, event_frame rfl (fun v => Instr.noConfusion) hlog hexec⟩
    unfold engineArrival
    rw [withSns_sns, linkArrival_sns]
    rfl
  · have hexec := exec_brakeStatus available abs hrun
    obtain ⟨hframe, hother, hclears, hup⟩ := linkArrival_withSns .brake s
      { (linkArrival .brake s).sns with brakeAvailable := available, absActive := abs }
    refine ⟨_, hexec, ?_, hframe, hother, hclears, hup, event_frame rfl (fun v => Instr.noConfusion) hlog hexec⟩
    unfold brakeArrival
    rw [withSns_sns, linkArrival_sns]
    rfl

end Sys2Proof.Machine
end

section
/-! PROOF. INVERTER_STATUS and the voltage condition at it (R5, R9, R10, R21, R24, R30, R31). -/

namespace Sys2Proof.Machine

open Sys2Proof

/-! ## The voltage condition -/

theorem voltageTest_idle {s : State} (h : s.dsv.prechargeTimer = none ∨ s.dsv.inverterSincePrecharge = false) :
    voltageTest s = s := by
  unfold voltageTest voltageCondition
  rcases h with h | h <;> simp [h]

/-- DSV's records where POS closes (R5). -/
def posClosing (d : Dsv) (minTemp : Int) : Dsv :=
  { d with
    prechargeTimer := none, posClosed := true, posFlag := true,
    settleTimer := some (if minTemp ≤ 0 then 500 else 100) }

/-- The voltage condition with the timer running and both links up (R5). -/
theorem voltageTest_dsv {s : State} (htimer : s.dsv.prechargeTimer.isSome = true) (hdrive : s.sns.driveLink.up = true)
    (hpack : s.sns.packLink.up = true) :
    (voltageTest s).dsv =
      if s.dsv.inverterSincePrecharge = true ∧ s.ena.voltage * 950 ≤ s.sns.linkVoltage * 1000 then
        posClosing s.dsv s.ena.minTemp
      else s.dsv := by
  unfold voltageTest voltageCondition
  rw [htimer, hdrive, hpack]
  simp only [Bool.true_and, Bool.and_eq_true, decide_eq_true_eq]
  split
  · rfl
  · rfl

/-! ## The arrival -/

theorem noteInverterArrival_other {s : State} (h : s.dsv.state ≠ .precharge) : noteInverterArrival s = s := by
  unfold noteInverterArrival
  rw [if_neg h]

theorem noteInverterArrival_precharge {s : State} (h : s.dsv.state = .precharge) :
    noteInverterArrival s = s.withDsv { s.dsv with inverterSincePrecharge := true } := by
  unfold noteInverterArrival
  rw [if_pos h]

/-- The note changes nothing but DSV's own flag. -/
theorem noteInverterArrival_eq (s : State) :
    noteInverterArrival s =
      s.withDsv { s.dsv with
        inverterSincePrecharge := decide (s.dsv.state = .precharge) || s.dsv.inverterSincePrecharge } := by
  by_cases h : s.dsv.state = .precharge
  · rw [noteInverterArrival_precharge h, h]
    rfl
  · rw [noteInverterArrival_other h]
    simp only [h, decide_false, Bool.false_or]
    rfl

/-- The fields taken in, before DSV's tests against them. -/
def inverterTaken (speed voltage motor generator : Int) (s : State) : State :=
  odometerAddition (takeInverterFields speed voltage motor generator (linkArrival .drive (noteInverterArrival s)))

section
variable (speed voltage motor generator : Int) (s : State)

theorem inverterArrival_eq :
    inverterArrival speed voltage motor generator s =
      dsvSettle (voltageTest (inverterTaken speed voltage motor generator s)) := rfl

theorem inverterTaken_dsv :
    (inverterTaken speed voltage motor generator s).dsv = (linkArrival .drive (noteInverterArrival s)).dsv := rfl

theorem inverterTaken_faults :
    (inverterTaken speed voltage motor generator s).faults = (linkArrival .drive (noteInverterArrival s)).faults := rfl

theorem inverterTaken_wear :
    (inverterTaken speed voltage motor generator s).wear = (linkArrival .drive (noteInverterArrival s)).wear := rfl

theorem inverterTaken_log : (inverterTaken speed voltage motor generator s).log = s.log := by
  show (linkArrival .drive (noteInverterArrival s)).log = _
  rw [linkArrival_log, noteInverterArrival_eq]
  rfl

/-- All records but SNS's are those of the arrival. -/
theorem inverterTaken_rest :
    (inverterTaken speed voltage motor generator s).rest =
      { s.rest with sns := (inverterTaken speed voltage motor generator s).sns } := by
  have h := linkArrival_rest_but_sns .drive (noteInverterArrival s) (inverterTaken speed voltage motor generator s).sns
  have hnote : (noteInverterArrival s).rest = s.rest := by
    rw [noteInverterArrival_eq]
    rfl
  rw [hnote] at h
  exact h

theorem linkArrival_limits (hlog : LogInv s) :
    (linkArrival .drive (noteInverterArrival s)).dsv.limits = s.dsv.limits := by
  have h := ((noteInverterArrival_kept s).trans (linkArrival_kept .drive _)).frame hlog
  obtain ⟨-, -, -, hlimits, -⟩ := h
  exact hlimits

/-- SNS's records after the message (R21, R22, R24, R30, R31). -/
theorem inverterTaken_sns (hlimits : (linkArrival .drive (noteInverterArrival s)).dsv.limits = s.dsv.limits) :
    (inverterTaken speed voltage motor generator s).sns =
      { s.sns with
        driveLink := { up := true, seen := true, monitor := some 50 }, shaftSpeed := clamp speed (-12000) 12000,
        linkVoltage := satField voltage 10000, motorLimit := satField motor 4000, generatorLimit := satField generator 4000,
        roadSpeed := roadSpeedOf (clamp speed (-12000) 12000).natAbs s.sns.circ s.dsv.limits.ratio100,
        odometerRemainder :=
          (if 360000 ≤ s.sns.odometerRemainder +
              roadSpeedOf (clamp speed (-12000) 12000).natAbs s.sns.circ s.dsv.limits.ratio100 then
            s.sns.odometerRemainder +
              roadSpeedOf (clamp speed (-12000) 12000).natAbs s.sns.circ s.dsv.limits.ratio100 - 360000
          else s.sns.odometerRemainder +
            roadSpeedOf (clamp speed (-12000) 12000).natAbs s.sns.circ s.dsv.limits.ratio100),
        odometer :=
          (if 360000 ≤ s.sns.odometerRemainder +
              roadSpeedOf (clamp speed (-12000) 12000).natAbs s.sns.circ s.dsv.limits.ratio100 then
            min (s.sns.odometer + 1) 4294967295
          else s.sns.odometer) } := by
  have hsns : (linkArrival .drive (noteInverterArrival s)).sns =
      s.sns.setLink .drive { up := true, seen := true, monitor := some 50 } := by
    rw [linkArrival_sns, noteInverterArrival_eq]
    rfl
  unfold inverterTaken odometerAddition takeInverterFields
  simp only [withSns_sns, hsns, hlimits, Sns.setLink]
  split
  · rfl
  · rfl

end

/-! ## The tests after the message -/

section
variable {speed voltage motor generator : Int} {s : State}

theorem inverterTaken_spl : (inverterTaken speed voltage motor generator s).spl = s.spl :=
  congrArg Rest.spl (inverterTaken_rest speed voltage motor generator s)

/-- Outside PRECHARGE an arrival that clears nothing leaves DSV as it was before the tests. -/
theorem inverterTaken_dsv_quiet (hstate : s.dsv.state ≠ .precharge)
    (hquiet : (endsLoss .drive s && s.faults.isActive .inverterLinkLost) = false) :
    (inverterTaken speed voltage motor generator s).dsv = s.dsv ∧
      (inverterTaken speed voltage motor generator s).faults = s.faults ∧
      (inverterTaken speed voltage motor generator s).wear = s.wear := by
  rw [inverterTaken_dsv, inverterTaken_faults, inverterTaken_wear, noteInverterArrival_other hstate,
    linkArrival_quiet (i := .drive) hquiet]
  exact ⟨rfl, rfl, rfl⟩

/-- In POWER_DOWN and FAULTED the arrival leaves DSV as it was. -/
theorem inverterTaken_dsv_waiting (hstate : s.dsv.state = .powerDown ∨ s.dsv.state = .faulted) :
    (inverterTaken speed voltage motor generator s).dsv = s.dsv := by
  have hother : s.dsv.state ≠ .precharge := by
    rcases hstate with h | h <;> rw [h] <;> exact DrivelineState.noConfusion
  rw [inverterTaken_dsv, noteInverterArrival_other hother, linkArrival_eq]
  split
  · exact clearFault_waiting_dsv _ (s := linkUp .drive s) (.inr hstate)
  · rfl

/-- An arrival that turns INVERTER_LINK_LOST LATCHED: DSV's tests come before the values are taken in (log 32). -/
theorem inverterTaken_dsv_clears (hstate : s.dsv.state ≠ .precharge)
    (hclears : (endsLoss .drive s && s.faults.isActive .inverterLinkLost) = true) :
    (inverterTaken speed voltage motor generator s).dsv =
      (dsvSettle (latchedFault .inverterLinkLost (linkUp .drive s))).dsv := by
  rw [inverterTaken_dsv, noteInverterArrival_other hstate, linkArrival_clears (i := .drive) hclears]
  rfl

/-- SAFE_STOP below 1.0 km/h after the message: POWER_DOWN, whether the clearing report or the new speed brings it (R10). -/
theorem inverterArrival_safeStop (hstate : s.dsv.state = .safeStop)
    (htimer : s.dsv.prechargeTimer = none)
    (hroad : (inverterTaken speed voltage motor generator s).sns.roadSpeed < 10) :
    (inverterArrival speed voltage motor generator s).dsv =
      { s.dsv with state := .powerDown, safeStopTimer := none, powerDownTimer := some 500 } := by
  have hother : s.dsv.state ≠ .precharge := hstate.trans_ne (by decide)
  have hfinal (hd : (inverterTaken speed voltage motor generator s).dsv = s.dsv ∨
      (inverterTaken speed voltage motor generator s).dsv =
        { s.dsv with state := .powerDown, safeStopTimer := none, powerDownTimer := some 500 }) :
      (inverterArrival speed voltage motor generator s).dsv =
        { s.dsv with state := .powerDown, safeStopTimer := none, powerDownTimer := some 500 } := by
    rw [inverterArrival_eq]
    generalize inverterTaken speed voltage motor generator s = x at hd hroad
    rcases hd with hd | hd
    · rw [voltageTest_idle (.inl (by rw [hd]; exact htimer)), dsvSettle_safeStop (by rw [hd]; exact hstate),
        if_pos hroad, enterPowerDown_dsv, hd]
    · rw [voltageTest_idle (.inl (by rw [hd]; exact htimer)), dsvSettle_waiting (.inr (.inl (by rw [hd]))), hd]
  refine hfinal ?_
  cases hclears : endsLoss .drive s && s.faults.isActive .inverterLinkLost with
  | false => exact .inl (inverterTaken_dsv_quiet hother hclears).1
  | true =>
    rw [inverterTaken_dsv_clears hother hclears,
      dsvSettle_safeStop (s := latchedFault .inverterLinkLost (linkUp .drive s)) hstate]
    split
    · exact .inr rfl
    · exact .inl rfl

/-- Outside PRECHARGE, with nothing cleared, the tests are those of the fields just taken in. -/
theorem inverterArrival_quiet (hstate : s.dsv.state ≠ .precharge) (htimer : s.dsv.prechargeTimer = none)
    (hquiet : (endsLoss .drive s && s.faults.isActive .inverterLinkLost) = false) :
    inverterArrival speed voltage motor generator s = dsvSettle (inverterTaken speed voltage motor generator s) := by
  obtain ⟨hdsv, -⟩ := inverterTaken_dsv_quiet (speed := speed) (voltage := voltage) (motor := motor)
    (generator := generator) hstate hquiet
  rw [inverterArrival_eq, voltageTest_idle (.inl (by rw [hdsv]; exact htimer))]

/-- Where no test leaves the driveline state, the message leaves DSV as it was. -/
theorem inverterArrival_stays (hstate : s.dsv.state ≠ .precharge) (htimer : s.dsv.prechargeTimer = none)
    (hquiet : (endsLoss .drive s && s.faults.isActive .inverterLinkLost) = false)
    (hstay : ∀ x : State, x.dsv = s.dsv → x.faults = s.faults → x.spl = s.spl →
      x.sns.roadSpeed = (inverterTaken speed voltage motor generator s).sns.roadSpeed → dsvSettle x = x) :
    (inverterArrival speed voltage motor generator s).dsv = s.dsv := by
  obtain ⟨hdsv, hfaults, -⟩ := inverterTaken_dsv_quiet (speed := speed) (voltage := voltage) (motor := motor)
    (generator := generator) hstate hquiet
  rw [inverterArrival_quiet hstate htimer hquiet, hstay _ hdsv hfaults inverterTaken_spl rfl, hdsv]

theorem inverterArrival_waiting (hstate : s.dsv.state = .powerDown ∨ s.dsv.state = .faulted)
    (htimer : s.dsv.prechargeTimer = none) : (inverterArrival speed voltage motor generator s).dsv = s.dsv := by
  have hdsv : (inverterTaken speed voltage motor generator s).dsv = s.dsv := inverterTaken_dsv_waiting hstate
  rw [inverterArrival_eq, voltageTest_idle (.inl (by rw [hdsv]; exact htimer)),
    dsvSettle_waiting (.inr (by rw [hdsv]; exact hstate)), hdsv]

/-- STANDBY with the key ON and nothing else against it: the clearing report brings PRECHARGE (R4, R21, R155; log 16). -/
theorem inverterArrival_standby (hstate : s.dsv.state = .standby) (hkey : s.dsv.mode.keyOn = true)
    (hcool : s.dsv.cooldownTimer = none)
    (hclears : (endsLoss .drive s && s.faults.isActive .inverterLinkLost) = true)
    (hrank : (inverterArrival speed voltage motor generator s).faults.highest.rank < 3) :
    (inverterArrival speed voltage motor generator s).dsv = { s.dsv with
      state := .precharge, negClosed := true, preClosed := true, prechargeTimer := some 3000,
      inverterSincePrecharge := false } := by
  have hother : s.dsv.state ≠ .precharge := hstate.trans_ne (by decide)
  have hfaults : (inverterArrival speed voltage motor generator s).faults =
      (latchedFault .inverterLinkLost (linkUp .drive s)).faults := by
    rw [inverterArrival_eq, dsvSettle_faults, voltageTest_faults, inverterTaken_faults, noteInverterArrival_other hother,
      linkArrival_clears (i := .drive) hclears, dsvSettle_faults]
    rfl
  have hdsv : (inverterTaken speed voltage motor generator s).dsv = { s.dsv with
      state := .precharge, negClosed := true, preClosed := true, prechargeTimer := some 3000,
      inverterSincePrecharge := false } := by
    rw [inverterTaken_dsv_clears hother hclears,
      dsvSettle_standby (s := latchedFault .inverterLinkLost (linkUp .drive s)) hstate,
      if_pos ⟨hkey, hcool, hfaults ▸ hrank⟩]
    rfl
  rw [inverterArrival_eq, voltageTest_idle (.inr (by rw [hdsv])), dsvSettle_waiting (.inl (by rw [hdsv])), hdsv]

end

theorem exec_inverterStatus {s : State} (speed voltage motor generator : Int) (hrun : s.running = true) :
    exec (.inverterStatus true speed voltage motor generator) s =
      .next (inverterArrival speed voltage motor generator s) :=
  congrArg Host.Outcome.next (whileRunning_runs _ hrun)

/-- Settles O27, by the fields taken in and the tests of each driveline state after them. -/
theorem inverterStatusUpdatesSpeeds : Obligations.InverterStatusUpdatesSpeeds := by
  intro s speed voltage motor generator hrun hlog n road total clears
  have hexec := exec_inverterStatus speed voltage motor generator hrun
  have hclears : clears = (endsLoss .drive s && s.faults.isActive .inverterLinkLost) := rfl
  have htaken := inverterTaken_sns speed voltage motor generator s (linkArrival_limits s hlog)
  have hsns : (inverterArrival speed voltage motor generator s).sns =
      (inverterTaken speed voltage motor generator s).sns := by
    rw [inverterArrival_eq, dsvSettle_sns, voltageTest_sns]
  have hroad : (inverterTaken speed voltage motor generator s).sns.roadSpeed = road := by rw [htaken]; rfl
  have hfaults : (inverterArrival speed voltage motor generator s).faults =
      (linkArrival .drive (noteInverterArrival s)).faults := by
    rw [inverterArrival_eq, dsvSettle_faults, voltageTest_faults, inverterTaken_faults]
  refine ⟨_, hexec, hsns.trans htaken, eq_of_arrival ?_ ?_ ?_, fun k hk => ?_, ?_, fun htimer => ⟨fun hs hslow => ?_,
    fun hq hs => ?_, fun hq hs hfast => ?_, fun hq hs hbar => ?_, fun hq hs hbar => ?_, fun hs => ?_,
    fun hs hkey hcool hc hrank => ?_⟩, event_frame rfl (fun v => Instr.noConfusion) hlog hexec⟩
  · rw [inverterArrival_eq, dsvSettle_rest, voltageTest_rest, dsvSettle_sns, voltageTest_sns]
    exact inverterTaken_rest speed voltage motor generator s
  · rw [inverterArrival_eq, dsvSettle_counters, voltageTest_wear, inverterTaken_wear, linkArrival_counters,
      noteInverterArrival_eq]
    rfl
  · rw [inverterArrival_eq, dsvSettle_log, voltageTest_log, inverterTaken_log]
  · rw [hfaults, linkArrival_record_other .drive _ hk, noteInverterArrival_eq]
    rfl
  · rw [hfaults]
    refine (linkArrival_record_same .drive _).trans ?_
    rw [noteInverterArrival_eq]
    rfl
  · exact inverterArrival_safeStop hs htimer (hroad ▸ hslow)
  · have hother := hs.trans_ne (c := .precharge) (by decide)
    have hd := (inverterTaken_dsv_quiet (speed := speed) (voltage := voltage) (motor := motor)
      (generator := generator) hother hq).1
    rw [inverterArrival_quiet hother htimer hq]
    exact driveFollows_of_settled (congrArg Dsv.state hd) (by rw [dsvSettle_sns]) (dsvSettle_spl _) (dsvSettle_faults _)
      rfl hs
  · exact inverterArrival_stays (hs.trans_ne (by decide)) htimer hq fun x hd _ _ hr =>
      dsvSettle_safeStop_stays (hd ▸ hs) (hr ▸ hroad ▸ hfast)
  · exact inverterArrival_stays (hs.trans_ne (by decide)) htimer hq fun x hd hf hp _ =>
      dsvSettle_limp_stays (hd ▸ hs) (by rw [hf, hp]; exact hbar)
  · exact inverterArrival_stays (hs.trans_ne (by decide)) htimer hq fun x hd hf hp _ =>
      dsvSettle_ready_stays (hd ▸ hs) (by rw [hf, hp]; exact hbar)
  · exact inverterArrival_waiting hs htimer
  · exact inverterArrival_standby hs hkey hcool hc hrank

end Sys2Proof.Machine
end

section
/-! PROOF. The account of a pack sample: the fields taken in, the throughput and session counts, the limits and the comparison
of R53 (R29, R39 to R42, R46, R49, R51, R53, R55, R56). -/

namespace Sys2Proof.Machine

open Sys2Proof

/-! ## The fields of a sample -/

/-- The state in which ENA finds an arrival: the link is UP and SNS has taken in the five fields (R21, R29). -/
def packTaken (count : Byte) (current voltage lo hi : Int) (s : State) : State :=
  takePackFields count current voltage lo hi (linkArrival .pack s)

section
variable (count : Byte) (current voltage lo hi : Int) (s : State)

theorem packTaken_sns :
    (packTaken count current voltage lo hi s).sns =
      { s.sns with
        packLink := { up := true, seen := true, monitor := some 20 }, packCount := count,
        packCurrent := clamp current (-10000) 10000, packVoltage := satField voltage 10000,
        packMinTemp := min (clamp lo (-40) 125) (clamp hi (-40) 125),
        packMaxTemp := max (clamp lo (-40) 125) (clamp hi (-40) 125) } := by
  unfold packTaken takePackFields
  rw [withSns_sns, linkArrival_sns]
  rfl

theorem packTaken_rest :
    (packTaken count current voltage lo hi s).rest =
      { s.rest with sns := (packTaken count current voltage lo hi s).sns } :=
  linkArrival_rest_but_sns .pack s (packTaken count current voltage lo hi s).sns

theorem packTaken_ena : (packTaken count current voltage lo hi s).ena = s.ena :=
  congrArg Rest.ena (packTaken_rest count current voltage lo hi s)

theorem packTaken_dsv : (packTaken count current voltage lo hi s).dsv = (linkArrival .pack s).dsv := rfl

theorem packTaken_faults : (packTaken count current voltage lo hi s).faults = (linkArrival .pack s).faults := rfl

theorem packTaken_counter (c : Counter) : (packTaken count current voltage lo hi s).counter c = s.counter c := by
  have h : (packTaken count current voltage lo hi s).wear.counters = s.wear.counters := linkArrival_counters .pack s
  unfold State.counter
  rw [h]

theorem packTaken_log : (packTaken count current voltage lo hi s).log = s.log := linkArrival_log .pack s

theorem packTaken_kept : Kept s (packTaken count current voltage lo hi s) :=
  (linkArrival_kept .pack s).trans (withSns_kept _ _)

end

/-! ## The account -/

/-- The throughput remainders of an integrating arrival (R55). -/
def throughputEna (n : Nat) (e : Ena) : Ena :=
  { e with
    dischargeRemainder :=
      (if 0 < e.current then
        (if 3600000 ≤ e.dischargeRemainder + e.current.natAbs * n then
          e.dischargeRemainder + e.current.natAbs * n - 3600000
        else e.dischargeRemainder + e.current.natAbs * n)
      else e.dischargeRemainder),
    chargeRemainder :=
      (if e.current < 0 then
        (if 3600000 ≤ e.chargeRemainder + e.current.natAbs * n then e.chargeRemainder + e.current.natAbs * n - 3600000
        else e.chargeRemainder + e.current.natAbs * n)
      else e.chargeRemainder) }

theorem throughputEna_discharging {n : Nat} {e : Ena} (h : 0 < e.current) :
    throughputEna n e =
      { e with
        dischargeRemainder :=
          if 3600000 ≤ e.dischargeRemainder + e.current.natAbs * n then
            e.dischargeRemainder + e.current.natAbs * n - 3600000
          else e.dischargeRemainder + e.current.natAbs * n } := by
  unfold throughputEna
  rw [if_pos h, if_neg (lt_asymm h)]

theorem throughputEna_charging {n : Nat} {e : Ena} (h : e.current < 0) :
    throughputEna n e =
      { e with
        chargeRemainder :=
          if 3600000 ≤ e.chargeRemainder + e.current.natAbs * n then
            e.chargeRemainder + e.current.natAbs * n - 3600000
          else e.chargeRemainder + e.current.natAbs * n } := by
  unfold throughputEna
  rw [if_neg (lt_asymm h), if_pos h]

/-- The throughput of an integrating arrival: the remainders, then the increment request of a full unit (R55). -/
theorem addThroughput_eq (n : Nat) (s : State) :
    addThroughput n s =
      if 0 < s.ena.current ∧ 3600000 ≤ s.ena.dischargeRemainder + s.ena.current.natAbs * n then
        wearIncrement false w5 (s.withEna (throughputEna n s.ena))
      else if s.ena.current < 0 ∧ 3600000 ≤ s.ena.chargeRemainder + s.ena.current.natAbs * n then
        wearIncrement false w6 (s.withEna (throughputEna n s.ena))
      else s.withEna (throughputEna n s.ena) := by
  unfold addThroughput
  dsimp only
  by_cases hpos : 0 < s.ena.current
  · rw [if_pos hpos, throughputEna_discharging hpos, if_neg (c := s.ena.current < 0 ∧ _) fun h => lt_asymm hpos h.1]
    by_cases h : 3600000 ≤ s.ena.dischargeRemainder + s.ena.current.natAbs * n
    · rw [if_pos h, if_pos ⟨hpos, h⟩, if_pos h]
    · rw [if_neg h, if_neg fun hc => h hc.2, if_neg h]
  · rw [if_neg hpos, if_neg (c := 0 < s.ena.current ∧ _) fun h => hpos h.1]
    by_cases hneg : s.ena.current < 0
    · rw [if_pos hneg, throughputEna_charging hneg]
      by_cases h : 3600000 ≤ s.ena.chargeRemainder + s.ena.current.natAbs * n
      · rw [if_pos h, if_pos ⟨hneg, h⟩, if_pos h]
      · rw [if_neg h, if_neg fun hc => h hc.2, if_neg h]
    · rw [if_neg hneg, if_neg fun h => hneg h.1]
      unfold throughputEna
      rw [if_neg hpos, if_neg hneg]
      rfl

theorem withEna_counter (e : Ena) (c : Counter) (s : State) : (s.withEna e).counter c = s.counter c := rfl

section
variable (n : Nat) (s : State)

theorem addThroughput_ena : (addThroughput n s).ena = throughputEna n s.ena := by
  rw [addThroughput_eq]
  split_ifs
  · rw [wearIncrement_ena, withEna_ena]
  · rw [wearIncrement_ena, withEna_ena]
  · rw [withEna_ena]

@[simp] theorem addThroughput_faults : (addThroughput n s).faults = s.faults := by
  rw [addThroughput_eq]
  split_ifs
  · rw [wearIncrement_faults, withEna_faults]
  · rw [wearIncrement_faults, withEna_faults]
  · rw [withEna_faults]

@[simp] theorem addThroughput_exc : (addThroughput n s).exc = s.exc := by
  rw [addThroughput_eq]
  split_ifs
  · rw [wearIncrement_exc, withEna_exc]
  · rw [wearIncrement_exc, withEna_exc]
  · rw [withEna_exc]

theorem withEna_rest (e : Ena) : (s.withEna e).rest = { s.rest with ena := e } := rfl

theorem addThroughput_rest : (addThroughput n s).rest = { s.rest with ena := throughputEna n s.ena } := by
  rw [addThroughput_eq]
  split_ifs
  · rw [wearIncrement_rest, withEna_rest]
  · rw [wearIncrement_rest, withEna_rest]
  · rw [withEna_rest]

/-- An integrating arrival counts in W5 and W6 alone (R55). -/
theorem addThroughput_counter_other {c : Counter} (h5 : c ≠ w5) (h6 : c ≠ w6) :
    (addThroughput n s).counter c = s.counter c := by
  rw [addThroughput_eq]
  split_ifs
  · rw [wearIncrement_counter_other false _ h5, withEna_counter]
  · rw [wearIncrement_counter_other false _ h6, withEna_counter]
  · rw [withEna_counter]

theorem addThroughput_w5 :
    ((addThroughput n s).counter w5).value =
      if 0 < s.ena.current ∧ 3600000 ≤ s.ena.dischargeRemainder + s.ena.current.natAbs * n then
        min ((s.counter w5).value + 1) 4294967295
      else (s.counter w5).value := by
  have h56 : w5 ≠ w6 := by decide
  rw [addThroughput_eq]
  split_ifs
  · rw [wearIncrement_value, withEna_counter]
  · rw [wearIncrement_counter_other false _ h56, withEna_counter]
  · rw [withEna_counter]

theorem addThroughput_w6 :
    ((addThroughput n s).counter w6).value =
      if s.ena.current < 0 ∧ 3600000 ≤ s.ena.chargeRemainder + s.ena.current.natAbs * n then
        min ((s.counter w6).value + 1) 4294967295
      else (s.counter w6).value := by
  have h65 : w6 ≠ w5 := by decide
  rw [addThroughput_eq]
  by_cases hneg : s.ena.current < 0 ∧ 3600000 ≤ s.ena.chargeRemainder + s.ena.current.natAbs * n
  · rw [if_pos hneg, if_pos hneg, if_neg fun hpos => lt_asymm hpos.1 hneg.1, wearIncrement_value, withEna_counter]
  · rw [if_neg hneg, if_neg hneg]
    split
    · rw [wearIncrement_counter_other false _ h65, withEna_counter]
    · rw [withEna_counter]

end

/-- Without thresholds on W5 and W6 the throughput logs nothing (R130). -/
theorem addThroughput_log_unwarned (n : Nat) {s : State}
    (h : ∀ c : Counter, c = w5 ∨ c = w6 → (s.counter c).advise = 0 ∧ (s.counter c).urgent = 0) :
    (addThroughput n s).log = s.log := by
  rw [addThroughput_eq]
  split_ifs
  · rw [wearIncrement_log_unwarned false (s := s.withEna (throughputEna n s.ena)) (h w5 (.inl rfl)), withEna_log]
  · rw [wearIncrement_log_unwarned false (s := s.withEna (throughputEna n s.ena)) (h w6 (.inr rfl)), withEna_log]
  · rw [withEna_log]

/-- The session energies of an integrating arrival (R56). -/
theorem addSession_eq (e : Ena) (n brake : Nat) :
    addSession e n brake =
      { e with
        spentRemainder :=
          (if 0 < e.current then (e.spentRemainder + e.current.natAbs * e.voltage * n) % 100000000 else e.spentRemainder),
        spentEnergy :=
          (if 0 < e.current then
            min (e.spentEnergy + (e.spentRemainder + e.current.natAbs * e.voltage * n) / 100000000) 4294967295
          else e.spentEnergy),
        recoveredRemainder :=
          (if e.current < 0 ∧ 0 < brake then (e.recoveredRemainder + e.current.natAbs * e.voltage * n) % 100000000
          else e.recoveredRemainder),
        recoveredEnergy :=
          (if e.current < 0 ∧ 0 < brake then
            min (e.recoveredEnergy + (e.recoveredRemainder + e.current.natAbs * e.voltage * n) / 100000000) 4294967295
          else e.recoveredEnergy) } := by
  unfold addSession
  dsimp only
  by_cases hpos : 0 < e.current
  · have hneg : ¬(e.current < 0 ∧ 0 < brake) := fun h => lt_asymm hpos h.1
    rw [if_pos hpos, if_pos hpos, if_pos hpos, if_neg hneg, if_neg hneg]
    rfl
  · rw [if_neg hpos, if_neg hpos, if_neg hpos]
    split
    · rfl
    · rfl

theorem restTest_eq (e : Ena) :
    restTest e = { e with restTimer := if 20 < e.current.natAbs then 0 else e.restTimer } := by
  unfold restTest
  split
  · rfl
  · rfl

/-! ## Steps 1 to 4 of an arrival -/

theorem takeSample_ena (s : State) :
    (takeSample s).ena =
      { s.ena with
        voltage := s.sns.packVoltage, minTemp := s.sns.packMinTemp, maxTemp := s.sns.packMaxTemp,
        current := compensate s.sns.packCurrent s.ena.offset s.ena.gain } := rfl

/-- ENA's records after an integrating arrival's steps 1 to 4 (R39 to R42, R46, R55, R56), e the records after steps 1 and 2. -/
def integratedEna (n brake : Nat) (e : Ena) : Ena :=
  restTest (addSession (throughputEna n (integrateCharge e n)) n brake)

theorem accountSample_integrating (n : Nat) (s : State) :
    accountSample (.integrating n) s =
      (addThroughput n (s.withEna (integrateCharge s.ena n))).withEna
        (addSession (throughputEna n (integrateCharge s.ena n)) n s.spl.demand.brake) := by
  have hspl : (addThroughput n (s.withEna (integrateCharge s.ena n))).spl = s.spl :=
    congrArg Rest.spl (addThroughput_rest n (s.withEna (integrateCharge s.ena n)))
  unfold accountSample
  dsimp only
  rw [hspl, addThroughput_ena]
  rfl

section
variable (n : Nat) (s : State)

theorem sampleAccounted_integrating :
    sampleAccounted (.integrating n) s =
      (addThroughput n ((takeSample s).withEna (integrateCharge (takeSample s).ena n))).withEna
        (integratedEna n s.spl.demand.brake (takeSample s).ena) := by
  unfold sampleAccounted
  rw [accountSample_integrating]
  rfl

theorem sampleAccounted_resynchronising (outage : Nat) :
    sampleAccounted (.resynchronising outage) s =
      s.withEna (restTest { (takeSample s).ena with unaccounted := min (s.ena.unaccounted + outage) 65535 }) := rfl

end

/-- ENA's records after steps 1 to 4 (R39 to R42, R46, R55, R56). -/
def accountedEna (k : SampleKind) (s : State) : Ena :=
  match k with
  | .resynchronising outage =>
    restTest { (takeSample s).ena with unaccounted := min (s.ena.unaccounted + outage) 65535 }
  | .duplicate => restTest (takeSample s).ena
  | .integrating n => integratedEna n s.spl.demand.brake (takeSample s).ena

section
variable (k : SampleKind) (s : State)

theorem sampleAccounted_ena : (sampleAccounted k s).ena = accountedEna k s := by
  cases k with
  | resynchronising outage => rfl
  | duplicate => rfl
  | integrating n =>
    rw [sampleAccounted_integrating]
    rfl

theorem sampleAccounted_dsv : (sampleAccounted k s).dsv = s.dsv := accountSample_dsv k (takeSample s)

theorem sampleAccounted_faults : (sampleAccounted k s).faults = s.faults := by
  cases k with
  | resynchronising outage => rfl
  | duplicate => rfl
  | integrating n =>
    rw [sampleAccounted_integrating, withEna_faults, addThroughput_faults]
    rfl

theorem sampleAccounted_rest : (sampleAccounted k s).rest = { s.rest with ena := accountedEna k s } := by
  cases k with
  | resynchronising outage => rfl
  | duplicate => rfl
  | integrating n =>
    rw [sampleAccounted_integrating, withEna_rest, addThroughput_rest]
    rfl

theorem sampleAccounted_kept : Kept s (sampleAccounted k s) :=
  ((withEna_kept _ s).trans (accountSample_kept k _)).trans (withEna_kept _ _)

theorem sampleAccounted_counter_other {c : Counter} (h5 : c ≠ w5) (h6 : c ≠ w6) :
    (sampleAccounted k s).counter c = s.counter c := by
  cases k with
  | resynchronising outage => rfl
  | duplicate => rfl
  | integrating n =>
    rw [sampleAccounted_integrating, withEna_counter, addThroughput_counter_other n _ h5 h6]
    rfl

end

/-- Without thresholds on W5 and W6 the account logs nothing. -/
theorem sampleAccounted_log_unwarned (k : SampleKind) {s : State}
    (h : ∀ c : Counter, c = w5 ∨ c = w6 → (s.counter c).advise = 0 ∧ (s.counter c).urgent = 0) :
    (sampleAccounted k s).log = s.log := by
  cases k with
  | resynchronising outage => rfl
  | duplicate => rfl
  | integrating n =>
    rw [sampleAccounted_integrating, withEna_log,
      addThroughput_log_unwarned n (s := (takeSample s).withEna (integrateCharge (takeSample s).ena n)) h]
    rfl

end Sys2Proof.Machine
end

section
/-! PROOF. What DSV's reactions to a raising log and count (R3, R7 to R12), and the comparison of R53. -/

namespace Sys2Proof.Machine

open Sys2Proof

/-! ## All contactors opened -/

section
variable (s : State)

theorem openAll_log : (openAll s).log = if s.dsv.posClosed then openingLog s else s.log := openPos_log s

end

/-- DSV's records with every timer stopped and a fault as the stop cause (R12). -/
def stoppedBy (k : FaultKind) (s : State) : State := setStopCause (.fault k) (stopTimers s)

theorem shutdown_eq (k : FaultKind) (s : State) :
    shutdown k s =
      setDrivelineState .faulted (logNow .shutdown none (some (k.number.val : Int)) (openAll (stoppedBy k s))) := rfl

section
variable (k : FaultKind) (s : State)

theorem shutdown_log :
    (shutdown k s).log = shutdownLog s (.fault k) (if s.dsv.posClosed then openingLog s else s.log) := by
  rw [shutdown_eq, setDrivelineState_log, logNow_log, openAll_log]
  have hodometer : (openAll (stoppedBy k s)).sns.odometer = s.sns.odometer :=
    congrArg Sns.odometer (sns_of_rest (openAll_rest (stoppedBy k s)))
  have hseconds : (openAll (stoppedBy k s)).dsv.operatingSeconds = s.dsv.operatingSeconds := by
    rw [openAll_dsv]
    rfl
  rw [entryNow_congr hodometer hseconds (congrArg Exc.frameNumber (openAll_exc (stoppedBy k s)))]
  rfl

theorem shutdown_counter_other {c : Counter} (h : c ≠ w7) : (shutdown k s).counter c = s.counter c :=
  openPos_counter_other (stoppedBy k s) h

theorem shutdown_w7 :
    ((shutdown k s).counter w7).value =
      if s.dsv.posClosed = true ∧ (s.sns.packLink.up = false ∨ 500 < s.ena.current.natAbs) then
        min ((s.counter w7).value + 1) 4294967295
      else (s.counter w7).value :=
  openPos_w7 (stoppedBy k s)

theorem safeStopReaction_counter_other (b : Bool) {c : Counter} (h : c ≠ w7) :
    (safeStopReaction k b s).counter c = s.counter c := by
  have habort : (abortPrecharge s).counter c = s.counter c := openPos_counter_other s h
  unfold safeStopReaction
  cases s.dsv.state <;> dsimp only
  case precharge => exact (apply_ite (fun t : State => t.counter c) _ _ _).trans (by rw [habort, ite_self])
  all_goals split_ifs <;> rfl

theorem shutdownReaction_counter_other (b : Bool) {c : Counter} (h : c ≠ w7) :
    (shutdownReaction k b s).counter c = s.counter c := by
  have hshutdown := shutdown_counter_other k s h
  unfold shutdownReaction
  have hite : (if b then shutdown k s else s).counter c = s.counter c := by
    rw [apply_ite (fun t : State => t.counter c), hshutdown, ite_self]
  cases s.dsv.state <;> dsimp only
  all_goals exact hite

theorem dsvSettle_counter (c : Counter) : (dsvSettle s).counter c = s.counter c := by
  unfold State.counter
  rw [dsvSettle_counters]

/-- A raising counts in W7 alone (R3). -/
theorem raiseFault_counter_other {c : Counter} (h : c ≠ w7) : (raiseFault k s).counter c = s.counter c := by
  unfold raiseFault dsvOnRaise
  dsimp only
  rw [dsvSettle_counter]
  cases k.reactionClass with
  | shutdown => exact shutdownReaction_counter_other k _ _ h
  | safeStop => exact safeStopReaction_counter_other k _ _ h
  | limp => rfl
  | derate => rfl
  | info => rfl

theorem clearFault_counter (c : Counter) : (clearFault k s).counter c = s.counter c := by
  unfold State.counter
  rw [clearFault_counters]

/-- A clearing report never raises the highest class (R159). -/
theorem clearFault_highest_le : (clearFault k s).faults.highest.rank ≤ s.faults.highest.rank :=
  FaultTable.highest_le_of_cleared ((FaultTable.isActive_false_iff _ k).2 (clearFault_notActive k s))
    fun _ h => clearFault_record_other s h

end

/-! ## The comparison of R53 -/

section
variable (s : State)

theorem overtempTest_rest : (overtempTest s).rest = s.rest := by
  unfold overtempTest
  dsimp only
  split_ifs
  · rfl
  · exact raiseFault_rest _ s
  · exact clearFault_rest _ s
  · rfl

/-- PACK_OVERTEMP after the comparison (R53). -/
theorem overtempTest_record :
    (overtempTest s).faults.record .packOvertemp =
      if (s.dsv.limits.packAbsMax : Int) ≤ s.ena.maxTemp then
        (if (s.faults.record .packOvertemp).state = .active then s.faults.record .packOvertemp
        else (s.faults.record .packOvertemp).raise s.dsv.operatingSeconds)
      else if s.ena.maxTemp < (s.dsv.limits.packAbsMax : Int) - 5 ∧ (s.faults.record .packOvertemp).state = .active then
        { s.faults.record .packOvertemp with state := .latched }
      else s.faults.record .packOvertemp := by
  have hactive : s.faults.isActive .packOvertemp = decide ((s.faults.record .packOvertemp).state = .active) := rfl
  unfold overtempTest
  dsimp only
  by_cases hhigh : (s.dsv.limits.packAbsMax : Int) ≤ s.ena.maxTemp
  · rw [if_pos hhigh, if_pos hhigh, hactive]
    by_cases ha : (s.faults.record .packOvertemp).state = .active
    · rw [if_pos (decide_eq_true ha), if_pos ha]
    · rw [if_neg (by simpa using ha), if_neg ha, raiseFault_record_same]
  · rw [if_neg hhigh, if_neg hhigh]
    by_cases hlow : s.ena.maxTemp < (s.dsv.limits.packAbsMax : Int) - 5
    · rw [if_pos hlow, clearFault_record_same, hactive]
      by_cases ha : (s.faults.record .packOvertemp).state = .active
      · rw [if_pos (decide_eq_true ha), if_pos ⟨hlow, ha⟩]
      · rw [if_neg (by simpa using ha), if_neg fun h => ha h.2]
    · rw [if_neg hlow, if_neg fun h => hlow h.1]

theorem overtempTest_record_other {k : FaultKind} (h : k ≠ .packOvertemp) :
    (overtempTest s).faults.record k = s.faults.record k := by
  unfold overtempTest
  dsimp only
  split_ifs
  · rfl
  · exact raiseFault_record_other s h
  · exact clearFault_record_other s h
  · rfl

theorem overtempTest_counter_other {c : Counter} (h : c ≠ w7) : (overtempTest s).counter c = s.counter c := by
  unfold overtempTest
  dsimp only
  split_ifs
  · rfl
  · exact raiseFault_counter_other _ s h
  · exact clearFault_counter _ s c
  · rfl

end

/-- Below the absolute maximum the comparison is at most a clearing report (R53). -/
theorem overtempTest_below {s : State} (h : s.ena.maxTemp < (s.dsv.limits.packAbsMax : Int)) :
    overtempTest s = s ∨ overtempTest s = clearFault .packOvertemp s := by
  unfold overtempTest
  dsimp only
  rw [if_neg (by omega)]
  split
  · exact .inr rfl
  · exact .inl rfl

/-- Below the absolute maximum, in a state that no test leaves, the comparison leaves all but the fault table and the port. -/
theorem overtempTest_waiting {s : State} (h : s.ena.maxTemp < (s.dsv.limits.packAbsMax : Int))
    (hs : s.dsv.state = .precharge ∨ s.dsv.state = .powerDown ∨ s.dsv.state = .faulted) :
    (overtempTest s).dsv = s.dsv ∧ (overtempTest s).log = s.log ∧ (∀ c : Counter, (overtempTest s).counter c = s.counter c) ∧
      (overtempTest s).faults.highest.rank ≤ s.faults.highest.rank := by
  rcases overtempTest_below h with ht | ht
  · rw [ht]
    exact ⟨rfl, rfl, fun _ => rfl, le_rfl⟩
  · rw [ht]
    exact ⟨clearFault_waiting_dsv _ hs, clearFault_log _ s, clearFault_counter _ s, clearFault_highest_le _ s⟩

end Sys2Proof.Machine
end

section
/-! PROOF. PACK_SAMPLE: the three kinds of arrival, the limits that follow, and the tests of R5 and R11 after them (R5, R11, R29,
R39 to R56). -/

namespace Sys2Proof.Machine

open Sys2Proof

/-! ## ENA's records after an arrival -/

/-- ENA's records after an integrating arrival (R40 to R42, R46, R55, R56). -/
theorem integratedEna_eq (n brake : Nat) (e : Ena) :
    integratedEna n brake e =
      { e with
        charge := (clamp ((e.charge : Int) - e.current * n) 0 e.qCap).toNat,
        dischargeRemainder := (throughputEna n e).dischargeRemainder, chargeRemainder := (throughputEna n e).chargeRemainder,
        spentRemainder := (addSession e n brake).spentRemainder, spentEnergy := (addSession e n brake).spentEnergy,
        recoveredRemainder := (addSession e n brake).recoveredRemainder,
        recoveredEnergy := (addSession e n brake).recoveredEnergy, restTimer := (restTest e).restTimer } := by
  unfold integratedEna
  rw [restTest_eq, restTest_eq, addSession_eq, addSession_eq]
  rfl

theorem accountedEna_integrating (n : Nat) (s : State) :
    accountedEna (.integrating n) s = integratedEna n s.spl.demand.brake (takeSample s).ena := rfl

theorem accountedEna_resynchronising (outage : Nat) (s : State) :
    accountedEna (.resynchronising outage) s =
      { (takeSample s).ena with
        unaccounted := min (s.ena.unaccounted + outage) 65535, restTimer := (restTest (takeSample s).ena).restTimer } := by
  rw [restTest_eq]
  exact restTest_eq _

/-- What every arrival leaves: the settings of the account. -/
theorem accountedEna_settings (k : SampleKind) (s : State) :
    (accountedEna k s).table = s.ena.table ∧ (accountedEna k s).socValid = s.ena.socValid ∧
      (accountedEna k s).capacity = s.ena.capacity := by
  cases k with
  | resynchronising outage => rw [accountedEna_resynchronising]; exact ⟨rfl, rfl, rfl⟩
  | duplicate => unfold accountedEna; rw [restTest_eq]; exact ⟨rfl, rfl, rfl⟩
  | integrating n => rw [accountedEna_integrating, integratedEna_eq]; exact ⟨rfl, rfl, rfl⟩

/-- The voltage, the temperatures and the compensated current of an arrival (R39, R40). -/
theorem accountedEna_sample (k : SampleKind) (s : State) :
    (accountedEna k s).voltage = s.sns.packVoltage ∧ (accountedEna k s).minTemp = s.sns.packMinTemp ∧
      (accountedEna k s).maxTemp = s.sns.packMaxTemp ∧
      (accountedEna k s).current = compensate s.sns.packCurrent s.ena.offset s.ena.gain := by
  cases k with
  | resynchronising outage => rw [accountedEna_resynchronising]; exact ⟨rfl, rfl, rfl, rfl⟩
  | duplicate => unfold accountedEna; rw [restTest_eq]; exact ⟨rfl, rfl, rfl, rfl⟩
  | integrating n => rw [accountedEna_integrating, integratedEna_eq]; exact ⟨rfl, rfl, rfl, rfl⟩

/-! ## The limits -/

/-- The records with the limits of an arrival and its count (R51, R39). -/
def withLimits (e : Ena) (l : Limits) (count : Byte) : Ena :=
  { e with
    iDis := dischargeLimit e l.sMin, iChg := chargeLimit e l.sMax, pDis := dischargeLimit e l.sMin * e.voltage / 1000,
    pChg := chargeLimit e l.sMax * e.voltage / 1000, lastCount := some count }

theorem AcceptanceTable.entry_eq (t : AcceptanceTable) (a : Fin 5) (b : Fin 4) :
    t.entry a b = t.entries.toList.getD (4 * a.val + b.val) { discharge := 0, charge := 0 } := by
  unfold AcceptanceTable.entry
  have h : 4 * a.val + b.val < t.entries.toList.length := by
    rw [Vector.length_toList]
    omega
  rw [List.getD_eq_getElem _ _ h, Vector.getElem_toList]
  rfl

theorem AcceptanceTable.tempBand_val (t : AcceptanceTable) (x : Int) :
    (t.tempBand x).val =
      if x < t.tempEdges.get 0 then 0 else if x < t.tempEdges.get 1 then 1
      else if x < t.tempEdges.get 2 then 2 else if x < t.tempEdges.get 3 then 3 else 4 := by
  unfold AcceptanceTable.tempBand
  split_ifs <;> rfl

theorem AcceptanceTable.socBand_val (t : AcceptanceTable) (x : Nat) :
    (t.socBand x).val =
      if x < t.socEdges.get 0 then 0 else if x < t.socEdges.get 1 then 1 else if x < t.socEdges.get 2 then 2 else 3 := by
  unfold AcceptanceTable.socBand
  split_ifs <;> rfl

/-- The limits of an arrival follow its records (R49, R51). -/
theorem limitsFollow_of {s t : State} {e : Ena} {count : Byte} (htable : e.table = s.ena.table)
    (hvalid : e.socValid = s.ena.socValid) (hcapacity : e.capacity = s.ena.capacity)
    (ht : t.ena = withLimits e s.dsv.limits count) : LimitsFollow s t := by
  have hsoc : e.soc = e.charge * 10000 / (s.ena.capacity * 3600000) := by
    unfold Ena.soc Ena.qCap qCapOf
    rw [hcapacity]
  unfold LimitsFollow
  rw [ht, ← htable, ← hvalid]
  unfold withLimits
  dsimp only
  rw [← hsoc]
  simp only [dischargeLimit, chargeLimit, taper, derate, AcceptanceTable.entry_eq, AcceptanceTable.tempBand_val,
    AcceptanceTable.socBand_val, and_self]

/-! ## ENA's seven steps -/

section
variable (k : SampleKind) (count : Byte) (s : State)

/-- The comparison's state has the limits in force. -/
theorem overtempTest_limits (hlog : LogInv s) :
    (overtempTest (sampleAccounted k s)).dsv.limits = s.dsv.limits := by
  obtain ⟨-, -, -, hlimits, -⟩ := ((sampleAccounted_kept k s).trans (overtempTest_kept _)).frame hlog
  exact hlimits

theorem enaSample_ena_of :
    (enaSample k count s).ena =
      withLimits (accountedEna k s) (overtempTest (sampleAccounted k s)).dsv.limits count := by
  have hena : (overtempTest (sampleAccounted k s)).ena = accountedEna k s :=
    (congrArg Rest.ena (overtempTest_rest _)).trans (sampleAccounted_ena k s)
  rw [enaSample_eq]
  generalize overtempTest (sampleAccounted k s) = x at *
  unfold recomputeLimits
  rw [withEna_ena, withEna_ena, hena]
  rfl

theorem enaSample_ena (hlog : LogInv s) :
    (enaSample k count s).ena = withLimits (accountedEna k s) s.dsv.limits count := by
  rw [enaSample_ena_of, overtempTest_limits k s hlog]

theorem enaSample_dsv : (enaSample k count s).dsv = (overtempTest (sampleAccounted k s)).dsv := rfl

theorem enaSample_faults : (enaSample k count s).faults = (overtempTest (sampleAccounted k s)).faults := rfl

theorem enaSample_log : (enaSample k count s).log = (overtempTest (sampleAccounted k s)).log := rfl

theorem enaSample_counter (c : Counter) :
    (enaSample k count s).counter c = (overtempTest (sampleAccounted k s)).counter c := rfl

theorem enaSample_rest : (enaSample k count s).rest = { s.rest with ena := (enaSample k count s).ena } := by
  have h : (overtempTest (sampleAccounted k s)).rest = { s.rest with ena := accountedEna k s } :=
    (overtempTest_rest _).trans (sampleAccounted_rest k s)
  rw [enaSample_eq]
  generalize overtempTest (sampleAccounted k s) = x at *
  unfold recomputeLimits
  rw [withEna_rest, withEna_rest, h]
  rfl

theorem enaSample_sns : (enaSample k count s).sns = s.sns := congrArg Rest.sns (enaSample_rest k count s)

/-- PACK_OVERTEMP after an arrival (R53). -/
theorem enaSample_overtemp :
    (enaSample k count s).faults.record .packOvertemp =
      if (s.dsv.limits.packAbsMax : Int) ≤ s.sns.packMaxTemp then
        (if (s.faults.record .packOvertemp).state = .active then s.faults.record .packOvertemp
        else (s.faults.record .packOvertemp).raise s.dsv.operatingSeconds)
      else if s.sns.packMaxTemp < (s.dsv.limits.packAbsMax : Int) - 5 ∧
          (s.faults.record .packOvertemp).state = .active then
        { s.faults.record .packOvertemp with state := .latched }
      else s.faults.record .packOvertemp := by
  obtain ⟨-, -, hmax, -⟩ := accountedEna_sample k s
  rw [enaSample_faults, overtempTest_record, sampleAccounted_ena, hmax, sampleAccounted_dsv, sampleAccounted_faults]

theorem enaSample_record_other {j : FaultKind} (h : j ≠ .packOvertemp) :
    (enaSample k count s).faults.record j = s.faults.record j := by
  rw [enaSample_faults, overtempTest_record_other _ h, sampleAccounted_faults]

theorem enaSample_counter_other {c : Counter} (h5 : c ≠ w5) (h6 : c ≠ w6) (h7 : c ≠ w7) :
    (enaSample k count s).counter c = s.counter c := by
  rw [enaSample_counter, overtempTest_counter_other _ h7, sampleAccounted_counter_other k s h5 h6]

/-- Below the absolute maximum, in a state that no test leaves, an arrival leaves DSV as it was (R53). -/
theorem enaSample_waiting (hmax : s.sns.packMaxTemp < (s.dsv.limits.packAbsMax : Int))
    (hs : s.dsv.state = .precharge ∨ s.dsv.state = .powerDown ∨ s.dsv.state = .faulted) :
    (enaSample k count s).dsv = s.dsv ∧ (enaSample k count s).log = (sampleAccounted k s).log ∧
      (enaSample k count s).counter w7 = s.counter w7 ∧
      (enaSample k count s).faults.highest.rank ≤ s.faults.highest.rank := by
  obtain ⟨-, -, htemp, -⟩ := accountedEna_sample k s
  have hdsv := sampleAccounted_dsv k s
  have hbelow : (sampleAccounted k s).ena.maxTemp < ((sampleAccounted k s).dsv.limits.packAbsMax : Int) := by
    rw [sampleAccounted_ena, htemp, hdsv]
    exact hmax
  obtain ⟨hd, hl, hc, hr⟩ := overtempTest_waiting hbelow (by rw [hdsv]; exact hs)
  refine ⟨by rw [enaSample_dsv, hd, hdsv], by rw [enaSample_log, hl], ?_, ?_⟩
  · rw [enaSample_counter, hc, sampleAccounted_counter_other k s (by decide) (by decide)]
  · rw [enaSample_faults]
    rwa [sampleAccounted_faults] at hr

end

/-! ## The tests after the account -/

/-- DSV's tests at an arrival for which ENA formed a new compensated current (R5, R11). -/
def packTests (wasPowerDown : Bool) (s : State) : State := dsvSettle (powerDownTest wasPowerDown (voltageTest s))

section
variable (b : Bool) (s : State)

theorem powerDownTest_rest : (powerDownTest b s).rest = s.rest := by
  unfold powerDownTest
  split
  · exact completePowerDown_rest s
  · rfl

theorem powerDownTest_faults : (powerDownTest b s).faults = s.faults := by
  unfold powerDownTest
  split
  · exact completePowerDown_faults s
  · rfl

theorem powerDownTest_counter_other {c : Counter} (h : c ≠ w7) : (powerDownTest b s).counter c = s.counter c := by
  unfold powerDownTest
  split
  · exact completePowerDown_counter_other s h
  · rfl

theorem packTests_rest : (packTests b s).rest = s.rest := by
  unfold packTests
  rw [dsvSettle_rest, powerDownTest_rest, voltageTest_rest]

theorem packTests_faults : (packTests b s).faults = s.faults := by
  unfold packTests
  rw [dsvSettle_faults, powerDownTest_faults, voltageTest_faults]

theorem packTests_counter_other {c : Counter} (h : c ≠ w7) : (packTests b s).counter c = s.counter c := by
  have hv : (voltageTest s).counter c = s.counter c := by
    unfold State.counter
    rw [voltageTest_wear]
  unfold packTests
  rw [dsvSettle_counter, powerDownTest_counter_other b _ h, hv]

end

/-- In POWER_DOWN the tests end the wait at a current below 20.0 A, and nothing else (R11). -/
theorem packTests_powerDown {s : State} (hstate : s.dsv.state = .powerDown) (htimer : s.dsv.prechargeTimer = none) :
    packTests true s = if s.ena.current.natAbs < 200 then completePowerDown s else s := by
  unfold packTests powerDownTest State.packCurrentMagnitude
  rw [voltageTest_idle (.inl htimer), hstate]
  by_cases h : s.ena.current.natAbs < 200
  · rw [if_pos ⟨rfl, rfl, h⟩, if_pos h, completePowerDown_eq, dsvSettle_dsvSettle]
  · rw [if_neg fun hc => h hc.2.2, if_neg h, dsvSettle_waiting (.inr (.inl hstate))]

/-- In PRECHARGE they are the voltage condition alone (R5). -/
theorem packTests_precharge {s : State} (hstate : s.dsv.state = .precharge) :
    (packTests false s).dsv = (voltageTest s).dsv := by
  have hv : (voltageTest s).dsv.state = .precharge := by
    unfold voltageTest
    split
    · exact hstate
    · exact hstate
  unfold packTests powerDownTest
  rw [if_neg fun hc => Bool.false_ne_true hc.1, dsvSettle_waiting (.inl hv)]

/-! ## The arrival -/

/-- The arrival of a sample that ENA takes in, of kind k (R39). -/
def packSampled (k : SampleKind) (count : Byte) (current voltage lo hi : Int) (s : State) : State :=
  enaSample k count (packTaken count current voltage lo hi s)

section
variable {count : Byte} {current voltage lo hi : Int} {elapsed : Nat} {s : State}

theorem packArrival_resynchronising (hup : s.sns.packLink.up = false) :
    packArrival count current voltage lo hi elapsed s =
      packTests (decide (s.dsv.state = .powerDown))
        (packSampled (.resynchronising (outageOf s.sns.packLink elapsed)) count current voltage lo hi s) := by
  have hkind : sampleKind s.sns.packLink s.ena.lastCount count elapsed =
      .resynchronising (outageOf s.sns.packLink elapsed) := by
    unfold sampleKind
    rw [hup]
    rfl
  unfold packArrival
  rw [hkind]
  rfl

theorem packArrival_integrating {last : Byte} (hup : s.sns.packLink.up = true) (hlast : s.ena.lastCount = some last)
    (hne : count ≠ last) :
    packArrival count current voltage lo hi elapsed s =
      packTests (decide (s.dsv.state = .powerDown))
        (packSampled (.integrating (count - last).toNat) count current voltage lo hi s) := by
  have hkind : sampleKind s.sns.packLink s.ena.lastCount count elapsed = .integrating (count - last).toNat := by
    unfold sampleKind
    rw [hup, hlast]
    exact if_neg hne
  unfold packArrival
  rw [hkind]
  rfl

theorem packArrival_duplicate (hup : s.sns.packLink.up = true) (hlast : s.ena.lastCount = some count) :
    packArrival count current voltage lo hi elapsed s =
      dsvSettle (voltageTest (packTaken count current voltage lo hi s)) := by
  have hkind : sampleKind s.sns.packLink s.ena.lastCount count elapsed = .duplicate := by
    unfold sampleKind
    rw [hup, hlast]
    exact if_pos rfl
  unfold packArrival
  rw [hkind]
  rfl

theorem exec_packSample (hrun : s.running = true) :
    exec (.packSample true count current voltage lo hi elapsed) s =
      .next (packArrival count current voltage lo hi elapsed s) :=
  congrArg Host.Outcome.next (whileRunning_runs _ hrun)

end

end Sys2Proof.Machine
end

section
/-! PROOF. What a pack sample leaves, in the words of the statements: the limits, PACK_OVERTEMP, the end of POWER_DOWN and the
counts (R5, R11, R21, R29, R39 to R56). -/

namespace Sys2Proof.Machine

open Sys2Proof

/-! ## The state that ENA finds -/

section
variable (count : Byte) (current voltage lo hi : Int) (s : State)

/-- ENA's records after steps 1 and 2 of an arrival (R39, R40). -/
def sampledEna (e : Ena) : Ena :=
  { e with
    voltage := satField voltage 10000, minTemp := min (clamp lo (-40) 125) (clamp hi (-40) 125),
    maxTemp := max (clamp lo (-40) 125) (clamp hi (-40) 125),
    current := compensate (clamp current (-10000) 10000) e.offset e.gain }

theorem packTaken_takeSample :
    (takeSample (packTaken count current voltage lo hi s)).ena = sampledEna current voltage lo hi s.ena := by
  rw [takeSample_ena, packTaken_sns, packTaken_ena]
  rfl

theorem packTaken_limits (hlog : LogInv s) : (packTaken count current voltage lo hi s).dsv.limits = s.dsv.limits := by
  obtain ⟨-, -, -, hlimits, -⟩ := (packTaken_kept count current voltage lo hi s).frame hlog
  exact hlimits

theorem packTaken_seconds :
    (packTaken count current voltage lo hi s).dsv.operatingSeconds = s.dsv.operatingSeconds :=
  (linkArrival_dsvKept .pack s).seconds

theorem packTaken_record_other {k : FaultKind} (h : k ≠ .packLinkLost) :
    (packTaken count current voltage lo hi s).faults.record k = s.faults.record k :=
  linkArrival_record_other .pack s h

theorem packTaken_spl : (packTaken count current voltage lo hi s).spl = s.spl :=
  congrArg Rest.spl (packTaken_rest count current voltage lo hi s)

theorem packTaken_highest_le :
    (packTaken count current voltage lo hi s).faults.highest.rank ≤ s.faults.highest.rank := by
  rw [packTaken_faults, linkArrival_eq]
  split
  · exact clearFault_highest_le _ (linkUp .pack s)
  · exact le_rfl

/-- In a state that no test leaves, the arrival of a sample leaves DSV as it was. -/
theorem packTaken_waiting (h : s.dsv.state = .precharge ∨ s.dsv.state = .powerDown ∨ s.dsv.state = .faulted) :
    (packTaken count current voltage lo hi s).dsv = s.dsv := by
  rw [packTaken_dsv, linkArrival_eq]
  split
  · exact clearFault_waiting_dsv _ (s := linkUp .pack s) h
  · rfl

end

/-! ## What every sample that ENA takes in leaves -/

section
variable (b : Bool) (k : SampleKind) (count : Byte) (current voltage lo hi : Int) (s : State)

/-- The state at the end of such an arrival. -/
def sampleEnd : State := packTests b (packSampled k count current voltage lo hi s)

theorem sampleEnd_ena (hlog : LogInv s) :
    (sampleEnd b k count current voltage lo hi s).ena =
      withLimits (accountedEna k (packTaken count current voltage lo hi s)) s.dsv.limits count := by
  have htests : (sampleEnd b k count current voltage lo hi s).ena = (packSampled k count current voltage lo hi s).ena :=
    congrArg Rest.ena (packTests_rest b _)
  rw [htests, ← packTaken_limits count current voltage lo hi s hlog]
  exact enaSample_ena k count _ ((packTaken_kept count current voltage lo hi s).log hlog)

theorem sampleEnd_sns :
    (sampleEnd b k count current voltage lo hi s).sns =
      { s.sns with
        packLink := { up := true, seen := true, monitor := some 20 }, packCount := count,
        packCurrent := clamp current (-10000) 10000, packVoltage := satField voltage 10000,
        packMinTemp := min (clamp lo (-40) 125) (clamp hi (-40) 125),
        packMaxTemp := max (clamp lo (-40) 125) (clamp hi (-40) 125) } := by
  rw [← packTaken_sns]
  exact (congrArg Rest.sns (packTests_rest b _)).trans (enaSample_sns k count _)

theorem sampleEnd_rest :
    (sampleEnd b k count current voltage lo hi s).rest =
      { s.rest with
        sns := (sampleEnd b k count current voltage lo hi s).sns,
        ena := (sampleEnd b k count current voltage lo hi s).ena } := by
  have hrest : (sampleEnd b k count current voltage lo hi s).rest = (packSampled k count current voltage lo hi s).rest :=
    packTests_rest b _
  have hsample := enaSample_rest k count (packTaken count current voltage lo hi s)
  rw [packTaken_rest] at hsample
  have hsns : (sampleEnd b k count current voltage lo hi s).sns = (packTaken count current voltage lo hi s).sns :=
    (sampleEnd_sns b k count current voltage lo hi s).trans (packTaken_sns count current voltage lo hi s).symm
  have hena : (sampleEnd b k count current voltage lo hi s).ena =
      (enaSample k count (packTaken count current voltage lo hi s)).ena := congrArg Rest.ena hrest
  rw [hsns, hena, hrest]
  exact hsample

theorem sampleEnd_eq :
    let t := sampleEnd b k count current voltage lo hi s
    t = { s with
      sns := t.sns, ena := t.ena, dsv := t.dsv, faults := t.faults, wear := t.wear, log := t.log, exc := t.exc,
      port := t.port } :=
  State.eq_of_fields (sampleEnd_rest b k count current voltage lo hi s) rfl rfl rfl rfl rfl rfl

theorem sampleEnd_limits (hlog : LogInv s) : LimitsFollow s (sampleEnd b k count current voltage lo hi s) := by
  obtain ⟨htable, hvalid, hcapacity⟩ := accountedEna_settings k (packTaken count current voltage lo hi s)
  rw [packTaken_ena] at htable hvalid hcapacity
  exact limitsFollow_of htable hvalid hcapacity (sampleEnd_ena b k count current voltage lo hi s hlog)

theorem sampleEnd_faults :
    (sampleEnd b k count current voltage lo hi s).faults =
      (enaSample k count (packTaken count current voltage lo hi s)).faults := packTests_faults b _

theorem sampleEnd_record_other {j : FaultKind} (h : j ≠ .packOvertemp) :
    (sampleEnd b k count current voltage lo hi s).faults.record j =
      (packTaken count current voltage lo hi s).faults.record j := by
  rw [sampleEnd_faults, enaSample_record_other k count _ h]

theorem sampleEnd_overtemp (hlog : LogInv s) :
    OvertempFollows s (sampleEnd b k count current voltage lo hi s) s.dsv.limits.packAbsMax
      (sampleEnd b k count current voltage lo hi s).ena.maxTemp := by
  obtain ⟨-, -, hmax, -⟩ := accountedEna_sample k (packTaken count current voltage lo hi s)
  have htemp : (sampleEnd b k count current voltage lo hi s).ena.maxTemp =
      (packTaken count current voltage lo hi s).sns.packMaxTemp := by
    rw [sampleEnd_ena b k count current voltage lo hi s hlog]
    exact hmax
  unfold OvertempFollows
  rw [htemp, sampleEnd_faults, enaSample_overtemp, packTaken_limits count current voltage lo hi s hlog, packTaken_seconds,
    packTaken_record_other count current voltage lo hi s (by decide)]

theorem sampleEnd_counter_other {c : Counter} (h5 : c ≠ w5) (h6 : c ≠ w6) (h7 : c ≠ w7) :
    (sampleEnd b k count current voltage lo hi s).counter c = s.counter c := by
  unfold sampleEnd packSampled
  rw [packTests_counter_other b _ h7, enaSample_counter_other k count _ h5 h6 h7, packTaken_counter]

end

/-! ## The end of POWER_DOWN at a sample -/

/-- A sample in POWER_DOWN ends the wait, or leaves DSV as it was (R3, R11). -/
theorem sampleEnd_powerDown (k : SampleKind) (count : Byte) (current voltage lo hi : Int) (s : State) (hlog : LogInv s) :
    PowerDownEnds s (sampleEnd (decide (s.dsv.state = .powerDown)) k count current voltage lo hi s)
      (compensate (clamp current (-10000) 10000) s.ena.offset s.ena.gain)
      (max (clamp lo (-40) 125) (clamp hi (-40) 125)) := by
  intro hstate htimer hmax
  have hdsvTaken := packTaken_waiting count current voltage lo hi s (.inr (.inl hstate))
  obtain ⟨hdsv, hlogged, hw7, hrank⟩ := enaSample_waiting k count (packTaken count current voltage lo hi s)
    (by rw [packTaken_sns, hdsvTaken]; exact hmax) (by rw [hdsvTaken]; exact .inr (.inl hstate))
  rw [hdsvTaken] at hdsv
  rw [packTaken_counter] at hw7
  have hquiet (h : ∀ c : Counter, c = w5 ∨ c = w6 → (s.counter c).advise = 0 ∧ (s.counter c).urgent = 0) :
      (enaSample k count (packTaken count current voltage lo hi s)).log = s.log := by
    rw [hlogged, sampleAccounted_log_unwarned k fun c hc => ?_, packTaken_log]
    rw [packTaken_counter]
    exact h c hc
  have hcurrent : (enaSample k count (packTaken count current voltage lo hi s)).ena.current =
      compensate (clamp current (-10000) 10000) s.ena.offset s.ena.gain := by
    obtain ⟨-, -, -, hformed⟩ := accountedEna_sample k (packTaken count current voltage lo hi s)
    rw [enaSample_ena k count _ ((packTaken_kept count current voltage lo hi s).log hlog)]
    refine hformed.trans ?_
    rw [packTaken_sns, packTaken_ena]
  have hup : (enaSample k count (packTaken count current voltage lo hi s)).sns.packLink.up = true := by
    rw [enaSample_sns, packTaken_sns]
  have hodometer : (enaSample k count (packTaken count current voltage lo hi s)).sns.odometer = s.sns.odometer := by
    rw [enaSample_sns, packTaken_sns]
  have hframe : (enaSample k count (packTaken count current voltage lo hi s)).exc.frameNumber = s.exc.frameNumber := by
    obtain ⟨-, -, -, -, -, -, -, hf, -⟩ :=
      ((packTaken_kept count current voltage lo hi s).trans (enaSample_kept k count _)).frame hlog
    exact hf
  have hrank' := hrank.trans (packTaken_highest_le count current voltage lo hi s)
  unfold sampleEnd packSampled
  rw [decide_eq_true hstate]
  generalize enaSample k count (packTaken count current voltage lo hi s) = u at *
  rw [packTests_powerDown (by rw [hdsv]; exact hstate) (by rw [hdsv]; exact htimer), ← hcurrent]
  have hcause : u.dsv.stopCause = s.dsv.stopCause := by rw [hdsv]
  have hkey : u.dsv.mode.keyOn = s.dsv.mode.keyOn := by rw [hdsv]
  refine ⟨fun hsmall => ?_, fun hlarge => ?_⟩
  · rw [if_pos hsmall]
    have hcool : u.sns.packLink.up = true ∧ u.ena.current.natAbs ≤ 500 := ⟨hup, by omega⟩
    obtain ⟨hopen, -, hstopped⟩ := completePowerDown_opens u
    refine ⟨fun hw => ?_, hopen, hstopped, ?_, fun j hj => completePowerDown_fault (hcause.trans hj),
      fun hoff hk => completePowerDown_keyOff (hcause.trans hoff) (hkey.trans hk),
      fun hoff hk hcd hr => completePowerDown_keyOn (hcause.trans hoff) (hkey.trans hk) (by rw [hdsv]; exact hcd)
        (hrank'.trans_lt hr)⟩
    · have hopening : (if u.dsv.posClosed then openingLog u else u.log) = u.log := by
        unfold openingLog
        rw [if_pos hcool, ite_self]
      rw [completePowerDown_log, hopening, hquiet hw, hcause]
      exact shutdownLog_congr hodometer (by rw [hdsv]) hframe _ _
    · unfold State.counter at hw7 ⊢
      rw [completePowerDown_wear, openPos_wear_cool (.inr hcool)]
      exact hw7
  · rw [if_neg (by omega)]
    exact ⟨hdsv, hquiet⟩

/-! ## The statements -/

/-- ENA's records after a sample that integrates n units of time (R39 to R42, R46, R55, R56). -/
theorem sampleEnd_integrating_ena (b : Bool) (n : Nat) (count : Byte) (current voltage lo hi : Int) {s : State}
    (hlog : LogInv s) :
    (sampleEnd b (.integrating n) count current voltage lo hi s).ena =
      withLimits (integratedEna n s.spl.demand.brake (sampledEna current voltage lo hi s.ena)) s.dsv.limits count := by
  rw [sampleEnd_ena b _ count current voltage lo hi s hlog, accountedEna_integrating, packTaken_spl, packTaken_takeSample]

theorem sampleEnd_resynchronising_ena (b : Bool) (outage : Nat) (count : Byte) (current voltage lo hi : Int) {s : State}
    (hlog : LogInv s) :
    (sampleEnd b (.resynchronising outage) count current voltage lo hi s).ena =
      withLimits
        { sampledEna current voltage lo hi s.ena with
          unaccounted := min (s.ena.unaccounted + outage) 65535,
          restTimer := (restTest (sampledEna current voltage lo hi s.ena)).restTimer } s.dsv.limits count := by
  rw [sampleEnd_ena b _ count current voltage lo hi s hlog, accountedEna_resynchronising, packTaken_ena,
    packTaken_takeSample]

/-- The counts of an integrating sample (R55). -/
theorem sampleEnd_integrating_counts (b : Bool) (n : Nat) (count : Byte) (current voltage lo hi : Int) (s : State) :
    ((sampleEnd b (.integrating n) count current voltage lo hi s).counter w5).value =
      ((addThroughput n (s.withEna (sampledEna current voltage lo hi s.ena))).counter w5).value ∧
    ((sampleEnd b (.integrating n) count current voltage lo hi s).counter w6).value =
      ((addThroughput n (s.withEna (sampledEna current voltage lo hi s.ena))).counter w6).value := by
  have hcounter (c : Counter) (h : c ≠ w7) :
      (sampleEnd b (.integrating n) count current voltage lo hi s).counter c =
        (addThroughput n ((takeSample (packTaken count current voltage lo hi s)).withEna
          (integrateCharge (sampledEna current voltage lo hi s.ena) n))).counter c := by
    unfold sampleEnd packSampled
    rw [packTests_counter_other b _ h, enaSample_counter, overtempTest_counter_other _ h, sampleAccounted_integrating,
      withEna_counter, packTaken_takeSample]
  have htaken (c : Counter) (e : Ena) : ((takeSample (packTaken count current voltage lo hi s)).withEna e).counter c =
      s.counter c := packTaken_counter count current voltage lo hi s c
  rw [hcounter w5 (by decide), hcounter w6 (by decide), addThroughput_w5, addThroughput_w5, addThroughput_w6,
    addThroughput_w6, htaken, htaken]
  exact ⟨rfl, rfl⟩

/-- A sample that resynchronises counts nothing of its own (R39). -/
theorem sampleEnd_resynchronising_counter (b : Bool) (outage : Nat) (count : Byte) (current voltage lo hi : Int) (s : State)
    {c : Counter} (h : c ≠ w7) :
    (sampleEnd b (.resynchronising outage) count current voltage lo hi s).counter c = s.counter c := by
  unfold sampleEnd packSampled
  rw [packTests_counter_other b _ h, enaSample_counter, overtempTest_counter_other _ h, sampleAccounted_resynchronising,
    withEna_counter, packTaken_counter]

/-- The arrival that ends a loss turns an ACTIVE PACK_LINK_LOST LATCHED (R21). -/
theorem packTaken_packLinkLost (count : Byte) (current voltage lo hi : Int) {s : State} (hup : s.sns.packLink.up = false) :
    (packTaken count current voltage lo hi s).faults.record .packLinkLost =
      if s.sns.packLink.seen = true ∧ s.faults.isActive .packLinkLost = true then
        { s.faults.record .packLinkLost with state := .latched }
      else s.faults.record .packLinkLost := by
  have hends : endsLoss .pack s = s.sns.packLink.seen := by
    show (!s.sns.packLink.up && s.sns.packLink.seen) = _
    rw [hup]
    rfl
  refine (linkArrival_record_same .pack s).trans ?_
  rw [hends]
  simp only [Bool.and_eq_true]
  rfl

/-- On a link that is UP the arrival of a sample clears nothing (R21). -/
theorem packTaken_quiet {count : Byte} {current voltage lo hi : Int} {s : State} (hup : s.sns.packLink.up = true) :
    packTaken count current voltage lo hi s = takePackFields count current voltage lo hi (linkUp .pack s) := by
  have hquiet : (endsLoss .pack s && s.faults.isActive (linkFault .pack)) = false := by
    have h : (s.sns.link .pack).up = true := hup
    simp [endsLoss, h]
  unfold packTaken
  rw [linkArrival_quiet hquiet]

/-- A repeated sample is SNS's alone: nothing is cleared, nothing accounted (R29, R39). -/
theorem packArrival_duplicate_keeps {count : Byte} {current voltage lo hi : Int} {elapsed : Nat} {s : State}
    (hup : s.sns.packLink.up = true) (hlast : s.ena.lastCount = some count) :
    let t := packArrival count current voltage lo hi elapsed s
    t.sns = (packTaken count current voltage lo hi s).sns ∧ t.ena = s.ena ∧ t.faults = s.faults ∧ t.log = s.log ∧
      t.wear.counters = s.wear.counters ∧ t.exc = s.exc ∧ t.rest = { s.rest with sns := t.sns } := by
  have htaken := packTaken_quiet (count := count) (current := current) (voltage := voltage) (lo := lo) (hi := hi) hup
  intro t
  have ht : t = dsvSettle (voltageTest (packTaken count current voltage lo hi s)) := packArrival_duplicate hup hlast
  have hrest : t.rest = (packTaken count current voltage lo hi s).rest := by
    rw [ht, dsvSettle_rest, voltageTest_rest]
  have hsns : t.sns = (packTaken count current voltage lo hi s).sns := congrArg Rest.sns hrest
  refine ⟨hsns, (congrArg Rest.ena hrest).trans (packTaken_ena count current voltage lo hi s), ?_, ?_, ?_, ?_, ?_⟩
  · rw [ht, dsvSettle_faults, voltageTest_faults, htaken]; rfl
  · rw [ht, dsvSettle_log, voltageTest_log, packTaken_log]
  · rw [ht, dsvSettle_counters, voltageTest_wear, htaken]; rfl
  · rw [ht, dsvSettle_exc, voltageTest_exc, htaken]; rfl
  · rw [hrest, hsns, packTaken_rest]

/-- Settles O31, by the end of a sample that resynchronises. -/
theorem resynchronisingSampleIsUnaccounted : Obligations.ResynchronisingSampleIsUnaccounted := by
  intro s count current voltage lo hi elapsed hrun hlog hup i outage
  have hexec : exec (.packSample true count current voltage lo hi elapsed) s =
      .next (sampleEnd (decide (s.dsv.state = .powerDown)) (.resynchronising outage) count current voltage lo hi s) :=
    (exec_packSample hrun).trans (congrArg Host.Outcome.next (packArrival_resynchronising hup))
  have hframe := event_frame rfl (fun v => Instr.noConfusion) hlog hexec
  have hena := sampleEnd_resynchronising_ena (decide (s.dsv.state = .powerDown)) outage count current voltage lo hi hlog
  have hlost := packTaken_packLinkLost count current voltage lo hi hup
  refine ⟨_, hexec, ?_, ?_, ?_, ?_, ?_, ?_, ?_, ?rest, ?_, ?_, ?_, ?_, ?_, ?_,
    fun c hc => sampleEnd_resynchronising_counter _ _ _ _ _ _ _ _ hc, ?sns,
    (sampleEnd_record_other _ _ _ _ _ _ _ _ (by decide)).trans hlost, sampleEnd_limits _ _ _ _ _ _ _ _ hlog,
    sampleEnd_overtemp _ _ _ _ _ _ _ _ hlog,
    fun k hk hk' => (sampleEnd_record_other _ _ _ _ _ _ _ _ hk').trans (packTaken_record_other _ _ _ _ _ _ hk), ?ends,
    sampleEnd_eq _ _ _ _ _ _ _ _, hframe⟩
  case sns => rw [sampleEnd_sns, hena]; rfl
  case ends =>
    rw [hena]
    exact sampleEnd_powerDown _ _ _ _ _ _ _ hlog
  case rest => rw [hena, restTest_eq]; rfl
  all_goals rw [hena]; rfl

/-- Settles O30, by the end of a sample that integrates and the arrival of a repeated one. -/
theorem integratingSampleMovesCharge : Obligations.IntegratingSampleMovesCharge := by
  intro s count last current voltage lo hi elapsed hrun hlog hup hlast i e v moved units discharged charged braking
  have hexec := exec_packSample (count := count) (current := current) (voltage := voltage) (lo := lo) (hi := hi)
    (elapsed := elapsed) hrun
  have hframe := event_frame rfl (fun v => Instr.noConfusion) hlog hexec
  by_cases hcount : count = last
  case pos =>
    subst hcount
    obtain ⟨hsns, hena, hfaults, hlogged, hcounters, hexc, hrest⟩ := packArrival_duplicate_keeps (current := current)
      (voltage := voltage) (lo := lo) (hi := hi) (elapsed := elapsed) hup hlast
    refine ⟨_, hexec, hsns.trans (packTaken_sns count current voltage lo hi s),
      State.eq_of_fields ?_ rfl rfl rfl rfl rfl rfl, hframe, fun _ => ⟨hena, hfaults, hlogged, hcounters, hexc⟩,
      fun hne => absurd rfl hne⟩
    rw [hrest]
    exact congrArg (fun a => ({ s.rest with
      sns := (packArrival count current voltage lo hi elapsed s).sns, ena := a } : Rest)) hena.symm
  case neg =>
    have hend : packArrival count current voltage lo hi elapsed s =
        sampleEnd (decide (s.dsv.state = .powerDown)) (.integrating e) count current voltage lo hi s :=
      packArrival_integrating hup hlast hcount
    rw [hend] at hexec hframe
    have hena := sampleEnd_integrating_ena (decide (s.dsv.state = .powerDown)) e count current voltage lo hi hlog
    obtain ⟨hw5, hw6⟩ := sampleEnd_integrating_counts (decide (s.dsv.state = .powerDown)) e count current voltage lo hi s
    rw [integratedEna_eq] at hena
    refine ⟨_, hexec, sampleEnd_sns _ _ _ _ _ _ _ _, sampleEnd_eq _ _ _ _ _ _ _ _, hframe,
      fun h => absurd h hcount, fun _ => ⟨?_, ?_, ?soc, ?_, ?_, ?_, ?_, ?rest, sampleEnd_limits _ _ _ _ _ _ _ _ hlog,
        sampleEnd_overtemp _ _ _ _ _ _ _ _ hlog, ?records, ?ends, ?_, ?_, ?w5, ?w6,
        fun c h5 h6 h7 => sampleEnd_counter_other _ _ _ _ _ _ _ _ h5 h6 h7, fun hpos => ?spent, fun hpos => ?unspent,
        fun hneg => ?recovered, fun hneg => ?unrecovered, ?_, ?_, ?_, ?_, ?_, ?_⟩⟩
    case soc =>
      rw [hena]
      rfl
    case rest =>
      rw [hena, restTest_eq]
      rfl
    case records =>
      intro k hk
      rw [sampleEnd_record_other _ _ _ _ _ _ _ _ hk, packTaken_quiet hup]
      rfl
    case ends =>
      rw [hena]
      exact sampleEnd_powerDown _ _ _ _ _ _ _ hlog
    case w5 => exact hw5.trans (addThroughput_w5 _ _)
    case w6 => exact hw6.trans (addThroughput_w6 _ _)
    case spent =>
      rw [hena, addSession_eq]
      exact ⟨if_pos hpos, if_pos hpos⟩
    case unspent =>
      rw [hena, addSession_eq]
      exact ⟨if_neg hpos, if_neg hpos⟩
    case recovered =>
      rw [hena, addSession_eq]
      have hb : i < 0 ∧ 0 < s.spl.demand.brake := ⟨hneg.1, of_decide_eq_true hneg.2⟩
      exact ⟨if_pos hb, if_pos hb⟩
    case unrecovered =>
      rw [hena, addSession_eq]
      have hb : ¬(i < 0 ∧ 0 < s.spl.demand.brake) := fun h => hneg ⟨h.1, decide_eq_true h.2⟩
      exact ⟨if_neg hb, if_neg hb⟩
    all_goals
      rw [hena]
      rfl

end Sys2Proof.Machine
end

section
/-! PROOF. The voltage condition in PRECHARGE (R5). -/

namespace Sys2Proof.Machine

open Sys2Proof

/-! ## At an INVERTER_STATUS -/

section
variable (speed voltage motor generator : Int) {s : State}

/-- In PRECHARGE the arrival is noted, and a clearing report moves nothing (R5; log 16). -/
theorem inverterTaken_dsv_precharge (h : s.dsv.state = .precharge) :
    (inverterTaken speed voltage motor generator s).dsv = { s.dsv with inverterSincePrecharge := true } := by
  rw [inverterTaken_dsv, noteInverterArrival_precharge h, linkArrival_eq]
  split
  · exact clearFault_waiting_dsv _ (s := linkUp .drive (s.withDsv { s.dsv with inverterSincePrecharge := true })) (.inl h)
  · rfl

theorem inverterTaken_ena : (inverterTaken speed voltage motor generator s).ena = s.ena :=
  congrArg Rest.ena (inverterTaken_rest speed voltage motor generator s)

theorem voltageTest_precharge (h : s.dsv.state = .precharge) : (voltageTest s).dsv.state = .precharge := by
  unfold voltageTest
  split
  · exact h
  · exact h

/-- In PRECHARGE with the timer running and the pack link UP, the message closes POS where the condition holds (R5). -/
theorem inverterArrival_precharge (h : s.dsv.state = .precharge) (htimer : s.dsv.prechargeTimer.isSome = true)
    (hpack : s.sns.packLink.up = true) :
    (inverterArrival speed voltage motor generator s).dsv =
      if s.ena.voltage * 950 ≤ satField voltage 10000 * 1000 then
        posClosing { s.dsv with inverterSincePrecharge := true } s.ena.minTemp
      else { s.dsv with inverterSincePrecharge := true } := by
  have hdsv := inverterTaken_dsv_precharge speed voltage motor generator h
  have hlimits : (linkArrival .drive (noteInverterArrival s)).dsv.limits = s.dsv.limits := by
    rw [← inverterTaken_dsv speed voltage motor generator, hdsv]
  have hsns := inverterTaken_sns speed voltage motor generator s hlimits
  have hena : (inverterTaken speed voltage motor generator s).ena = s.ena := inverterTaken_ena _ _ _ _
  rw [inverterArrival_eq]
  generalize inverterTaken speed voltage motor generator s = x at hdsv hsns hena
  have hstate : x.dsv.state = .precharge := by rw [hdsv]; exact h
  rw [dsvSettle_waiting (.inl (voltageTest_precharge hstate)),
    voltageTest_dsv (by rw [hdsv]; exact htimer) (by rw [hsns]) (by rw [hsns]; exact hpack), hdsv, hsns, hena]
  simp only [true_and]

end

/-! ## At a PACK_SAMPLE -/

/-- In PRECHARGE a sample below the absolute maximum that integrates closes POS where the condition holds (R5; log 17). -/
theorem sampleEnd_precharge (k : SampleKind) (count : Byte) (current voltage lo hi : Int) {s : State}
    (h : s.dsv.state = .precharge) (htimer : s.dsv.prechargeTimer.isSome = true) (hdrive : s.sns.driveLink.up = true)
    (hmax : max (clamp lo (-40) 125) (clamp hi (-40) 125) < (s.dsv.limits.packAbsMax : Int)) :
    (sampleEnd false k count current voltage lo hi s).dsv =
      if s.dsv.inverterSincePrecharge = true ∧ satField voltage 10000 * 950 ≤ s.sns.linkVoltage * 1000 then
        posClosing s.dsv (min (clamp lo (-40) 125) (clamp hi (-40) 125))
      else s.dsv := by
  have hdsvTaken := packTaken_waiting count current voltage lo hi s (.inl h)
  obtain ⟨hdsv, -⟩ := enaSample_waiting k count (packTaken count current voltage lo hi s)
    (by rw [packTaken_sns, hdsvTaken]; exact hmax) (by rw [hdsvTaken]; exact .inl h)
  rw [hdsvTaken] at hdsv
  obtain ⟨hvoltage, hmin, -⟩ := accountedEna_sample k (packTaken count current voltage lo hi s)
  rw [packTaken_sns] at hvoltage hmin
  have hena := enaSample_ena_of k count (packTaken count current voltage lo hi s)
  have hv : (enaSample k count (packTaken count current voltage lo hi s)).ena.voltage = satField voltage 10000 := by
    rw [hena]
    exact hvoltage
  have ht : (enaSample k count (packTaken count current voltage lo hi s)).ena.minTemp =
      min (clamp lo (-40) 125) (clamp hi (-40) 125) := by
    rw [hena]
    exact hmin
  have hsns := (enaSample_sns k count (packTaken count current voltage lo hi s)).trans
    (packTaken_sns count current voltage lo hi s)
  unfold sampleEnd packSampled
  generalize enaSample k count (packTaken count current voltage lo hi s) = x at hdsv hv ht hsns
  rw [packTests_precharge (by rw [hdsv]; exact h),
    voltageTest_dsv (by rw [hdsv]; exact htimer) (by rw [hsns]; exact hdrive) (by rw [hsns]), hdsv, hv, ht, hsns]

/-- Settles O28, by the voltage test after each of the two messages. -/
theorem voltageConditionClosesPos : Obligations.VoltageConditionClosesPos := by
  intro s hrun hstate htimer hpack closed
  refine ⟨fun speed voltage motor generator => ?_, fun count last current voltage lo hi elapsed hdrive hlast hne hmax => ?_⟩
  · exact ⟨_, exec_inverterStatus speed voltage motor generator hrun,
      inverterArrival_precharge speed voltage motor generator hstate htimer hpack⟩
  · have hend : packArrival count current voltage lo hi elapsed s =
        sampleEnd false (.integrating (count - last).toNat) count current voltage lo hi s := by
      rw [packArrival_integrating hpack hlast hne, hstate]
      rfl
    exact ⟨_, (exec_packSample hrun).trans (congrArg Host.Outcome.next hend),
      sampleEnd_precharge _ count current voltage lo hi hstate htimer hdrive hmax⟩

end Sys2Proof.Machine
end

section
/-! PROOF. DSV's reactions to a raising, class by class, and the loss of a link (R3, R7 to R13, R21, R43, R159). -/

namespace Sys2Proof.Machine

open Sys2Proof

/-! ## A raising, class by class -/

/-- A record raised and notified, before DSV reacts (R154, R160). -/
def raisedFault (k : FaultKind) (s : State) : State :=
  notifyFaults (setRecord k ((s.faults.record k).raise s.dsv.operatingSeconds) s)

theorem raisedFault_highest (k : FaultKind) (s : State) :
    (raisedFault k s).faults.highest.rank = max s.faults.highest.rank k.reactionClass.rank := by
  rw [← raiseFault_highest]
  unfold raiseFault
  rw [dsvOnRaise_faults]
  rfl

/-- A raising changes the highest class just when the kind's class lies above it (R159). -/
theorem raisedFault_became (k : FaultKind) (s : State) :
    decide ((raisedFault k s).faults.highest ≠ s.faults.highest) =
      decide (s.faults.highest.rank < k.reactionClass.rank) := by
  have h := raisedFault_highest k s
  refine decide_eq_decide.2 ⟨fun hne => ?_, fun hlt heq => ?_⟩
  · by_contra hle
    exact hne (ReactionClass.rank_injective (by omega))
  · rw [heq] at h
    omega

section
variable {k : FaultKind} (s : State)

theorem raiseFault_shutdownClass (hk : k.reactionClass = .shutdown) :
    raiseFault k s = dsvSettle (shutdownReaction k (decide (s.faults.highest.rank < 4)) (raisedFault k s)) := by
  have hb := raisedFault_became k s
  rw [hk] at hb
  unfold raiseFault dsvOnRaise
  rw [hk]
  exact congrArg (fun b => dsvSettle (shutdownReaction k b (raisedFault k s))) hb

theorem raiseFault_safeStopClass (hk : k.reactionClass = .safeStop) :
    raiseFault k s = dsvSettle (safeStopReaction k (decide (s.faults.highest.rank < 3)) (raisedFault k s)) := by
  have hb := raisedFault_became k s
  rw [hk] at hb
  unfold raiseFault dsvOnRaise
  rw [hk]
  exact congrArg (fun b => dsvSettle (safeStopReaction k b (raisedFault k s))) hb

theorem raiseFault_limpClass (hk : k.reactionClass = .limp) : raiseFault k s = dsvSettle (raisedFault k s) := by
  unfold raiseFault dsvOnRaise
  rw [hk]
  rfl

end

/-! ## SHUTDOWN class (R12) -/

section
variable {k : FaultKind} {s : State}

theorem shutdownReaction_resting (b : Bool) (h : s.dsv.state = .standby ∨ s.dsv.state = .faulted) :
    shutdownReaction k b s = s := by
  unfold shutdownReaction
  rcases h with h | h <;> rw [h]

theorem shutdownReaction_active (hs : s.dsv.state ≠ .standby) (hf : s.dsv.state ≠ .faulted) :
    shutdownReaction k true s = shutdown k s := by
  unfold shutdownReaction
  cases h : s.dsv.state
  case standby => exact absurd h hs
  case faulted => exact absurd h hf
  all_goals rfl

/-- In STANDBY and FAULTED a SHUTDOWN-class raising leaves the driveline as it is (R12, R13). -/
theorem raiseFault_shutdown_resting (hk : k.reactionClass = .shutdown)
    (h : s.dsv.state = .standby ∨ s.dsv.state = .faulted) : raiseFault k s = raisedFault k s := by
  rw [raiseFault_shutdownClass s hk, shutdownReaction_resting _ (s := raisedFault k s) h]
  have hrank : 3 ≤ (raisedFault k s).faults.highest.rank := by
    rw [raisedFault_highest, hk]
    exact le_max_of_le_right (by decide)
  rcases h with h | h
  · exact dsvSettle_standby_stays (s := raisedFault k s) h (.inr (.inr hrank))
  · exact dsvSettle_waiting (s := raisedFault k s) (.inr (.inr h))

/-- Elsewhere it shuts the driveline down (R12). -/
theorem raiseFault_shutdown_active (hk : k.reactionClass = .shutdown) (hrank : s.faults.highest.rank < 4)
    (hs : s.dsv.state ≠ .standby) (hf : s.dsv.state ≠ .faulted) :
    raiseFault k s = shutdown k (raisedFault k s) := by
  rw [raiseFault_shutdownClass s hk, decide_eq_true hrank, shutdownReaction_active (s := raisedFault k s) hs hf]
  exact dsvSettle_waiting (.inr (.inr (by rw [shutdown_dsv])))

/-! ## SAFE_STOP class (R7 to R11) -/

/-- PRECHARGE is aborted, and STANDBY stays under the class (R7). -/
theorem raiseFault_safeStop_precharge (hk : k.reactionClass = .safeStop) (hrank : s.faults.highest.rank < 3)
    (h : s.dsv.state = .precharge) : raiseFault k s = abortPrecharge (raisedFault k s) := by
  have hreact : safeStopReaction k true (raisedFault k s) = abortPrecharge (raisedFault k s) := by
    have h' : (raisedFault k s).dsv.state = .precharge := h
    unfold safeStopReaction
    rw [h']
    rfl
  have hclass : 3 ≤ (abortPrecharge (raisedFault k s)).faults.highest.rank := by
    rw [abortPrecharge_faults, raisedFault_highest, hk]
    exact le_max_of_le_right (by decide)
  rw [raiseFault_safeStopClass s hk, decide_eq_true hrank, hreact]
  exact dsvSettle_standby_stays (by rw [abortPrecharge_dsv]) (.inr (.inr hclass))

/-- READY enters POWER_DOWN (R8). -/
theorem raiseFault_safeStop_ready (hk : k.reactionClass = .safeStop) (hrank : s.faults.highest.rank < 3)
    (h : s.dsv.state = .ready) :
    raiseFault k s = enterPowerDown (setStopCause (.fault k) (raisedFault k s)) := by
  have hreact : safeStopReaction k true (raisedFault k s) =
      enterPowerDown (setStopCause (.fault k) (raisedFault k s)) := by
    have h' : (raisedFault k s).dsv.state = .ready := h
    unfold safeStopReaction
    rw [h']
    rfl
  rw [raiseFault_safeStopClass s hk, decide_eq_true hrank, hreact]
  exact dsvSettle_waiting (.inr (.inl rfl))

/-- DRIVE and LIMP enter SAFE_STOP, or at rest POWER_DOWN (R9, R10). -/
theorem raiseFault_safeStop_moving (hk : k.reactionClass = .safeStop) (hrank : s.faults.highest.rank < 3)
    (h : s.dsv.state = .drive ∨ s.dsv.state = .limp) :
    (raiseFault k s).dsv =
        (if s.sns.roadSpeed < 10 then
          { s.dsv with
            state := .powerDown, stopCause := .fault k, safeStopTimer := none, powerDownTimer := some 500 }
        else { s.dsv with state := .safeStop, stopCause := .fault k, safeStopTimer := some 30000 }) ∧
      (raiseFault k s).log =
        s.log.afterAppend (entryNow s .safeStopEntered none (some (k.number.val : Int)) none) := by
  have hreact : safeStopReaction k true (raisedFault k s) =
      enterSafeStop (logNow .safeStopEntered none (some (k.number.val : Int))
        (setStopCause (.fault k) (raisedFault k s))) := by
    have h' : (raisedFault k s).dsv.state = .drive ∨ (raisedFault k s).dsv.state = .limp := h
    unfold safeStopReaction
    rcases h' with h' | h' <;> rw [h'] <;> rfl
  rw [raiseFault_safeStopClass s hk, decide_eq_true hrank, hreact, dsvSettle_log, dsvSettle_safeStop rfl]
  refine ⟨?_, rfl⟩
  split
  · rename_i hroad
    exact (if_pos hroad).symm
  · rename_i hroad
    exact (if_neg hroad).symm

/-- SAFE_STOP and POWER_DOWN go on; a stop by key OFF becomes one by fault (R10, R11). -/
theorem raiseFault_safeStop_stopping (hk : k.reactionClass = .safeStop)
    (h : (s.dsv.state = .safeStop ∧ 10 ≤ s.sns.roadSpeed) ∨ s.dsv.state = .powerDown) :
    (raiseFault k s).dsv = (if s.dsv.stopCause = .keyOff then { s.dsv with stopCause := .fault k } else s.dsv) ∧
      (raiseFault k s).log =
        (if s.dsv.stopCause = .keyOff ∧ s.dsv.state = .safeStop then
          s.log.afterAppend (entryNow s .safeStopEntered none (some (k.number.val : Int)) none)
        else s.log) := by
  rw [raiseFault_safeStopClass s hk, dsvSettle_log]
  rcases h with ⟨h, hroad⟩ | h
  · have hreact (b : Bool) : safeStopReaction k b (raisedFault k s) =
        if s.dsv.stopCause = .keyOff then
          logNow .safeStopEntered none (some (k.number.val : Int)) (setStopCause (.fault k) (raisedFault k s))
        else raisedFault k s := by
      have h' : (raisedFault k s).dsv.state = .safeStop := h
      unfold safeStopReaction
      rw [h']
      rfl
    rw [hreact]
    by_cases hcause : s.dsv.stopCause = .keyOff
    · rw [if_pos hcause, if_pos hcause, if_pos ⟨hcause, h⟩,
        dsvSettle_safeStop_stays (s := logNow .safeStopEntered none (some (k.number.val : Int))
          (setStopCause (.fault k) (raisedFault k s))) h hroad]
      exact ⟨rfl, rfl⟩
    · rw [if_neg hcause, if_neg hcause, if_neg fun hc => hcause hc.1,
        dsvSettle_safeStop_stays (s := raisedFault k s) h hroad]
      exact ⟨rfl, rfl⟩
  · have hreact (b : Bool) : safeStopReaction k b (raisedFault k s) =
        if s.dsv.stopCause = .keyOff then setStopCause (.fault k) (raisedFault k s) else raisedFault k s := by
      have h' : (raisedFault k s).dsv.state = .powerDown := h
      unfold safeStopReaction
      rw [h']
      rfl
    have hnot : ¬(s.dsv.stopCause = .keyOff ∧ s.dsv.state = .safeStop) := fun hc => by
      rw [h] at hc
      cases hc.2
    rw [hreact, if_neg hnot]
    by_cases hcause : s.dsv.stopCause = .keyOff
    · rw [if_pos hcause, if_pos hcause,
        dsvSettle_waiting (s := setStopCause (.fault k) (raisedFault k s)) (.inr (.inl h))]
      exact ⟨rfl, rfl⟩
    · rw [if_neg hcause, if_neg hcause, dsvSettle_waiting (s := raisedFault k s) (.inr (.inl h))]
      exact ⟨rfl, rfl⟩

/-! ## LIMP class (R9) -/

theorem raiseFault_limp_drive (hk : k.reactionClass = .limp) (hrank : s.faults.highest.rank ≤ 2)
    (h : s.dsv.state = .drive) : (raiseFault k s).dsv = { s.dsv with state := .limp } := by
  have hclass : (raisedFault k s).faults.highest.rank = 2 := by
    rw [raisedFault_highest, hk]
    exact max_eq_right hrank
  rw [raiseFault_limpClass s hk, dsvSettle_drive (s := raisedFault k s) h, if_pos hclass]
  rfl

/-- The states that a LIMP-class raising leaves as they are (R9, R10). -/
theorem raiseFault_limp_stays (hk : k.reactionClass = .limp)
    (h : s.dsv.state = .precharge ∨ s.dsv.state = .limp ∨ (s.dsv.state = .safeStop ∧ 10 ≤ s.sns.roadSpeed) ∨
      s.dsv.state = .powerDown ∨ s.dsv.state = .faulted) : (raiseFault k s).dsv = s.dsv := by
  have hclass : 2 ≤ (raisedFault k s).faults.highest.rank := by
    rw [raisedFault_highest, hk]
    exact le_max_of_le_right (by decide)
  have hstay : dsvSettle (raisedFault k s) = raisedFault k s := by
    rcases h with h | h | ⟨h, hroad⟩ | h | h
    · exact dsvSettle_waiting (s := raisedFault k s) (.inl h)
    · exact dsvSettle_limp_stays (s := raisedFault k s) h (.inl hclass)
    · exact dsvSettle_safeStop_stays (s := raisedFault k s) h hroad
    · exact dsvSettle_waiting (s := raisedFault k s) (.inr (.inl h))
    · exact dsvSettle_waiting (s := raisedFault k s) (.inr (.inr h))
  rw [raiseFault_limpClass s hk, hstay]
  rfl

end

/-! ## The loss of a link -/

/-- The state in which the loss of a link raises its fault (R21, R43). -/
def linkDown (i : LinkId) (s : State) : State :=
  { s with
    sns := s.sns.setLink i { s.sns.link i with up := false, monitor := none },
    ena := if i = .pack then { s.ena with iDis := 0, iChg := 0, pDis := 0, pChg := 0, restTimer := 0 } else s.ena }

theorem monitorExpiry_eq {i : LinkId} {s : State} (h : (s.sns.link i).monitor.isSome = true) :
    monitorExpiry i s = raiseFault (linkFault i) (linkDown i s) := by
  unfold monitorExpiry
  rw [if_pos h]
  cases i <;> rfl

theorem exec_linkMonitorExpiry {i : LinkId} {s : State} (hrun : s.running = true)
    (h : (s.sns.link i).monitor.isSome = true) :
    exec (.linkMonitorExpiry i) s = .next (raiseFault (linkFault i) (linkDown i s)) :=
  congrArg Host.Outcome.next ((whileRunning_runs (monitorExpiry i) hrun).trans (monitorExpiry_eq h))

theorem linkDown_roadSpeed (i : LinkId) (s : State) : (linkDown i s).sns.roadSpeed = s.sns.roadSpeed :=
  Sns.setLink_roadSpeed _ _ _

theorem contactorOutputs_open {s : State} (hneg : s.dsv.negClosed = false) (hpre : s.dsv.preClosed = false)
    (hpos : s.dsv.posClosed = false) : contactorOutputs s = (false, false, false) := by
  simp [contactorOutputs, hneg, hpre, hpos]

/-- Settles O26, by the reaction to the class of each link's fault. -/
theorem linkLossRaisesItsFault : Obligations.LinkLossRaisesItsFault := by
  intro link s hrun hlog hmonitor
  have hexec := exec_linkMonitorExpiry hrun hmonitor
  obtain ⟨hcause, hrow⟩ := raiseFault_notifies (linkFault link) (linkDown link s)
  have hrest := raiseFault_rest (linkFault link) (linkDown link s)
  have hsns := sns_of_rest hrest
  have hena : (raiseFault (linkFault link) (linkDown link s)).ena = (linkDown link s).ena := congrArg Rest.ena hrest
  refine ⟨_, hexec, hsns, hena, raiseFault_record_same _ _, fun k hk => raiseFault_record_other _ hk,
    State.eq_of_fields ?_ rfl rfl rfl rfl rfl rfl, hcause, hrow,
    event_frame rfl (fun v => Instr.noConfusion) hlog hexec, ?drive, ?pack, ?stopping, ?limp⟩
  · exact hrest.trans (congrArg₂ (fun a b => ({ s.rest with sns := a, ena := b } : Rest)) hsns hena).symm
  case drive =>
    rintro rfl hhighest
    have hrank : s.faults.highest.rank < 4 := s.faults.highest_le_three_iff.2 hhighest
    refine ⟨fun hs hf => ?_, fun hrest => ?_⟩
    · rw [raiseFault_shutdown_active (s := linkDown .drive s) rfl hrank hs hf]
      have hdsv := shutdown_dsv (linkFault .drive) (raisedFault (linkFault .drive) (linkDown .drive s))
      refine ⟨congrArg Dsv.state hdsv, congrArg Dsv.stopCause hdsv, ?_, congrArg Dsv.prechargeTimer hdsv,
        congrArg Dsv.settleTimer hdsv, congrArg Dsv.cooldownTimer hdsv, congrArg Dsv.powerDownTimer hdsv,
        congrArg Dsv.safeStopTimer hdsv, shutdown_log _ _, shutdown_w7 _ _, fun c hc => shutdown_counter_other _ _ hc⟩
      exact contactorOutputs_open (congrArg Dsv.negClosed hdsv) (congrArg Dsv.preClosed hdsv) (congrArg Dsv.posClosed hdsv)
    · rw [raiseFault_shutdown_resting (s := linkDown .drive s) rfl hrest]
      exact ⟨rfl, rfl, rfl⟩
  case pack =>
    rintro rfl hrank
    refine ⟨fun hs => ?_, fun hs => ?_, fun hs => ?_⟩
    · rw [raiseFault_safeStop_precharge (s := linkDown .pack s) rfl hrank hs]
      have hdsv := abortPrecharge_dsv (raisedFault (linkFault .pack) (linkDown .pack s))
      refine ⟨congrArg Dsv.state hdsv, congrArg Dsv.stopCause hdsv, ?_, congrArg Dsv.prechargeTimer hdsv,
        congrArg Dsv.settleTimer hdsv, (congrArg Dsv.cooldownTimer hdsv).trans rfl⟩
      exact contactorOutputs_open (congrArg Dsv.negClosed hdsv) (congrArg Dsv.preClosed hdsv) (congrArg Dsv.posClosed hdsv)
    · rw [raiseFault_safeStop_ready (s := linkDown .pack s) rfl hrank hs]
      rfl
    · exact raiseFault_safeStop_moving (s := linkDown .pack s) rfl hrank hs
  case stopping =>
    rintro rfl hstate
    exact raiseFault_safeStop_stopping (s := linkDown .pack s) rfl hstate
  case limp =>
    rintro hlink
    have hclass : (linkFault link).reactionClass = .limp := by rcases hlink with rfl | rfl <;> rfl
    refine ⟨fun hs hrank => raiseFault_limp_drive hclass hrank hs, fun hs => ?_⟩
    rw [← linkDown_roadSpeed link s] at hs
    exact raiseFault_limp_stays (s := linkDown link s) hclass hs

end Sys2Proof.Machine
end

section
/-! PROOF. The demand age and the faults that it raises (R62, R9, R10). -/

namespace Sys2Proof.Machine

open Sys2Proof

/-! ## The age test -/

/-- The state in which the age of the demand is tested (R62). -/
def demandAged (s : State) : State := s.withSpl { s.spl with demandAge := min (s.spl.demandAge + 1) 255 }

/-- The state after the test for DEMAND_STALE (R62). -/
def staleTested (s : State) : State :=
  if 5 < s.spl.demandAge ∧ s.faults.isActive .demandStale = false then setCause .demandStale (raiseFault .demandStale s) else s

/-- The state after the test for DEMAND_LOST (R62). -/
def lostTested (s : State) : State :=
  if 100 < s.spl.demandAge ∧ s.faults.isActive .demandLost = false then raiseFault .demandLost s else s

section
variable {s : State}

theorem ageTest_driving (h : s.dsv.state = .drive ∨ s.dsv.state = .limp) :
    ageTest s = lostTested (staleTested (demandAged s)) := by
  have hdrives : (demandAged s).dsv.state.drives = true := by
    show s.dsv.state.drives = true
    rcases h with h | h <;> rw [h] <;> rfl
  exact if_pos hdrives

theorem ageTest_resting (hd : s.dsv.state ≠ .drive) (hl : s.dsv.state ≠ .limp) : ageTest s = demandAged s := by
  have hdrives : ¬(demandAged s).dsv.state.drives = true := by
    show ¬s.dsv.state.drives = true
    cases h : s.dsv.state <;> simp_all [DrivelineState.drives]
  exact if_neg hdrives

theorem splitFrame_faults (s : State) : (splitFrame s).faults = (ageTest s).faults := rfl

theorem splitFrame_dsv (s : State) : (splitFrame s).dsv = (ageTest s).dsv := rfl

theorem splitFrame_causeSet (s : State) (c : Cause) : (splitFrame s).causeSet c = (ageTest s).causeSet c := rfl

theorem splitFrame_demandAge (s : State) : (splitFrame s).spl.demandAge = (ageTest s).spl.demandAge := by
  unfold splitFrame
  dsimp only
  split
  · rfl
  · rfl

theorem exec_splitFrame (hrun : s.running = true) : exec .splitFrame s = .next (splitFrame s) :=
  congrArg Host.Outcome.next (whileRunning_runs splitFrame hrun)

theorem staleTested_raises (hage : 5 < s.spl.demandAge) (hquiet : s.faults.isActive .demandStale = false) :
    staleTested s = setCause .demandStale (raiseFault .demandStale s) := if_pos ⟨hage, hquiet⟩

theorem lostTested_raises (hage : 100 < s.spl.demandAge) (hquiet : s.faults.isActive .demandLost = false) :
    lostTested s = raiseFault .demandLost s := if_pos ⟨hage, hquiet⟩

/-- DEMAND_STALE, once ACTIVE, and its cause stand after the test for DEMAND_LOST. -/
theorem lostTested_keeps_stale (hactive : s.faults.isActive .demandStale = true) (hcause : s.causeSet .demandStale = true) :
    (lostTested s).faults.isActive .demandStale = true ∧ (lostTested s).causeSet .demandStale = true := by
  unfold lostTested
  split
  · exact ⟨(FaultTable.isActive_congr (raiseFault_record_other s (by decide))).trans hactive,
      (raiseFault_kept _ s).causes _ hcause⟩
  · exact ⟨hactive, hcause⟩

/-! ## What the test for DEMAND_STALE leaves for the test for DEMAND_LOST -/

theorem raiseFault_derateClass {k : FaultKind} (s : State) (hk : k.reactionClass = .derate) :
    raiseFault k s = dsvSettle (raisedFault k s) := by
  unfold raiseFault dsvOnRaise
  rw [hk]
  rfl

/-- From DRIVE and LIMP the tests lead to READY only at rest (R9). -/
theorem dsvSettle_driving (h : s.dsv.state = .drive ∨ s.dsv.state = .limp) :
    ((dsvSettle s).dsv.state = .drive ∨ (dsvSettle s).dsv.state = .limp) ∨
      ((dsvSettle s).dsv.state = .ready ∧ s.sns.roadSpeed < 10) := by
  rcases h with h | h
  · rw [dsvSettle_drive h]
    split_ifs with hlimp hrest
    · exact .inl (.inr rfl)
    · exact .inr ⟨rfl, hrest.2⟩
    · exact .inl (.inl h)
  · rw [dsvSettle_limp h]
    split_ifs with hgo hrest
    · exact .inr ⟨rfl, hrest.2⟩
    · exact .inl (.inl (enterDrive_state s))
    · exact .inl (.inr h)

theorem staleTested_driving (h : s.dsv.state = .drive ∨ s.dsv.state = .limp) :
    ((staleTested s).dsv.state = .drive ∨ (staleTested s).dsv.state = .limp) ∨
      ((staleTested s).dsv.state = .ready ∧ s.sns.roadSpeed < 10) := by
  unfold staleTested
  split
  · rw [setCause_dsv, raiseFault_derateClass s rfl]
    exact dsvSettle_driving (s := raisedFault .demandStale s) h
  · exact .inl h

theorem staleTested_rest (s : State) : (staleTested s).rest = s.rest := by
  unfold staleTested
  split
  · exact raiseFault_rest _ s
  · rfl

theorem staleTested_highest (h : s.faults.highest.rank < 3) : (staleTested s).faults.highest.rank < 3 := by
  unfold staleTested
  split
  · rw [setCause_faults, raiseFault_highest]
    exact max_lt h (by decide)
  · exact h

theorem staleTested_demandLost (s : State) :
    (staleTested s).faults.isActive .demandLost = s.faults.isActive .demandLost := by
  unfold staleTested
  split
  · exact FaultTable.isActive_congr (raiseFault_record_other s (by decide))
  · rfl

/-- DEMAND_LOST takes the driveline to a stop (R8, R9, R10). -/
theorem raiseFault_demandLost_state (hrank : s.faults.highest.rank < 3)
    (h : (s.dsv.state = .drive ∨ s.dsv.state = .limp) ∨ (s.dsv.state = .ready ∧ s.sns.roadSpeed < 10)) :
    (raiseFault .demandLost s).dsv.state = if s.sns.roadSpeed < 10 then .powerDown else .safeStop := by
  rcases h with h | ⟨h, hroad⟩
  · rw [(raiseFault_safeStop_moving rfl hrank h).1]
    split
    · rfl
    · rfl
  · rw [raiseFault_safeStop_ready rfl hrank h, if_pos hroad]
    rfl

end

/-- Settles O36, by the two tests of the age one after the other. -/
theorem oldDemandIsFound : Obligations.OldDemandIsFound := by
  intro s hrun tested
  have hexec := exec_splitFrame hrun
  refine ⟨fun hd hl => ⟨_, hexec, ?_, ?_⟩, fun ht hage hstale => ⟨_, hexec, ?_⟩,
    fun ht hage hlost hrank => ⟨_, hexec, ?_⟩, fun hage => ⟨_, hexec, ?_⟩⟩
  · rw [splitFrame_demandAge, ageTest_resting hd hl]
    rfl
  · rw [splitFrame_faults, ageTest_resting hd hl]
    rfl
  · have haged : 5 < (demandAged s).spl.demandAge := by
      show 5 < min (s.spl.demandAge + 1) 255
      omega
    rw [splitFrame_faults, splitFrame_causeSet, ageTest_driving ht, staleTested_raises haged hstale]
    exact lostTested_keeps_stale (raiseFault_isActive _ _) (setCause_causeSet _ _)
  · have hrest := staleTested_rest (demandAged s)
    have haged : 100 < (staleTested (demandAged s)).spl.demandAge := by
      rw [show (staleTested (demandAged s)).spl = (demandAged s).spl from congrArg Rest.spl hrest]
      show 100 < min (s.spl.demandAge + 1) 255
      omega
    have hroad : (staleTested (demandAged s)).sns.roadSpeed = s.sns.roadSpeed :=
      (congrArg Sns.roadSpeed (sns_of_rest hrest)).trans rfl
    rw [splitFrame_faults, splitFrame_dsv, ageTest_driving ht,
      lostTested_raises haged ((staleTested_demandLost _).trans hlost), ← hroad]
    refine ⟨raiseFault_isActive _ _, raiseFault_demandLost_state (staleTested_highest hrank) ?_⟩
    rw [hroad]
    exact staleTested_driving ht
  · have hyoung : (demandAged s).spl.demandAge ≤ 5 := by
      show min (s.spl.demandAge + 1) 255 ≤ 5
      omega
    have hquiet : lostTested (staleTested (demandAged s)) = demandAged s := by
      have hs : staleTested (demandAged s) = demandAged s := if_neg fun h => by omega
      rw [hs]
      exact if_neg fun h => by omega
    by_cases ht : s.dsv.state = .drive ∨ s.dsv.state = .limp
    · rw [splitFrame_faults, ageTest_driving ht, hquiet]
      rfl
    · rw [not_or] at ht
      rw [splitFrame_faults, ageTest_resting ht.1 ht.2]
      rfl

end Sys2Proof.Machine
end

section
/-! PROOF. The DEMAND take (R1, R8, R9, R59 to R61). -/

namespace Sys2Proof.Machine

open Sys2Proof

/-! ## The direction word -/

theorem Direction.ofWord_code {w : Word} {d : Direction} (h : w.toNat = d.code) : Direction.ofWord w = some d := by
  unfold Direction.ofWord
  rw [h]
  cases d <;> rfl

theorem Direction.ofWord_none {w : Word} (h : 2 < w.toNat) : Direction.ofWord w = none := by
  unfold Direction.ofWord
  split
  case h_4 => rfl
  all_goals omega

theorem directionHeld_eq (s : State) (d : Direction) :
    directionHeld s d =
      decide (10 ≤ s.sns.roadSpeed ∧
        ((d = .forward ∧ s.spl.lastMoving = .reverse) ∨ (d = .reverse ∧ s.spl.lastMoving = .forward))) := by
  unfold directionHeld
  cases d <;> cases s.spl.lastMoving <;> simp

/-! ## The tests and clearing reports of an event -/

theorem FaultTable.rank_le_highest {t : FaultTable} {k : FaultKind} (h : t.isActive k = true) :
    k.reactionClass.rank ≤ t.highest.rank := by
  have hlt := (t.highest_lt_iff (n := t.highest.rank + 1) (by omega)).1 (by omega) k h
  omega

/-- A clearing report among READY, DRIVE and LIMP changes nothing of DSV but the state and the keep-store flag. -/
theorem clearFault_moves (k : FaultKind) {s : State} (h : s.dsv.state.moves) :
    (clearFault k s).dsv.state.moves ∧
      (clearFault k s).dsv =
        { s.dsv with state := (clearFault k s).dsv.state, keepStoreValid := (clearFault k s).dsv.keepStoreValid } := by
  cases hactive : s.faults.isActive k with
  | false => rw [clearFault_inactive hactive]; exact ⟨h, rfl⟩
  | true => rw [clearFault_latches hactive]; exact dsvSettle_moves (s := latchedFault k s) h

/-- A clearing report followed by the tests is the tests of one state: the record is LATCHED there, or was not ACTIVE. -/
theorem dsvSettle_clearFault (k : FaultKind) (s : State) :
    dsvSettle (clearFault k s) = dsvSettle (if s.faults.isActive k then latchedFault k s else s) := by
  cases hactive : s.faults.isActive k with
  | false => rw [clearFault_inactive hactive]; rfl
  | true => rw [clearFault_latches hactive, dsvSettle_dsvSettle]; rfl

/-- While a SAFE_STOP-class record stands, a clearing report of another kind moves the driveline only from DRIVE to READY, in
NEUTRAL at rest (R8, R9). -/
theorem clearFault_under_safeStop {j k : FaultKind} {s : State} (hjk : k ≠ j) (hk : k.reactionClass = .safeStop)
    (hactive : s.faults.isActive k = true) (hmoves : s.dsv.state.moves) :
    (clearFault j s).dsv.state = s.dsv.state ∨
      (s.dsv.state = .drive ∧ (clearFault j s).dsv.state = .ready ∧ s.spl.demand.direction = .neutral ∧
        s.sns.roadSpeed < 10) := by
  cases hj : s.faults.isActive j with
  | false => rw [clearFault_inactive hj]; exact .inl rfl
  | true =>
    have hrank : 3 ≤ (latchedFault j s).faults.highest.rank := by
      have h := FaultTable.rank_le_highest (t := (latchedFault j s).faults) (k := k)
        ((FaultTable.isActive_congr (setRecord_record_other _ s hjk)).trans hactive)
      rwa [hk] at h
    rw [clearFault_latches hj]
    rcases hmoves with h | h | h
    · rw [dsvSettle_ready_stays (s := latchedFault j s) h (.inr (.inr hrank))]
      exact .inl rfl
    · rw [dsvSettle_drive (s := latchedFault j s) h, if_neg (by omega)]
      split
      · rename_i hrest
        exact .inr ⟨h, rfl, hrest⟩
      · exact .inl rfl
    · rw [dsvSettle_limp_stays (s := latchedFault j s) h (.inl (by omega))]
      exact .inl rfl

/-! ## The take -/

/-- SPL's records after a DEMAND take (R59 to R61). -/
def demandStored (p : List Word) (sequence : Word) (d : Direction) (s : State) : State :=
  s.withSpl { s.spl with
    demand := demandImageOf p (if directionHeld s d then s.spl.demand.direction else d),
    lastMoving := if directionHeld s d then s.spl.lastMoving else s.spl.lastMoving.afterStored d,
    demandAge := 0, demandSequence := sequence }

/-- The state whose tests end a DEMAND take. -/
def demandCleared (u : State) : State :=
  if (clearFault .demandStale u).faults.isActive .demandLost then
    latchedFault .demandLost (clearFault .demandStale u)
  else if u.faults.isActive .demandStale then latchedFault .demandStale u else u

theorem takeDemand_eq (p : List Word) (sequence : Word) (d : Direction) (s : State) :
    takeDemand p sequence d s = dsvSettle (demandCleared (demandStored p sequence d s)) := by
  show dsvSettle (clearFault .demandLost (clearFault .demandStale (demandStored p sequence d s))) = _
  unfold demandCleared
  rw [dsvSettle_clearFault]
  split
  · rfl
  · exact dsvSettle_clearFault _ _

section
variable (u : State)

theorem demandCleared_rest : (demandCleared u).rest = u.rest := by
  unfold demandCleared
  split_ifs
  · exact clearFault_rest _ u
  · rfl
  · rfl

theorem demandCleared_log : (demandCleared u).log = u.log := by
  unfold demandCleared
  split_ifs
  · exact clearFault_log _ u
  · rfl
  · rfl

theorem demandCleared_counters : (demandCleared u).wear.counters = u.wear.counters := by
  unfold demandCleared
  split_ifs
  · exact clearFault_counters _ u
  · rfl
  · rfl

theorem demandCleared_state (h : u.dsv.state.moves) :
    (demandCleared u).dsv.state = u.dsv.state ∨
      (u.dsv.state = .drive ∧ (demandCleared u).dsv.state = .ready ∧ u.spl.demand.direction = .neutral ∧
        u.sns.roadSpeed < 10) := by
  unfold demandCleared
  split_ifs with hlost
  · have hactive : u.faults.isActive .demandLost = true :=
      (FaultTable.isActive_congr (clearFault_record_other u (by decide))).symm.trans hlost
    exact clearFault_under_safeStop (k := .demandLost) (by decide) rfl hactive h
  · exact .inl rfl
  · exact .inl rfl

end

section
variable (p : List Word) (sequence : Word) (d : Direction) (s : State)

theorem takeDemand_rest :
    (takeDemand p sequence d s).rest = { s.rest with spl := (demandStored p sequence d s).spl } := by
  rw [takeDemand_eq, dsvSettle_rest, demandCleared_rest]
  rfl

theorem takeDemand_spl : (takeDemand p sequence d s).spl = (demandStored p sequence d s).spl :=
  congrArg Rest.spl (takeDemand_rest p sequence d s)

theorem takeDemand_faults :
    (takeDemand p sequence d s).faults =
      (clearFault .demandLost (clearFault .demandStale (demandStored p sequence d s))).faults :=
  dsvSettle_faults _

/-- The records of DEMAND_STALE and DEMAND_LOST after a take (R61). -/
theorem takeDemand_clears :
    ((takeDemand p sequence d s).faults.record .demandStale).state ≠ .active ∧
      ((takeDemand p sequence d s).faults.record .demandLost).state ≠ .active := by
  rw [takeDemand_faults, clearFault_record_other (j := .demandStale) _ (by decide)]
  exact ⟨clearFault_notActive _ _, clearFault_notActive _ _⟩

/-- R8 and R9 after a take. -/
theorem takeDemand_follows :
    LimpFollows s (takeDemand p sequence d s) ∧ ReadyFollows s (takeDemand p sequence d s) ∧
      DriveFollows s (takeDemand p sequence d s) := by
  have hstate := demandCleared_state (demandStored p sequence d s)
  have hrest := demandCleared_rest (demandStored p sequence d s)
  have hspl : (demandCleared (demandStored p sequence d s)).spl = (demandStored p sequence d s).spl :=
    congrArg Rest.spl hrest
  have hsns : (demandCleared (demandStored p sequence d s)).sns = s.sns := (sns_of_rest hrest).trans rfl
  rw [takeDemand_eq]
  generalize demandCleared (demandStored p sequence d s) = x at hstate hspl hsns
  have hsame (h : s.dsv.state.moves) (hd : s.dsv.state ≠ .drive) : x.dsv.state = s.dsv.state :=
    (hstate h).resolve_right fun hc => hd hc.1
  have hfollows (hx : x.dsv.state = s.dsv.state) :=
    follows_of_settled (t := dsvSettle x) hx (congrArg Sns.roadSpeed hsns) (dsvSettle_spl x) (dsvSettle_faults x) rfl rfl
  refine ⟨fun hs => (hfollows (hsame (.inr (.inr hs)) (hs.trans_ne (by decide)))).1 hs,
    fun hs => (hfollows (hsame (.inl hs) (hs.trans_ne (by decide)))).2 hs, fun hs hrank => ?_⟩
  rcases hstate (.inr (.inl hs)) with hx | ⟨-, hx, hneutral, hroad⟩
  · exact driveFollows_of_settled hx (by rw [dsvSettle_sns]) (dsvSettle_spl x) (dsvSettle_faults x) rfl hs hrank
  · have hneutral' : x.spl.demand.direction = .neutral := by rw [hspl]; exact hneutral
    rw [dsvSettle_ready_stays hx (.inl hneutral'), if_pos ⟨hneutral', by rw [hsns]; exact hroad⟩, hx]

/-- In READY, DRIVE and LIMP a take changes nothing of DSV but the state and the keep-store flag. -/
theorem takeDemand_dsv (h : s.dsv.state.moves) :
    (takeDemand p sequence d s).dsv =
      { s.dsv with
        state := (takeDemand p sequence d s).dsv.state,
        keepStoreValid := (takeDemand p sequence d s).dsv.keepStoreValid } := by
  obtain ⟨hm1, hd1⟩ := clearFault_moves .demandStale (s := demandStored p sequence d s) h
  obtain ⟨hm2, hd2⟩ := clearFault_moves .demandLost hm1
  obtain ⟨-, hd3⟩ := dsvSettle_moves hm2
  refine hd3.trans ?_
  rw [hd2, hd1]
  rfl

end

/-- Settles O47, by the image stored, the two clearing reports and the tests after them. -/
theorem demandTake : Obligations.DemandTake := by
  intro p sequence s
  refine ⟨fun hd => ?_, fun d hd => ?_⟩
  · unfold checkDemand
    rw [Direction.ofWord_none hd]
  · have hcheck : checkDemand p sequence s =
        .taken { clampedFlag (demandClamped p) with held := directionHeld s d } (takeDemand p sequence d s) := by
      unfold checkDemand
      rw [Direction.ofWord_code hd]
    have hspl := takeDemand_spl p sequence d s
    obtain ⟨hstale, hlost⟩ := takeDemand_clears p sequence d s
    obtain ⟨hlimp, hready, hdrive⟩ := takeDemand_follows p sequence d s
    refine ⟨_, _, hcheck, ?_, ?_, ?_, ?_, ?_, ?_, rfl, hstale, hlost, directionHeld_eq s d, ?dir, ?held, ?stored, hlimp,
      hready, hdrive, takeDemand_dsv p sequence d s, ?frame⟩
    case dir => rw [hspl]; rfl
    case held =>
      intro h
      rw [hspl]
      exact if_pos h
    case stored =>
      intro h
      rw [hspl]
      refine (if_neg (by rw [show directionHeld s d = false from h]; decide)).trans ?_
      cases d <;> rfl
    case frame =>
      refine State.eq_of_fields ?_ rfl rfl (Wear.eq_of_counters ?_) ?_ rfl rfl
      · rw [takeDemand_rest, hspl]
        rfl
      · rw [takeDemand_eq, dsvSettle_counters, demandCleared_counters]
        rfl
      · rw [takeDemand_eq, dsvSettle_log, demandCleared_log]
        rfl
    all_goals
      rw [hspl]
      rfl

end Sys2Proof.Machine
end

section
/-! PROOF. The MODE take (R1, R4, R7 to R11, R13 to R15, R90, R157). -/

namespace Sys2Proof.Machine

open Sys2Proof

/-! ## The words of a MODE order -/

theorem bitOfWord_le {w : Word} (h : w.toNat ≤ 1) : bitOfWord w = some (decide (w.toNat = 1)) := by
  have hw : w.toNat = 0 ∨ w.toNat = 1 := by omega
  unfold bitOfWord
  rcases hw with hw | hw <;> rw [hw] <;> rfl

theorem bitOfWord_none {w : Word} (h : 1 < w.toNat) : bitOfWord w = none := by
  unfold bitOfWord
  split
  case h_3 => rfl
  all_goals omega

theorem Permission.ofWord_le {w : Word} (h : w.toNat ≤ 2) :
    Permission.ofWord w =
      some (if w.toNat = 0 then .allowed else if w.toNat = 1 then .quiet else .forceRun) := by
  have hw : w.toNat = 0 ∨ w.toNat = 1 ∨ w.toNat = 2 := by omega
  unfold Permission.ofWord
  rcases hw with hw | hw | hw <;> rw [hw] <;> rfl

theorem Permission.ofWord_none {w : Word} (h : 2 < w.toNat) : Permission.ofWord w = none := by
  unfold Permission.ofWord
  split
  case h_4 => rfl
  all_goals omega

/-! ## What the tests do to DSV's records depends on DSV, the classes, the demand and the speed alone -/

theorem dsvTest_dsv_congr {s u : State} (hdsv : u.dsv = s.dsv) (hwindow : u.wear.windowOpen = s.wear.windowOpen)
    (hrank : u.faults.highest.rank = s.faults.highest.rank)
    (hconfig : u.faults.isActive .configMissing = s.faults.isActive .configMissing) (hspl : u.spl = s.spl)
    (hsns : u.sns = s.sns) :
    (dsvTest u).dsv = (dsvTest s).dsv ∧ (dsvTest u).wear.windowOpen = (dsvTest s).wear.windowOpen := by
  have hstate : u.dsv.state = s.dsv.state := by rw [hdsv]
  cases h : s.dsv.state
  case standby =>
    rw [dsvTest_standby h, dsvTest_standby (hstate.trans h), hdsv, hrank]
    split
    · exact ⟨by simp [hdsv], by simp [hwindow]⟩
    · exact ⟨hdsv, hwindow⟩
  case ready =>
    rw [dsvTest_ready h, dsvTest_ready (hstate.trans h), hspl, hconfig, hrank]
    split_ifs
    · exact ⟨by simp [hdsv, hwindow], by simp⟩
    · exact ⟨by simp [hdsv], by simp [hwindow]⟩
    · exact ⟨hdsv, hwindow⟩
    · exact ⟨hdsv, hwindow⟩
  case drive =>
    rw [dsvTest_drive h, dsvTest_drive (hstate.trans h), hspl, hsns, hrank]
    split_ifs
    · exact ⟨by simp [hdsv], by simp [hwindow]⟩
    · exact ⟨by simp [hdsv], by simp [hwindow]⟩
    · exact ⟨hdsv, hwindow⟩
  case limp =>
    rw [dsvTest_limp h, dsvTest_limp (hstate.trans h), hspl, hrank]
    split
    · exact ⟨by simp [hdsv, hwindow], by simp⟩
    · exact ⟨hdsv, hwindow⟩
  case safeStop =>
    rw [dsvTest_safeStop h, dsvTest_safeStop (hstate.trans h), hsns]
    split
    · exact ⟨by simp [hdsv], by simp [hwindow]⟩
    · exact ⟨hdsv, hwindow⟩
  all_goals
    have hwait : s.dsv.state = .precharge ∨ s.dsv.state = .powerDown ∨ s.dsv.state = .faulted := by simp [h]
    rw [dsvTest_waiting hwait, dsvTest_waiting (by rw [hstate]; exact hwait)]
    exact ⟨hdsv, hwindow⟩

/-- Where the tests found nothing to do, they find nothing after a change that they do not look at. -/
theorem dsvSettle_dsv_fixed {s u : State} (hfixed : dsvTest s = s) (hdsv : u.dsv = s.dsv)
    (hwindow : u.wear.windowOpen = s.wear.windowOpen) (hrank : u.faults.highest.rank = s.faults.highest.rank)
    (hconfig : u.faults.isActive .configMissing = s.faults.isActive .configMissing) (hspl : u.spl = s.spl)
    (hsns : u.sns = s.sns) : (dsvSettle u).dsv = s.dsv := by
  obtain ⟨hd1, hw1⟩ := dsvTest_dsv_congr hdsv hwindow hrank hconfig hspl hsns
  rw [hfixed] at hd1 hw1
  obtain ⟨hd2, -⟩ := dsvTest_dsv_congr (u := dsvTest u) hd1 hw1 (by rw [dsvTest_faults]; exact hrank)
    (by rw [dsvTest_faults]; exact hconfig) (by rw [dsvTest_spl]; exact hspl) (by rw [dsvTest_sns]; exact hsns)
  rw [hfixed] at hd2
  exact hd2

/-- The record of an INFO-class kind takes no part in the highest class (R153, R159). -/
theorem FaultTable.highest_of_info {t u : FaultTable} {k : FaultKind} (hk : k.reactionClass = .info)
    (ho : ∀ j : FaultKind, j ≠ k → u.record j = t.record j) : u.highest.rank = t.highest.rank := by
  have hlt (n : Nat) (hn : 0 < n) : u.highest.rank < n ↔ t.highest.rank < n := by
    rw [u.highest_lt_iff hn, t.highest_lt_iff hn]
    refine forall_congr' fun j => ?_
    by_cases hj : j = k
    · subst hj
      rw [hk]
      exact ⟨fun _ _ => hn, fun _ _ => hn⟩
    · rw [FaultTable.isActive_congr (ho j hj)]
  have h1 := (hlt (t.highest.rank + 1) (by omega)).2 (by omega)
  have h2 := (hlt (u.highest.rank + 1) (by omega)).1 (by omega)
  omega

/-! ## DSV's settings under the tests -/

theorem dsvTest_settings (s : State) :
    (dsvTest s).dsv.mode = s.dsv.mode ∧ (dsvTest s).dsv.serviceMode = s.dsv.serviceMode ∧
      (dsvTest s).dsv.limits = s.dsv.limits := by
  cases h : s.dsv.state
  case standby => rw [dsvTest_standby h]; split <;> simp
  case ready => rw [dsvTest_ready h]; split_ifs <;> simp
  case drive => rw [dsvTest_drive h]; split_ifs <;> simp
  case limp => rw [dsvTest_limp h]; split <;> simp
  case safeStop => rw [dsvTest_safeStop h]; split <;> simp
  all_goals rw [dsvTest_waiting (by simp [h])]; exact ⟨rfl, rfl, rfl⟩

theorem dsvSettle_settings (s : State) :
    (dsvSettle s).dsv.mode = s.dsv.mode ∧ (dsvSettle s).dsv.serviceMode = s.dsv.serviceMode ∧
      (dsvSettle s).dsv.limits = s.dsv.limits := by
  obtain ⟨hm, hs, hl⟩ := dsvTest_settings s
  obtain ⟨hm', hs', hl'⟩ := dsvTest_settings (dsvTest s)
  exact ⟨hm'.trans hm, hs'.trans hs, hl'.trans hl⟩

/-! ## DSV on the key -/

/-- What DSV does on a key OFF, before its tests (R7, R8, R9, R13). -/
def keyTurnedOff (s : State) : State :=
  match s.dsv.state with
  | .precharge => abortPrecharge s
  | .ready => enterPowerDown (setStopCause .keyOff s)
  | .drive | .limp => enterSafeStop (setStopCause .keyOff s)
  | .faulted => if s.faults.highest.rank < 3 then enterStandby s else s
  | .standby => s
  | .safeStop => s
  | .powerDown => s

section
variable {s : State}

theorem dsvKey_on (h : s.dsv.mode.keyOn = true) : dsvKey s = dsvSettle s := by
  unfold dsvKey
  rw [if_pos h]

theorem dsvKey_off (h : s.dsv.mode.keyOn = false) : dsvKey s = dsvSettle (keyTurnedOff s) := by
  unfold dsvKey
  rw [if_neg (by rw [h]; exact Bool.false_ne_true)]
  rfl

theorem keyTurnedOff_settings (s : State) :
    (keyTurnedOff s).dsv.mode = s.dsv.mode ∧ (keyTurnedOff s).dsv.serviceMode = s.dsv.serviceMode := by
  unfold keyTurnedOff
  cases s.dsv.state <;> dsimp only
  case precharge => rw [abortPrecharge_dsv]; exact ⟨rfl, rfl⟩
  case faulted => split <;> exact ⟨rfl, rfl⟩
  all_goals exact ⟨rfl, rfl⟩

theorem dsvKey_settings (s : State) :
    (dsvKey s).dsv.mode = s.dsv.mode ∧ (dsvKey s).dsv.serviceMode = s.dsv.serviceMode := by
  cases h : s.dsv.mode.keyOn with
  | true =>
    obtain ⟨hm, hs, -⟩ := dsvSettle_settings s
    rw [dsvKey_on h]
    exact ⟨hm, hs⟩
  | false =>
    obtain ⟨hm, hs, -⟩ := dsvSettle_settings (keyTurnedOff s)
    obtain ⟨hm', hs'⟩ := keyTurnedOff_settings s
    rw [dsvKey_off h]
    exact ⟨hm.trans hm', hs.trans hs'⟩

theorem dsvTest_dsvKey (s : State) : dsvTest (dsvKey s) = dsvKey s := dsvTest_dsvSettle _

/-- A key OFF aborts PRECHARGE (R7). -/
theorem dsvKey_off_precharge (hkey : s.dsv.mode.keyOn = false) (h : s.dsv.state = .precharge) :
    dsvKey s = abortPrecharge s := by
  have hoff : keyTurnedOff s = abortPrecharge s := by
    unfold keyTurnedOff
    rw [h]
  rw [dsvKey_off hkey, hoff]
  exact dsvSettle_standby_stays (by rw [abortPrecharge_dsv]) (.inl (by rw [abortPrecharge_dsv]; exact hkey))

/-- A key OFF in READY enters POWER_DOWN (R8). -/
theorem dsvKey_off_ready (hkey : s.dsv.mode.keyOn = false) (h : s.dsv.state = .ready) :
    dsvKey s = enterPowerDown (setStopCause .keyOff s) := by
  have hoff : keyTurnedOff s = enterPowerDown (setStopCause .keyOff s) := by
    unfold keyTurnedOff
    rw [h]
  rw [dsvKey_off hkey, hoff]
  exact dsvSettle_waiting (.inr (.inl rfl))

/-- A key OFF in DRIVE and LIMP enters SAFE_STOP, or at rest POWER_DOWN (R9, R10). -/
theorem dsvKey_off_driving (hkey : s.dsv.mode.keyOn = false) (h : s.dsv.state = .drive ∨ s.dsv.state = .limp) :
    dsvKey s =
      if s.sns.roadSpeed < 10 then enterPowerDown (enterSafeStop (setStopCause .keyOff s))
      else enterSafeStop (setStopCause .keyOff s) := by
  have hoff : keyTurnedOff s = enterSafeStop (setStopCause .keyOff s) := by
    unfold keyTurnedOff
    rcases h with h | h <;> rw [h]
  rw [dsvKey_off hkey, hoff]
  exact dsvSettle_safeStop rfl

/-- A key OFF leaves FAULTED for STANDBY where the class allows it (R13). -/
theorem dsvKey_off_faulted (hkey : s.dsv.mode.keyOn = false) (h : s.dsv.state = .faulted) :
    dsvKey s = if s.faults.highest.rank < 3 then enterStandby s else s := by
  have hoff : keyTurnedOff s = if s.faults.highest.rank < 3 then enterStandby s else s := by
    unfold keyTurnedOff
    rw [h]
  rw [dsvKey_off hkey, hoff]
  split
  · exact dsvSettle_standby_stays rfl (.inl hkey)
  · exact dsvSettle_waiting (.inr (.inr h))

/-- In STANDBY, SAFE_STOP and POWER_DOWN the key itself moves nothing (R4, R10, R11). -/
theorem dsvKey_stopped (h : s.dsv.state = .standby ∨ s.dsv.state = .safeStop ∨ s.dsv.state = .powerDown) :
    dsvKey s = dsvSettle s := by
  cases hkey : s.dsv.mode.keyOn with
  | true => exact dsvKey_on hkey
  | false =>
    have hoff : keyTurnedOff s = s := by
      unfold keyTurnedOff
      rcases h with h | h | h <;> rw [h]
    rw [dsvKey_off hkey, hoff]

end

end Sys2Proof.Machine
end

section
/-! PROOF. The MODE take whole: the image, CPL on a key OFF, and the acknowledgement (R14, R15, R90, R157). -/

namespace Sys2Proof.Machine

open Sys2Proof

/-! ## The image -/

/-- DSV's image after a MODE take, before DSV acts on the key (R14, R15). -/
def modeStored (key : Bool) (perm : Permission) (target : Nat) (service : Bool) (s : State) : State :=
  setModeImage key perm (clampTarget s.dsv.limits target) (serviceAfter s service)
    (setServiceMode (serviceAfter s service) s)

section
variable (key : Bool) (perm : Permission) (target : Nat) (service : Bool) (s : State)

theorem modeStored_dsv :
    (modeStored key perm target service s).dsv =
      { s.dsv with
        mode :=
          { keyOn := key, permission := perm, socTarget := clampTarget s.dsv.limits target,
            service := serviceAfter s service, acknowledge := false },
        serviceMode := serviceAfter s service } := by
  unfold modeStored setModeImage setServiceMode
  split
  · rename_i h
    rw [withDsv_dsv, ← h]
  · rfl

theorem modeStored_rest : (modeStored key perm target service s).rest = s.rest := by
  unfold modeStored setModeImage setServiceMode
  split <;> rfl

theorem modeStored_faults : (modeStored key perm target service s).faults = s.faults := by
  unfold modeStored setModeImage setServiceMode
  split <;> rfl

theorem modeStored_sns : (modeStored key perm target service s).sns = s.sns :=
  sns_of_rest (modeStored_rest key perm target service s)

theorem modeStored_spl : (modeStored key perm target service s).spl = s.spl :=
  congrArg Rest.spl (modeStored_rest key perm target service s)

end

/-! ## CPL on a key OFF -/

/-- CPL's records after a key OFF (R90). -/
def keyOffCpl (c : Cpl) : Cpl :=
  { c with crankCount := 0, failureWait := 0, engine := if c.engine = .lockedOut then .off else c.engine }

theorem askClutchReport_faults (c : Cpl) (s : State) : (askClutchReport c s).faults = s.faults := by
  unfold askClutchReport
  split <;> rfl

theorem askClutchReport_cpl (c : Cpl) (s : State) : (askClutchReport c s).cpl = s.cpl := by
  unfold askClutchReport
  split <;> rfl

section
variable (s : State)

theorem cplKeyOff_free (h : s.cpl.engine ≠ .lockedOut) :
    cplKeyOff s = askClutchReport s.cpl (s.withCpl (keyOffCpl s.cpl)) := by
  have hc : ({ s.cpl with crankCount := 0, failureWait := 0 } : Cpl) = keyOffCpl s.cpl := by
    unfold keyOffCpl
    rw [if_neg h]
  unfold cplKeyOff
  dsimp only
  rw [if_neg (by exact h), hc]

theorem cplKeyOff_locked (h : s.cpl.engine = .lockedOut) :
    cplKeyOff s =
      askClutchReport s.cpl (clearFault .engineStartFailed (s.withCpl (keyOffCpl s.cpl))) := by
  have hc : ({ s.cpl with crankCount := 0, failureWait := 0, engine := .off } : Cpl) = keyOffCpl s.cpl := by
    unfold keyOffCpl
    rw [if_pos h]
  unfold cplKeyOff
  dsimp only
  rw [if_pos (by exact h), ← hc]
  rfl

theorem cplKeyOff_cpl : (cplKeyOff s).cpl = keyOffCpl s.cpl := by
  by_cases h : s.cpl.engine = .lockedOut
  · rw [cplKeyOff_locked s h, askClutchReport_cpl]
    exact congrArg Rest.cpl (clearFault_rest _ _)
  · rw [cplKeyOff_free s h, askClutchReport_cpl]
    rfl

/-- The end of a lock-out takes ENGINE_START_FAILED from ACTIVE (R90, R155). -/
theorem cplKeyOff_startFailed (h : s.cpl.engine = .lockedOut) :
    ((cplKeyOff s).faults.record .engineStartFailed).state ≠ .active := by
  rw [cplKeyOff_locked s h, askClutchReport_faults]
  exact clearFault_notActive _ _

/-- CPL's part of a key OFF leaves DSV as its tests left it. -/
theorem cplKeyOff_dsv (hfixed : dsvTest s = s) : (cplKeyOff s).dsv = s.dsv := by
  by_cases h : s.cpl.engine = .lockedOut
  · rw [cplKeyOff_locked s h, askClutchReport_dsv]
    cases hactive : (s.withCpl (keyOffCpl s.cpl)).faults.isActive .engineStartFailed with
    | false => rw [clearFault_inactive hactive]; rfl
    | true =>
      have hother (j : FaultKind) (hj : j ≠ .engineStartFailed) :
          (latchedFault .engineStartFailed (s.withCpl (keyOffCpl s.cpl))).faults.record j = s.faults.record j :=
        setRecord_record_other _ _ hj
      rw [clearFault_latches hactive]
      exact dsvSettle_dsv_fixed hfixed rfl rfl (FaultTable.highest_of_info rfl hother)
        (FaultTable.isActive_congr (hother _ (by decide))) rfl rfl
  · rw [cplKeyOff_free s h, askClutchReport_dsv]
    rfl

end

/-! ## The acknowledgement -/

theorem acknowledgeFaults_record (k : FaultKind) (s : State) :
    (acknowledgeFaults s).faults.record k = (s.faults.record k).acknowledge ∨
      ((acknowledgeFaults s).faults.record k = s.faults.record k ∧ (s.faults.record k).state ≠ .latched) := by
  unfold acknowledgeFaults
  split
  · rw [notifyFaults_faults]
    refine .inl ?_
    simp [FaultTable.record, Vector.get_eq_getElem]
  · rename_i h
    refine .inr ⟨rfl, fun hl => h ?_⟩
    exact List.any_eq_true.2 ⟨k, FaultKind.mem_all k, decide_eq_true hl⟩

theorem FaultRecord.acknowledge_state (r : FaultRecord) :
    r.acknowledge.state ≠ .latched ∧ (r.state ≠ .active → r.acknowledge.state ≠ .active) := by
  unfold FaultRecord.acknowledge
  split
  · exact ⟨RecordState.noConfusion, fun _ => RecordState.noConfusion⟩
  · rename_i h
    exact ⟨h, id⟩

/-- An acknowledgement leaves no record LATCHED, and turns none ACTIVE (R157). -/
theorem acknowledgeFaults_state (k : FaultKind) (s : State) :
    ((acknowledgeFaults s).faults.record k).state ≠ .latched ∧
      ((s.faults.record k).state ≠ .active → ((acknowledgeFaults s).faults.record k).state ≠ .active) := by
  rcases acknowledgeFaults_record k s with h | ⟨h, hl⟩
  · rw [h]
    exact (s.faults.record k).acknowledge_state
  · rw [h]
    exact ⟨hl, id⟩

/-! ## The take -/

section
variable (key : Bool) (perm : Permission) (target : Nat) (service ack : Bool) (s : State)

/-- The state after DSV and CPL acted on the key, before the acknowledgement. -/
def modeActed : State :=
  if key then dsvKey (modeStored key perm target service s)
  else cplKeyOff (dsvKey (modeStored key perm target service s))

theorem takeMode_eq :
    takeMode key perm target service ack s =
      if ack then acknowledgeFaults (modeActed key perm target service s) else modeActed key perm target service s := rfl

theorem takeMode_dsv :
    (takeMode key perm target service ack s).dsv = (dsvKey (modeStored key perm target service s)).dsv := by
  have hacted : (modeActed key perm target service s).dsv = (dsvKey (modeStored key perm target service s)).dsv := by
    unfold modeActed
    split
    · rfl
    · exact cplKeyOff_dsv _ (dsvTest_dsvKey _)
  rw [takeMode_eq, ← hacted]
  split
  · exact acknowledgeFaults_dsv _
  · rfl

theorem takeMode_cpl :
    (takeMode key perm target service ack s).cpl = if key then s.cpl else keyOffCpl s.cpl := by
  have hstored : (dsvKey (modeStored key perm target service s)).cpl = s.cpl :=
    congrArg Rest.cpl ((dsvKey_rest _).trans (modeStored_rest key perm target service s))
  have hacted : (modeActed key perm target service s).cpl = if key then s.cpl else keyOffCpl s.cpl := by
    unfold modeActed
    cases key with
    | true => exact hstored
    | false => exact (cplKeyOff_cpl _).trans (congrArg keyOffCpl hstored)
  rw [takeMode_eq, ← hacted]
  split
  · exact congrArg Rest.cpl (acknowledgeFaults_rest _)
  · rfl

/-- A key OFF that ends a lock-out leaves ENGINE_START_FAILED not ACTIVE (R90). -/
theorem takeMode_startFailed (h : s.cpl.engine = .lockedOut) :
    ((takeMode false perm target service ack s).faults.record .engineStartFailed).state ≠ .active := by
  have hstored : (dsvKey (modeStored false perm target service s)).cpl = s.cpl :=
    congrArg Rest.cpl ((dsvKey_rest _).trans (modeStored_rest false perm target service s))
  have hacted : ((modeActed false perm target service s).faults.record .engineStartFailed).state ≠ .active :=
    cplKeyOff_startFailed _ (by rw [hstored]; exact h)
  rw [takeMode_eq]
  split
  · exact (acknowledgeFaults_state _ _).2 hacted
  · exact hacted

end

end Sys2Proof.Machine
end

section
/-! PROOF. What DSV does on the key, and the answer to a MODE order (R4, R7 to R11, R13 to R15, R90, R157). -/

namespace Sys2Proof.Machine

open Sys2Proof

/-! ## Where the key moves nothing -/

/-- No cause of a transition holds for DSV acting on the key (R4, R7 to R11, R13). -/
def KeyHeld (s : State) : Prop :=
  match s.dsv.state with
  | .standby => s.dsv.mode.keyOn = false ∨ s.dsv.cooldownTimer ≠ none ∨ 3 ≤ s.faults.highest.rank
  | .precharge => s.dsv.mode.keyOn = true
  | .ready =>
    s.dsv.mode.keyOn = true ∧
      (s.spl.demand.direction = .neutral ∨ s.faults.isActive .configMissing = true ∨ 3 ≤ s.faults.highest.rank)
  | .drive =>
    s.dsv.mode.keyOn = true ∧ s.faults.highest.rank ≠ 2 ∧
      (s.spl.demand.direction ≠ .neutral ∨ 10 ≤ s.sns.roadSpeed)
  | .limp => s.dsv.mode.keyOn = true ∧ (2 ≤ s.faults.highest.rank ∨ 0 < s.spl.demand.accelerator)
  | .safeStop => 10 ≤ s.sns.roadSpeed
  | .powerDown => True
  | .faulted => s.dsv.mode.keyOn = true

theorem dsvKey_held {s : State} (h : KeyHeld s) : dsvKey s = s := by
  unfold KeyHeld at h
  cases hstate : s.dsv.state <;> rw [hstate] at h <;> dsimp only at h
  case standby => rw [dsvKey_stopped (.inl hstate), dsvSettle_standby_stays hstate h]
  case precharge => rw [dsvKey_on h, dsvSettle_waiting (.inl hstate)]
  case ready => rw [dsvKey_on h.1, dsvSettle_ready_stays hstate h.2]
  case drive =>
    obtain ⟨hkey, hrank, hbar⟩ := h
    rw [dsvKey_on hkey, dsvSettle_drive_stays hstate hrank hbar]
  case limp => rw [dsvKey_on h.1, dsvSettle_limp_stays hstate h.2]
  case safeStop => rw [dsvKey_stopped (.inr (.inl hstate)), dsvSettle_safeStop_stays hstate h]
  case powerDown => rw [dsvKey_stopped (.inr (.inr hstate)), dsvSettle_waiting (.inr (.inl hstate))]
  case faulted => rw [dsvKey_on h, dsvSettle_waiting (.inr (.inr hstate))]

/-! ## DSV's records after a MODE take -/

section
variable {key : Bool} (perm : Permission) (target : Nat) (service ack : Bool) {s : State}

/-- The image and service mode are kept as stored (R14, R15). -/
theorem takeMode_settings :
    (takeMode key perm target service ack s).dsv.mode =
        { keyOn := key, permission := perm, socTarget := clampTarget s.dsv.limits target,
          service := serviceAfter s service, acknowledge := false } ∧
      (takeMode key perm target service ack s).dsv.serviceMode = serviceAfter s service := by
  obtain ⟨hmode, hservice⟩ := dsvKey_settings (modeStored key perm target service s)
  rw [takeMode_dsv, hmode, hservice, modeStored_dsv]
  exact ⟨rfl, rfl⟩

/-- R4 at a MODE take. -/
theorem takeMode_standby (hkey : key = true) (h : s.dsv.state = .standby) (hcool : s.dsv.cooldownTimer = none)
    (hrank : s.faults.highest.rank < 3) :
    (takeMode key perm target service ack s).dsv = (enterPrecharge (modeStored key perm target service s)).dsv := by
  have hm := modeStored_dsv key perm target service s
  have hf := modeStored_faults key perm target service s
  rw [takeMode_dsv, dsvKey_on (by rw [hm]; exact hkey), dsvSettle_standby (by rw [hm]; exact h), if_pos]
  rw [hm, hf]
  exact ⟨hkey, hcool, hrank⟩

/-- R7 at a MODE take. -/
theorem takeMode_off_precharge (hkey : key = false) (h : s.dsv.state = .precharge) :
    (takeMode key perm target service ack s).dsv = (abortPrecharge (modeStored key perm target service s)).dsv := by
  have hm := modeStored_dsv key perm target service s
  rw [takeMode_dsv, dsvKey_off_precharge (by rw [hm]; exact hkey) (by rw [hm]; exact h)]

/-- R8 at a MODE take. -/
theorem takeMode_off_ready (hkey : key = false) (h : s.dsv.state = .ready) :
    (takeMode key perm target service ack s).dsv =
      (enterPowerDown (setStopCause .keyOff (modeStored key perm target service s))).dsv := by
  have hm := modeStored_dsv key perm target service s
  rw [takeMode_dsv, dsvKey_off_ready (by rw [hm]; exact hkey) (by rw [hm]; exact h)]

/-- R9 and R10 at a MODE take. -/
theorem takeMode_off_driving (hkey : key = false) (h : s.dsv.state = .drive ∨ s.dsv.state = .limp) :
    (takeMode key perm target service ack s).dsv.stopCause = .keyOff ∧
      (takeMode key perm target service ack s).dsv.state =
        if s.sns.roadSpeed < 10 then .powerDown else .safeStop := by
  have hm := modeStored_dsv key perm target service s
  rw [takeMode_dsv, dsvKey_off_driving (by rw [hm]; exact hkey) (by rw [hm]; exact h), modeStored_sns]
  split <;> exact ⟨rfl, rfl⟩

/-- R13 at a MODE take. -/
theorem takeMode_off_faulted (hkey : key = false) (h : s.dsv.state = .faulted) :
    (takeMode key perm target service ack s).dsv.state =
      if s.faults.highest.rank < 3 then .standby else .faulted := by
  have hm := modeStored_dsv key perm target service s
  have hstate : (modeStored key perm target service s).dsv.state = .faulted := by rw [hm]; exact h
  rw [takeMode_dsv, dsvKey_off_faulted (by rw [hm]; exact hkey) hstate, modeStored_faults]
  split
  · rfl
  · exact hstate

/-- Where the key moves nothing, a take changes the image and the service mode alone. -/
theorem takeMode_held (h : KeyHeld (modeStored key perm target service s)) :
    (takeMode key perm target service ack s).dsv =
      { s.dsv with
        mode := (takeMode key perm target service ack s).dsv.mode,
        serviceMode := (takeMode key perm target service ack s).dsv.serviceMode } := by
  rw [takeMode_dsv, dsvKey_held h, modeStored_dsv]

end

/-! ## The answer -/

theorem checkMode_refused {p : List Word} {s : State} (h : 1 < word p 0 ∨ 2 < word p 1 ∨ 1 < word p 3 ∨ 1 < word p 4) :
    checkMode p s = .refused .range := by
  have hnone : bitOfWord (p.getD 0 0) = none ∨ Permission.ofWord (p.getD 1 0) = none ∨ bitOfWord (p.getD 3 0) = none ∨
      bitOfWord (p.getD 4 0) = none := by
    rcases h with h | h | h | h
    · exact .inl (bitOfWord_none h)
    · exact .inr (.inl (Permission.ofWord_none h))
    · exact .inr (.inr (.inl (bitOfWord_none h)))
    · exact .inr (.inr (.inr (bitOfWord_none h)))
  unfold checkMode
  split
  · rename_i hkey hperm hservice hack
    rw [hkey, hperm, hservice, hack] at hnone
    simp at hnone
  · rfl

theorem checkMode_taken {p : List Word} {s : State} (h0 : word p 0 ≤ 1) (h1 : word p 1 ≤ 2) (h3 : word p 3 ≤ 1)
    (h4 : word p 4 ≤ 1) :
    checkMode p s =
      .taken
        { clampedFlag (decide (clampTarget s.dsv.limits (word p 2) ≠ word p 2)) with
          held := serviceHeld s (decide (word p 3 = 1)) }
        (takeMode (decide (word p 0 = 1))
          (if word p 1 = 0 then .allowed else if word p 1 = 1 then .quiet else .forceRun) (word p 2)
          (decide (word p 3 = 1)) (decide (word p 4 = 1)) s) := by
  unfold checkMode
  rw [bitOfWord_le h0, Permission.ofWord_le h1, bitOfWord_le h3, bitOfWord_le h4]
  rfl

theorem serviceHeld_eq (s : State) (q : Prop) [Decidable q] :
    serviceHeld s (decide q) = decide (q ∧ s.dsv.state ≠ .standby ∧ s.dsv.serviceMode = false) := by
  unfold serviceHeld
  cases s.dsv.serviceMode <;> simp

/-- The acknowledgement of a MODE order leaves no record LATCHED (R157). -/
theorem takeMode_acknowledged (key : Bool) (perm : Permission) (target : Nat) (service : Bool) (s : State)
    (k : FaultKind) : ((takeMode key perm target service true s).faults.record k).state ≠ .latched :=
  (acknowledgeFaults_state k _).1

/-- Settles O48, by DSV's action on the key in each state. -/
theorem modeTake : Obligations.ModeTake := by
  intro p s unmoved
  refine ⟨checkMode_refused, fun h0 h1 h3 h4 => ?_⟩
  generalize hperm : (if word p 1 = 0 then Permission.allowed else if word p 1 = 1 then .quiet else .forceRun) = perm
  have hcheck := checkMode_taken (s := s) h0 h1 h3 h4
  rw [hperm] at hcheck
  obtain ⟨hmode, hservice⟩ :=
    takeMode_settings (key := decide (word p 0 = 1)) (s := s) perm (word p 2) (decide (word p 3 = 1))
      (decide (word p 4 = 1))
  have hon (h : word p 0 = 1) : decide (word p 0 = 1) = true := decide_eq_true h
  have hoff (h : word p 0 = 0) : decide (word p 0 = 1) = false := decide_eq_false (by omega)
  refine ⟨_, _, hcheck, by rw [hmode], by rw [hmode], by rw [hmode]; rfl, by rw [hmode]; rfl, serviceHeld_eq s _,
    hservice, by rw [hmode], ?ack, ?precharge, ?abort, ?ready, ?driving, ?faulted, ?held, ?cplOn, ?cplOff⟩
  case ack =>
    intro h k
    rw [decide_eq_true h]
    exact takeMode_acknowledged _ _ _ _ s k
  case precharge =>
    intro h hs hcool hrank
    rw [takeMode_standby _ _ _ _ (hon h) hs hcool hrank]
    exact ⟨rfl, rfl, rfl, rfl⟩
  case abort =>
    intro h hs
    rw [takeMode_off_precharge _ _ _ _ (hoff h) hs, abortPrecharge_dsv]
    exact ⟨rfl, rfl, rfl, rfl, rfl, rfl⟩
  case ready =>
    intro h hs
    rw [takeMode_off_ready _ _ _ _ (hoff h) hs]
    exact ⟨rfl, rfl, rfl⟩
  case driving => exact fun h hs => takeMode_off_driving _ _ _ _ (hoff h) hs
  case faulted => exact fun h hs => takeMode_off_faulted _ _ _ _ (hoff h) hs
  case held =>
    intro h
    refine takeMode_held _ _ _ _ ?_
    unfold KeyHeld
    rw [modeStored_dsv, modeStored_faults, modeStored_sns, modeStored_spl]
    dsimp only
    cases hs : s.dsv.state <;> simp only [unmoved, hs] at h <;> dsimp only
    case standby => exact h.imp_left hoff
    case precharge => exact hon h
    case ready => exact h.imp_left hon
    case drive => exact h.imp_left hon
    case limp => exact h.imp_left hon
    case safeStop => exact h
    case faulted => exact hon h
  case cplOn =>
    intro h
    rw [takeMode_cpl, hon h]
    rfl
  case cplOff =>
    intro h
    rw [takeMode_cpl, hoff h]
    exact ⟨rfl, takeMode_startFailed _ _ _ _ s⟩

end Sys2Proof.Machine
end

section
/-! PROOF. The LIMITS take (R8, R14, R16, R36, R44, R53). -/

namespace Sys2Proof.Machine

open Sys2Proof

/-! ## The ranges -/

/-- The words of a payload from word n on lie in the given ranges (section 1.8). -/
def WordsWithin (p : List Word) (n : Nat) (ranges : List (Nat × Nat)) : Prop :=
  ∀ (i lo hi : Nat), ranges[i]? = some (lo, hi) → lo ≤ word p (n + i) ∧ word p (n + i) ≤ hi

theorem wordsWithin_nil (p : List Word) (n : Nat) : WordsWithin p n [] := by
  intro i lo hi h
  cases h

theorem wordsWithin_cons (p : List Word) (n lo hi : Nat) (ranges : List (Nat × Nat)) :
    WordsWithin p n ((lo, hi) :: ranges) ↔ (lo ≤ word p n ∧ word p n ≤ hi) ∧ WordsWithin p (n + 1) ranges := by
  constructor
  · intro h
    refine ⟨h 0 lo hi rfl, fun i lo' hi' hi => ?_⟩
    rw [Nat.add_assoc, Nat.add_comm 1 i]
    exact h (i + 1) lo' hi' hi
  · rintro ⟨hhead, htail⟩ i lo' hi' hi
    cases i with
    | zero =>
      cases hi
      exact hhead
    | succ i =>
      have h := htail i lo' hi' hi
      rwa [Nat.add_assoc, Nat.add_comm 1 i] at h

theorem wordsWithin_zero (p : List Word) (ranges : List (Nat × Nat)) :
    WordsWithin p 0 ranges ↔ ∀ (i lo hi : Nat), ranges[i]? = some (lo, hi) → lo ≤ word p i ∧ word p i ≤ hi := by
  unfold WordsWithin
  simp only [Nat.zero_add]

/-- The ranges of the 25 words of a LIMITS payload (section 1.8). -/
def limitRanges : List (Nat × Nat) :=
  [(100, 2000), (0, 2000), (100, 3500), (20, 400), (5, 200), (300, 1500), (400, 600), (40, 120), (0, 1000),
    (0, 1000), (0, 1000), (5, 100), (5, 100), (5, 100), (100, 2000), (500, 4000), (6000, 9800), (0, 100), (0, 255),
    (100, 600), (30, 300), (200, 800), (100, 1000), (30, 70), (40, 80)]

theorem within_iff {lo x hi : Nat} : within lo x hi = true ↔ lo ≤ x ∧ x ≤ hi := by
  simp [within]

/-- The content check of R16, word by word. -/
theorem limitsOf_inRange_iff (p : List Word) :
    (limitsOf p).inRange = true ↔
      WordsWithin p 0 limitRanges ∧ word p 8 + word p 9 + word p 10 = 1000 ∧ word p 15 + 2000 ≤ word p 16 := by
  unfold Limits.inRange limitsOf limitRanges
  simp only [Bool.and_eq_true, within_iff, decide_eq_true_eq, wordsWithin_cons, wordsWithin_nil, Nat.reduceAdd]
  constructor <;> intro h <;> simp only [h, and_self]

/-! ## DSV's settings under the fault table -/

theorem clearFault_settings (k : FaultKind) (s : State) :
    (clearFault k s).dsv.mode = s.dsv.mode ∧ (clearFault k s).dsv.limits = s.dsv.limits := by
  cases hactive : s.faults.isActive k with
  | false => rw [clearFault_inactive hactive]; exact ⟨rfl, rfl⟩
  | true =>
    obtain ⟨hmode, -, hlimits⟩ := dsvSettle_settings (latchedFault k s)
    rw [clearFault_latches hactive]
    exact ⟨hmode, hlimits⟩

/-- In STANDBY and READY a SAFE_STOP-class raising enters POWER_DOWN from READY where the class is new, and else moves nothing
(R4, R8). -/
theorem raiseFault_safeStop_resting {k : FaultKind} {s : State} (hk : k.reactionClass = .safeStop)
    (h : s.dsv.state = .standby ∨ s.dsv.state = .ready) :
    raiseFault k s =
      if s.dsv.state = .ready ∧ s.faults.highest.rank < 3 then
        enterPowerDown (setStopCause (.fault k) (raisedFault k s))
      else raisedFault k s := by
  have hrank : 3 ≤ (raisedFault k s).faults.highest.rank := by
    rw [raisedFault_highest, hk]
    exact le_max_of_le_right (by decide)
  split
  · rename_i hgo
    exact raiseFault_safeStop_ready hk hgo.2 hgo.1
  · rename_i hgo
    rw [raiseFault_safeStopClass s hk]
    rcases h with h | h
    · have hreact (b : Bool) : safeStopReaction k b (raisedFault k s) = raisedFault k s := by
        have h' : (raisedFault k s).dsv.state = .standby := h
        unfold safeStopReaction
        rw [h']
      rw [hreact, dsvSettle_standby_stays (s := raisedFault k s) h (.inr (.inr hrank))]
    · have hreact : safeStopReaction k false (raisedFault k s) = raisedFault k s := by
        have h' : (raisedFault k s).dsv.state = .ready := h
        unfold safeStopReaction
        rw [h']
        rfl
      rw [decide_eq_false (fun hlt => hgo ⟨h, hlt⟩), hreact,
        dsvSettle_ready_stays (s := raisedFault k s) h (.inr (.inr hrank))]

/-! ## The comparison of R53 at the take -/

section
variable {s : State}

theorem overtempAtTake_cases (h : s.dsv.state = .standby ∨ s.dsv.state = .ready) :
    overtempAtTake s = s ∨ overtempAtTake s = clearFault .packOvertemp s ∨
      overtempAtTake s = raisedFault .packOvertemp s ∨
      overtempAtTake s = enterPowerDown (setStopCause (.fault .packOvertemp) (raisedFault .packOvertemp s)) := by
  have hraise := raiseFault_safeStop_resting (k := .packOvertemp) rfl h
  unfold overtempAtTake overtempTest
  dsimp only
  split_ifs
  · exact .inl rfl
  · split at hraise
    · exact .inr (.inr (.inr hraise))
    · exact .inr (.inr (.inl hraise))
  · exact .inr (.inl rfl)
  · exact .inl rfl
  · exact .inl rfl

/-- What the comparison leaves at a take: DSV's settings, the counters and the log. -/
theorem overtempAtTake_keeps (h : s.dsv.state = .standby ∨ s.dsv.state = .ready) :
    (overtempAtTake s).dsv.mode = s.dsv.mode ∧ (overtempAtTake s).dsv.limits = s.dsv.limits ∧
      (overtempAtTake s).wear.counters = s.wear.counters ∧ (overtempAtTake s).log = s.log := by
  rcases overtempAtTake_cases h with ht | ht | ht | ht <;> rw [ht]
  · exact ⟨rfl, rfl, rfl, rfl⟩
  · obtain ⟨hmode, hlimits⟩ := clearFault_settings .packOvertemp s
    exact ⟨hmode, hlimits, clearFault_counters _ s, clearFault_log _ s⟩
  · exact ⟨rfl, rfl, rfl, rfl⟩
  · exact ⟨rfl, rfl, rfl, rfl⟩

theorem overtempAtTake_rest (s : State) : (overtempAtTake s).rest = s.rest := by
  unfold overtempAtTake
  split
  · exact overtempTest_rest s
  · rfl

theorem overtempAtTake_record_other {k : FaultKind} (h : k ≠ .packOvertemp) :
    (overtempAtTake s).faults.record k = s.faults.record k := by
  unfold overtempAtTake
  split
  · exact overtempTest_record_other s h
  · rfl

/-- Without a raising, READY without a configuration stays through the comparison (R8). -/
theorem overtempAtTake_ready (h : s.dsv.state = .ready) (hconfig : s.faults.isActive .configMissing = true)
    (hcool : s.sns.packLink.up = false ∨ s.ena.maxTemp < (s.dsv.limits.packAbsMax : Int)) :
    (overtempAtTake s).dsv.state = .ready := by
  have hclear : (clearFault .packOvertemp s).dsv.state = .ready := by
    cases hactive : s.faults.isActive .packOvertemp with
    | false => rw [clearFault_inactive hactive]; exact h
    | true =>
      have hbar : (latchedFault .packOvertemp s).faults.isActive .configMissing = true :=
        (FaultTable.isActive_congr (setRecord_record_other _ s (by decide))).trans hconfig
      rw [clearFault_latches hactive, dsvSettle_ready_stays (s := latchedFault .packOvertemp s) h (.inr (.inl hbar))]
      exact h
  unfold overtempAtTake
  split
  · rename_i hup
    rcases hcool with hdown | hcool
    · rw [hup] at hdown
      cases hdown
    · rcases overtempTest_below hcool with ht | ht <;> rw [ht]
      · exact h
      · exact hclear
  · exact h

end

/-! ## The take -/

theorem rescale_eq (capacity : Nat) (e : Ena) :
    rescale capacity e =
      { e with
        capacity := capacity,
        charge := if capacity = e.capacity then e.charge else e.soc * (capacity * 3600000) / 10000 } := by
  unfold rescale
  split
  · rename_i h
    rw [h]
  · rfl

/-- The limits in force at the comparison of a take (R16). -/
def limitsStored (l : Limits) (s : State) : State := s.withDsv { s.dsv with limits := l }

/-- The state of a take after the fault table's part, before S_t, the charge and the wheel constants (R16, R53). -/
def limitsTested (l : Limits) (s : State) : State := clearFault .configMissing (overtempAtTake (limitsStored l s))

section
variable (l : Limits) (s : State)

theorem takeLimits_eq :
    takeLimits l s =
      recomputeWheelConstants
        ((reclampTarget (limitsTested l s)).withEna (rescale l.capacity (reclampTarget (limitsTested l s)).ena)) := rfl

theorem limitsTested_rest : (limitsTested l s).rest = s.rest :=
  (clearFault_rest _ _).trans (overtempAtTake_rest _)

theorem limitsTested_keeps (h : s.dsv.state = .standby ∨ s.dsv.state = .ready) :
    (limitsTested l s).dsv.mode = s.dsv.mode ∧ (limitsTested l s).dsv.limits = l ∧
      (limitsTested l s).wear.counters = s.wear.counters ∧ (limitsTested l s).log = s.log := by
  obtain ⟨hmode, hlimits, hcounters, hlog⟩ := overtempAtTake_keeps (s := limitsStored l s) h
  obtain ⟨hmode', hlimits'⟩ := clearFault_settings .configMissing (overtempAtTake (limitsStored l s))
  exact ⟨hmode'.trans hmode, hlimits'.trans hlimits, (clearFault_counters _ _).trans hcounters,
    (clearFault_log _ _).trans hlog⟩

/-- CONFIG_MISSING is LATCHED by a take where it was ACTIVE (R16, R155). -/
theorem limitsTested_configMissing :
    (limitsTested l s).faults.record .configMissing =
      if s.faults.isActive .configMissing then { s.faults.record .configMissing with state := .latched }
      else s.faults.record .configMissing := by
  have hsame : (overtempAtTake (limitsStored l s)).faults.record .configMissing = s.faults.record .configMissing :=
    overtempAtTake_record_other (by decide)
  unfold limitsTested
  rw [clearFault_record_same, FaultTable.isActive_congr hsame, hsame]

theorem limitsTested_record_other {k : FaultKind} (hp : k ≠ .packOvertemp) (hc : k ≠ .configMissing) :
    (limitsTested l s).faults.record k = s.faults.record k :=
  (clearFault_record_other _ hc).trans (overtempAtTake_record_other hp)

/-- PACK_OVERTEMP after a take (R53). -/
theorem limitsTested_packOvertemp :
    (limitsTested l s).faults.record .packOvertemp =
      if s.sns.packLink.up then (overtempTest (limitsStored l s)).faults.record .packOvertemp
      else s.faults.record .packOvertemp := by
  refine (clearFault_record_other _ (by decide)).trans ?_
  unfold overtempAtTake
  exact apply_ite (fun t : State => t.faults.record .packOvertemp) _ _ _

/-- A raising at the take stops READY (R8). -/
theorem limitsTested_stops (h : s.dsv.state = .ready) (hup : s.sns.packLink.up = true)
    (hhot : (l.packAbsMax : Int) ≤ s.ena.maxTemp) (hnew : s.faults.isActive .packOvertemp = false)
    (hrank : s.faults.highest.rank < 3) :
    (limitsTested l s).dsv.state = .powerDown ∧ (limitsTested l s).dsv.stopCause = .fault .packOvertemp := by
  have htest : overtempAtTake (limitsStored l s) = raiseFault .packOvertemp (limitsStored l s) := by
    unfold overtempAtTake overtempTest
    rw [if_pos (by exact hup)]
    dsimp only
    rw [if_pos (by exact hhot), if_neg (by rw [show (limitsStored l s).faults = s.faults from rfl, hnew]; decide)]
  have hstops : overtempAtTake (limitsStored l s) =
      enterPowerDown (setStopCause (.fault .packOvertemp) (raisedFault .packOvertemp (limitsStored l s))) :=
    htest.trans (raiseFault_safeStop_ready (s := limitsStored l s) rfl hrank h)
  unfold limitsTested
  rw [hstops, clearFault_waiting_dsv _ (.inr (.inl rfl))]
  exact ⟨rfl, rfl⟩

/-- R8 after the clearing of CONFIG_MISSING. -/
theorem limitsTested_follows (hconfig : s.faults.isActive .configMissing = true)
    (hcool : s.sns.packLink.up = false ∨ s.ena.maxTemp < (l.packAbsMax : Int)) :
    ReadyFollows s (limitsTested l s) := by
  intro h
  have hready : (overtempAtTake (limitsStored l s)).dsv.state = .ready :=
    overtempAtTake_ready (s := limitsStored l s) h hconfig hcool
  have hrest := overtempAtTake_rest (limitsStored l s)
  have hactive : (overtempAtTake (limitsStored l s)).faults.isActive .configMissing = true :=
    (FaultTable.isActive_congr (overtempAtTake_record_other (s := limitsStored l s) (by decide))).trans hconfig
  have hroad : (overtempAtTake (limitsStored l s)).sns.roadSpeed = s.sns.roadSpeed :=
    (congrArg Sns.roadSpeed (sns_of_rest hrest)).trans rfl
  have hsettled : limitsTested l s = dsvSettle (latchedFault .configMissing (overtempAtTake (limitsStored l s))) :=
    clearFault_latches hactive
  rw [hsettled]
  generalize overtempAtTake (limitsStored l s) = x at hready hroad
  exact (follows_of_settled (s := s) (x := latchedFault .configMissing x) (hready.trans h.symm) hroad (dsvSettle_spl _)
    (dsvSettle_faults _) rfl rfl).2 h

/-- What a take stores (R14, R16, R36, R44). -/
theorem takeLimits_stores (h : s.dsv.state = .standby ∨ s.dsv.state = .ready) :
    (takeLimits l s).dsv.limits = l ∧
      (takeLimits l s).dsv.mode = { s.dsv.mode with socTarget := clampTarget l s.dsv.mode.socTarget } ∧
      (takeLimits l s).ena = rescale l.capacity s.ena ∧
      (takeLimits l s).sns =
        { s.sns with
          circ := circOf l.wheelRadius, toothConstant := toothConstantOf (circOf l.wheelRadius) l.wheelTeeth } ∧
      takeLimits l s = { s with
        dsv := (takeLimits l s).dsv, ena := (takeLimits l s).ena, sns := (takeLimits l s).sns,
        faults := (takeLimits l s).faults,
        wear := { s.wear with windowOpen := (takeLimits l s).wear.windowOpen }, exc := (takeLimits l s).exc,
        port := (takeLimits l s).port } := by
  obtain ⟨hmode, hlimits, hcounters, hlog⟩ := limitsTested_keeps l s h
  have hrest := limitsTested_rest l s
  rw [takeLimits_eq]
  generalize limitsTested l s = x at hmode hlimits hcounters hlog hrest
  have hena : x.ena = s.ena := congrArg Rest.ena hrest
  have hsns : x.sns = s.sns := sns_of_rest hrest
  refine ⟨hlimits, ?_, congrArg (rescale l.capacity) hena, ?_, ?_⟩
  · show ({ x.dsv.mode with socTarget := clampTarget x.dsv.limits x.dsv.mode.socTarget } : ModeImage) = _
    rw [hmode, hlimits]
  · show ({ x.sns with
      circ := circOf x.dsv.limits.wheelRadius,
      toothConstant := toothConstantOf (circOf x.dsv.limits.wheelRadius) x.dsv.limits.wheelTeeth } : Sns) = _
    rw [hsns, hlimits]
  · refine State.eq_of_fields ?_ rfl rfl (Wear.eq_of_counters hcounters) hlog rfl rfl
    exact congrArg (fun r : Rest => { r with
      ena := rescale l.capacity x.ena,
      sns := { x.sns with
        circ := circOf x.dsv.limits.wheelRadius,
        toothConstant := toothConstantOf (circOf x.dsv.limits.wheelRadius) x.dsv.limits.wheelTeeth } }) hrest

theorem takeLimits_faults : (takeLimits l s).faults = (limitsTested l s).faults := rfl

end

/-! ## The answer -/

section
variable {p : List Word} {s : State}

theorem checkLimits_state (h : s.dsv.state ≠ .standby) (h' : s.dsv.state ≠ .ready) : checkLimits p s = .refused .state := by
  unfold checkLimits
  rw [if_neg]
  rintro (hs | hs)
  · exact h hs
  · exact h' hs

theorem checkLimits_range (h : s.dsv.state = .standby ∨ s.dsv.state = .ready) (hr : (limitsOf p).inRange ≠ true) :
    checkLimits p s = .refused .range := by
  unfold checkLimits
  rw [if_pos h, if_neg hr]

theorem checkLimits_taken (h : s.dsv.state = .standby ∨ s.dsv.state = .ready) (hr : (limitsOf p).inRange = true) :
    checkLimits p s = .taken DetailFlags.none (takeLimits (limitsOf p) s) := by
  unfold checkLimits
  rw [if_pos h, if_pos hr]

end

end Sys2Proof.Machine
end

section
/-! PROOF. The answers to ENGINE_MAP, COMPENSATION and LOG_FILTER, and the four owners' checks (R47, R48, R73, R145). -/

namespace Sys2Proof.Machine

open Sys2Proof

/-! ## ENGINE_MAP -/

theorem speedsAscend_iff (ps : List MapPoint) :
    speedsAscend ps = true ↔ List.IsChain (fun a b : MapPoint => a.speed < b.speed) ps := by
  induction ps using speedsAscend.induct with
  | case1 => simp [speedsAscend]
  | case2 a => simp [speedsAscend]
  | case3 a b ps ih => simp [speedsAscend, ih]

/-- The point i of an ENGINE_MAP payload. -/
def mapPoint (p : List Word) (i : Nat) : MapPoint :=
  { speed := word p (1 + 3 * i), tOpt := word p (2 + 3 * i), tMax := word p (3 + 3 * i) }

theorem mapOf_eq (p : List Word) : mapOf p = (List.range (word p 0)).map (mapPoint p) := rfl

/-- The content check of R73, point by point. -/
theorem mapInRange_iff (p : List Word) :
    mapInRange p = true ↔
      (2 ≤ word p 0 ∧ word p 0 ≤ 12) ∧
        (∀ i, i < word p 0 → 600 ≤ (mapPoint p i).speed ∧ (mapPoint p i).speed ≤ 2400 ∧
          (mapPoint p i).tOpt ≤ (mapPoint p i).tMax ∧ (mapPoint p i).tMax ≤ 1500) ∧
        ∀ i, i + 1 < word p 0 → (mapPoint p i).speed < (mapPoint p (i + 1)).speed := by
  have hchain : speedsAscend (mapOf p) = true ↔
      ∀ i, i + 1 < word p 0 → (mapPoint p i).speed < (mapPoint p (i + 1)).speed := by
    rw [speedsAscend_iff, mapOf_eq, List.isChain_map, List.isChain_range]
    exact forall_congr' fun i => imp_congr_left (by omega)
  have hall : ((mapOf p).all fun m =>
      within 600 m.speed 2400 && decide (m.tOpt ≤ m.tMax) && decide (m.tMax ≤ 1500)) = true ↔
      ∀ i, i < word p 0 → 600 ≤ (mapPoint p i).speed ∧ (mapPoint p i).speed ≤ 2400 ∧
        (mapPoint p i).tOpt ≤ (mapPoint p i).tMax ∧ (mapPoint p i).tMax ≤ 1500 := by
    simp only [mapOf_eq, List.all_map, List.all_eq_true, List.mem_range, Function.comp, Bool.and_eq_true, within_iff,
      decide_eq_true_eq, and_assoc]
  unfold mapInRange
  rw [Bool.and_eq_true, Bool.and_eq_true, within_iff, hchain, hall, and_assoc, and_comm (a := ∀ i, i + 1 < word p 0 → _)]

section
variable {p : List Word} {s : State}

theorem checkEngineMap_state (h : s.cpl.coupling ≠ .opened) : checkEngineMap p s = .refused .state := by
  unfold checkEngineMap
  rw [if_neg h]

theorem checkEngineMap_range (h : s.cpl.coupling = .opened) (hr : mapInRange p ≠ true) :
    checkEngineMap p s = .refused .range := by
  unfold checkEngineMap
  rw [if_pos h, if_neg hr]

theorem checkEngineMap_taken (h : s.cpl.coupling = .opened) (hr : mapInRange p = true) :
    checkEngineMap p s =
      .taken DetailFlags.none (s.withSpl { s.spl with mapPoints := mapOf p, mapValid := true }) := by
  unfold checkEngineMap
  rw [if_pos h, if_pos hr]

end

/-! ## COMPENSATION -/

theorem trimsInRange_iff (p : List Word) :
    trimsInRange p = true ↔
      (-500 ≤ signedWord p 0 ∧ signedWord p 0 ≤ 500) ∧ -20000 ≤ signedWord p 1 ∧ signedWord p 1 ≤ 20000 := by
  simp [trimsInRange]

section
variable {p : List Word} {s : State}

theorem checkCompensation_present (h : 1 < word p 2) : checkCompensation p s = .refused .range := by
  unfold checkCompensation
  rw [bitOfWord_none h]

theorem checkCompensation_trims (h : trimsInRange p ≠ true) : checkCompensation p s = .refused .range := by
  unfold checkCompensation
  split
  · rfl
  · rw [if_pos (by rw [Bool.eq_false_iff.2 h]; rfl)]

/-- An order without a rest SOC replaces the trims alone (R47, R48). -/
theorem checkCompensation_absent (h : word p 2 = 0) (ht : trimsInRange p = true) :
    checkCompensation p s = .taken DetailFlags.none (setTrims p s) := by
  have hbit : bitOfWord (p.getD 2 0) = some false := (bitOfWord_le (by exact h.trans_le (by decide))).trans (by
    rw [show (p.getD 2 0).toNat = 0 from h]; rfl)
  unfold checkCompensation
  rw [hbit]
  simp [ht]

/-- An order with a rest SOC (R47, R48). -/
theorem checkCompensation_restSoc (h : word p 2 = 1) (ht : trimsInRange p = true) :
    checkCompensation p s =
      if 10000 < word p 3 then .refused .range
      else if s.ena.restTimer < 30 then .refused .notAtRest
      else
        .taken DetailFlags.none
          (clearFault .socUnknown ((setTrims p s).withEna (rebase (word p 3) (setTrims p s).ena))) := by
  have hbit : bitOfWord (p.getD 2 0) = some true := (bitOfWord_le (by exact h.le)).trans (by
    rw [show (p.getD 2 0).toNat = 1 from h]; rfl)
  unfold checkCompensation
  rw [hbit]
  simp [ht]

theorem checkCompensation_refused
    (h : 1 < word p 2 ∨ signedWord p 0 < -500 ∨ 500 < signedWord p 0 ∨ signedWord p 1 < -20000 ∨
      20000 < signedWord p 1 ∨ (word p 2 = 1 ∧ 10000 < word p 3)) : checkCompensation p s = .refused .range := by
  by_cases ht : trimsInRange p = true
  · rcases h with h | h | h | h | h | ⟨h, hsoc⟩
    · exact checkCompensation_present h
    · rw [trimsInRange_iff] at ht; omega
    · rw [trimsInRange_iff] at ht; omega
    · rw [trimsInRange_iff] at ht; omega
    · rw [trimsInRange_iff] at ht; omega
    · rw [checkCompensation_restSoc h ht, if_pos hsoc]
  · exact checkCompensation_trims ht

end

/-- The SOC after a rebase is the rest SOC (R42, R48). -/
theorem soc_of_rebase {restSoc capacity : Nat} (h : 0 < capacity) :
    restSoc * (capacity * 3600000) / 10000 * 10000 / (capacity * 3600000) = restSoc := by
  have hq : restSoc * (capacity * 3600000) = restSoc * (capacity * 360) * 10000 := by ring
  rw [hq, Nat.mul_div_cancel _ (by decide), ← hq, Nat.mul_div_cancel _ (by omega)]

/-! ## LOG_FILTER -/

theorem Severity.ofWord_code {w : Word} {m : Severity} (h : w.toNat = m.code) : Severity.ofWord w = some m := by
  unfold Severity.ofWord
  rw [h]
  cases m <;> rfl

theorem Severity.ofWord_none {w : Word} (h : 2 < w.toNat) : Severity.ofWord w = none := by
  unfold Severity.ofWord
  split
  case h_4 => rfl
  all_goals omega

theorem checkLogFilter_refused {p : List Word} {s : State} (h : 2 < word p 1) : checkLogFilter p s = .refused .range := by
  unfold checkLogFilter
  rw [Severity.ofWord_none h]

theorem checkLogFilter_taken {p : List Word} {s : State} {m : Severity} (h : word p 1 = m.code) :
    checkLogFilter p s =
      .taken DetailFlags.none { s with log := { s.log with filter := { mask := p.getD 0 0, minimum := m } } } := by
  unfold checkLogFilter
  rw [Severity.ofWord_code h]

/-! ## The four owners -/

/-- PACK_OVERTEMP at a LIMITS take (R53). -/
theorem takeLimits_packOvertemp (l : Limits) (s : State) :
    (s.sns.packLink.up = true → OvertempFollows s (takeLimits l s) l.packAbsMax s.ena.maxTemp) ∧
      (s.sns.packLink.up = false →
        (takeLimits l s).faults.record .packOvertemp = s.faults.record .packOvertemp) := by
  have hrecord := limitsTested_packOvertemp l s
  unfold OvertempFollows
  rw [takeLimits_faults, hrecord]
  refine ⟨fun hup => ?_, fun hdown => ?_⟩
  · rw [if_pos hup]
    exact overtempTest_record _
  · rw [hdown]
    rfl

section
variable (l : Limits) (s : State)

/-- The other records at a LIMITS take (R16). -/
theorem takeLimits_records :
    (takeLimits l s).faults.record .configMissing =
        (if s.faults.isActive .configMissing then { s.faults.record .configMissing with state := .latched }
        else s.faults.record .configMissing) ∧
      ∀ k : FaultKind, k ≠ .packOvertemp → k ≠ .configMissing →
        (takeLimits l s).faults.record k = s.faults.record k := by
  rw [takeLimits_faults]
  exact ⟨limitsTested_configMissing l s, fun k => limitsTested_record_other l s⟩

theorem takeLimits_dsv :
    (takeLimits l s).dsv =
      { (limitsTested l s).dsv with
        mode := { (limitsTested l s).dsv.mode with
          socTarget := clampTarget (limitsTested l s).dsv.limits (limitsTested l s).dsv.mode.socTarget } } := rfl

/-- The driveline state after a LIMITS take (R8). -/
theorem takeLimits_stops (h : s.dsv.state = .ready) (hup : s.sns.packLink.up = true)
    (hhot : (l.packAbsMax : Int) ≤ s.ena.maxTemp) (hnew : s.faults.isActive .packOvertemp = false)
    (hrank : s.faults.highest.rank < 3) :
    (takeLimits l s).dsv.state = .powerDown ∧ (takeLimits l s).dsv.stopCause = .fault .packOvertemp := by
  rw [takeLimits_dsv]
  exact limitsTested_stops l s h hup hhot hnew hrank

theorem takeLimits_follows (hconfig : s.faults.isActive .configMissing = true)
    (hcool : s.sns.packLink.up = false ∨ s.ena.maxTemp < (l.packAbsMax : Int)) : ReadyFollows s (takeLimits l s) := by
  have hspl : (takeLimits l s).spl = (limitsTested l s).spl := rfl
  have hwear : (takeLimits l s).wear = (limitsTested l s).wear := rfl
  unfold ReadyFollows
  rw [takeLimits_dsv, takeLimits_faults, hspl, hwear]
  exact limitsTested_follows l s hconfig hcool

end

/-- Settles O49, by the four owners' content checks and the takes' records. -/
theorem otherOwnersChecks : Obligations.OtherOwnersChecks := by
  intro p s
  refine ⟨checkLimits_state, fun h => ?limits, checkEngineMap_state, ?mapCount, ?mapPoints, checkCompensation_refused,
    ?rebased, ?notAtRest, ?trims, checkLogFilter_refused, fun m => checkLogFilter_taken⟩
  case limits =>
    intro ranges fits
    have hfits : (limitsOf p).inRange = true ↔ fits := by
      rw [limitsOf_inRange_iff, wordsWithin_zero]
      rfl
    refine ⟨fun hn => checkLimits_range h (mt hfits.1 hn), fun hf => ?_⟩
    obtain ⟨hlimits, hmode, hena, hsns, hframe⟩ := takeLimits_stores (limitsOf p) s h
    obtain ⟨hup, hdown⟩ := takeLimits_packOvertemp (limitsOf p) s
    obtain ⟨hconfig, hother⟩ := takeLimits_records (limitsOf p) s
    refine ⟨_, checkLimits_taken h (hfits.2 hf), hlimits, hmode, hena.trans (rescale_eq _ _), hsns, hup, hdown, hconfig,
      hother, takeLimits_stops (limitsOf p) s, fun hcool hmissing => takeLimits_follows _ s hmissing hcool, hframe⟩
  case mapCount =>
    intro h hcount
    refine checkEngineMap_range h fun hr => ?_
    obtain ⟨hwithin, -⟩ := (mapInRange_iff p).1 hr
    omega
  case mapPoints =>
    intro h hlow hhigh point fits
    have hfits : mapInRange p = true ↔ fits := by
      rw [mapInRange_iff]
      exact and_iff_right ⟨hlow, hhigh⟩
    exact ⟨fun hf => checkEngineMap_taken h (hfits.2 hf), fun hn => checkEngineMap_range h (mt hfits.1 hn)⟩
  case rebased =>
    intro hpresent htrims hsoc hrest
    have hcheck := checkCompensation_restSoc (s := s) hpresent htrims
    rw [if_neg (by omega), if_neg (by omega)] at hcheck
    have hkept := clearFault_rest .socUnknown ((setTrims p s).withEna (rebase (word p 3) (setTrims p s).ena))
    have hena := congrArg Rest.ena hkept
    refine ⟨_, hcheck, hena.trans rfl, fun hcapacity => ?_, clearFault_notActive _ _,
      fun k hk => clearFault_record_other _ hk, ?_⟩
    · exact (congrArg Ena.soc hena).trans (soc_of_rebase hcapacity)
    · refine State.eq_of_fields ?_ rfl rfl (Wear.eq_of_counters (clearFault_counters _ _)) (clearFault_log _ _) rfl rfl
      exact hkept.trans (congrArg (fun e : Ena => ({ s.rest with ena := e } : Rest)) hena.symm)
  case notAtRest =>
    intro hpresent htrims hsoc hrest
    rw [checkCompensation_restSoc hpresent htrims, if_neg (by omega), if_pos hrest]
  case trims => exact fun hpresent htrims => checkCompensation_absent hpresent htrims

end Sys2Proof.Machine
end

section
/-! PROOF. The output step: the choice of the target, the move of the issued torque and the complement (R23, R76 to R80, R114,
R115). -/

namespace Sys2Proof.Machine

open Sys2Proof

/-! ## What a blend frame leaves to the output step -/

theorem blendRest_trans {s t u : State} (h : t.rest = { s.rest with bbl := t.bbl })
    (k : u.rest = { t.rest with bbl := u.bbl }) : u.rest = { s.rest with bbl := u.bbl } := by
  rw [k, h]

theorem countFriction_rest (s : State) : (countFriction s).rest = { s.rest with bbl := (countFriction s).bbl } := by
  unfold countFriction
  split
  · simp [countFriction1, countFriction2, countFriction3, State.rest]
  · rfl

theorem slipEntry_rest (s : State) : (slipEntry s).rest = { s.rest with bbl := (slipEntry s).bbl } := by
  unfold slipEntry
  split_ifs <;> simp [State.rest]

theorem superviseSlip_rest (s : State) : (superviseSlip s).rest = { s.rest with bbl := (superviseSlip s).bbl } := by
  unfold superviseSlip
  dsimp only
  split
  · rfl
  · exact blendRest_trans rfl (slipEntry_rest _)

/-- A blend frame changes BBL's records alone of those outside the log, the wear monitor and DSV (R106). -/
theorem blendFrame_rest (s : State) : (blendFrame s).rest = { s.rest with bbl := (blendFrame s).bbl } :=
  blendRest_trans (countFriction_rest s)
    (blendRest_trans (blendRest_trans rfl (superviseSlip_rest ((countFriction s).withBbl
      (axleShares (countFriction s).spl.demand (countFriction s).dsv.limits (countFriction s).bbl)))) rfl)

/-- The state that the complement of an output step finds (R115). -/
def stepBase (blendFirst : Bool) (s : State) : State := if blendFirst then blendFrame s else s

theorem outputStep_eq (blendFirst : Bool) (s : State) :
    outputStep blendFirst s = issueTorque (outputTorque s) (stepBase blendFirst s) := rfl

theorem stepBase_rest (blendFirst : Bool) (s : State) :
    (stepBase blendFirst s).rest = { s.rest with bbl := (stepBase blendFirst s).bbl } := by
  cases blendFirst
  · rfl
  · exact blendFrame_rest s

theorem stepBase_dsv (blendFirst : Bool) (s : State) : (stepBase blendFirst s).dsv = s.dsv := by
  cases blendFirst
  · rfl
  · exact blendFrame_dsv s

/-! ## The target and the move -/

theorem torqueFlows_eq (st : DrivelineState) :
    st.torqueFlows = decide (st = .drive ∨ st = .limp ∨ st = .safeStop) := by
  cases st <;> rfl

/-- The target and the step mode of R77, told apart. -/
theorem chooseTarget_eq (s : State) :
    chooseTarget s =
      (let chosen : Int :=
        if s.bbl.recoveryActive then -(s.bbl.regenRequest : Int)
        else if 0 < s.spl.demand.brake ∨ s.dsv.state = .safeStop then 0 else s.spl.propulsionRequest
      (if s.bbl.slipHold then max chosen 0 else chosen,
        if s.bbl.slipHold then .slipRelease else if s.bbl.recoveryActive then .recovery else .propulsion)) := by
  have hasked : (if 0 < s.spl.demand.brake then ((0 : Int), StepMode.propulsion)
      else if s.dsv.state = .safeStop then (0, .propulsion) else (s.spl.propulsionRequest, .propulsion)) =
        (if 0 < s.spl.demand.brake ∨ s.dsv.state = .safeStop then 0 else s.spl.propulsionRequest, .propulsion) := by
    split_ifs <;> simp_all
  unfold chooseTarget
  rw [hasked]
  cases s.bbl.recoveryActive <;> cases s.bbl.slipHold <;> rfl

/-- The magnitude falls toward 0, toward the other sign, or toward a smaller magnitude of the same sign (R79). -/
theorem magnitudeFalls_iff (i t : Int) :
    magnitudeFalls i t = true ↔
      i ≠ 0 ∧ (t = 0 ∨ t.sign = -i.sign ∨ (t.sign = i.sign ∧ t.natAbs < i.natAbs)) := by
  unfold magnitudeFalls
  simp only [Bool.and_eq_true, Bool.or_eq_true, decide_eq_true_iff]
  rcases Int.lt_trichotomy i 0 with hi | rfl | hi
  · rcases Int.lt_trichotomy t 0 with ht | rfl | ht
    · rw [Int.sign_eq_neg_one_of_neg hi, Int.sign_eq_neg_one_of_neg ht]; omega
    · omega
    · rw [Int.sign_eq_neg_one_of_neg hi, Int.sign_eq_one_of_pos ht]; omega
  · simp
  · rcases Int.lt_trichotomy t 0 with ht | rfl | ht
    · rw [Int.sign_eq_one_of_pos hi, Int.sign_eq_neg_one_of_neg ht]; omega
    · omega
    · rw [Int.sign_eq_one_of_pos hi, Int.sign_eq_one_of_pos ht]; omega

theorem moveLimit_eq (slipHold : Bool) (i t : Int) (step : Nat) :
    moveLimit slipHold i t step =
      if slipHold = true ∧ i < 0 then 8 * (step : Int)
      else if i ≠ 0 ∧ (t = 0 ∨ t.sign = -i.sign ∨ (t.sign = i.sign ∧ t.natAbs < i.natAbs)) then 4 * (step : Int)
      else step := by
  unfold moveLimit
  simp only [Bool.and_eq_true, decide_eq_true_iff, magnitudeFalls_iff]

theorem availClamp_bounds (s : State) (x : Int) :
    -(s.spl.tGenAvail : Int) ≤ availClamp s x ∧ availClamp s x ≤ s.spl.tMotAvail := by
  unfold availClamp clamp
  omega

/-! ## The step -/

/-- TQA's records where torque may flow (R76 to R80). -/
theorem outputTorque_flows {s : State} (h : s.dsv.state.torqueFlows = true) :
    outputTorque s =
      { issued := availClamp s (moveTorque s.bbl.slipHold s.tqa.issued (availClamp s (chooseTarget s).1)
          s.dsv.limits.torqueStep),
        stepMode := (chooseTarget s).2 } := by
  unfold outputTorque
  rw [if_pos h]

theorem outputTorque_stopped {s : State} (h : s.dsv.state.torqueFlows = false) :
    outputTorque s = { issued := 0, stepMode := .disabled } := by
  unfold outputTorque
  rw [h]
  rfl

theorem outputTorque_bounds (s : State) :
    -(s.spl.tGenAvail : Int) ≤ (outputTorque s).issued ∧ (outputTorque s).issued ≤ s.spl.tMotAvail := by
  cases h : s.dsv.state.torqueFlows
  · rw [outputTorque_stopped h]
    dsimp only
    omega
  · rw [outputTorque_flows h]
    exact availClamp_bounds s _

theorem exec_outputStep {s : State} (blendFirst : Bool) (hrun : s.running = true) :
    exec (.outputStep blendFirst) s = .next (outputStep blendFirst s) :=
  congrArg Host.Outcome.next (whileRunning_runs _ hrun)

theorem exec_blendFrame {s : State} (hrun : s.running = true) : exec .blendFrame s = .next (blendFrame s) :=
  congrArg Host.Outcome.next (whileRunning_runs _ hrun)

theorem eq_stepBase {blendFirst : Bool} {s u : State} (hrun : s.running = true)
    (h : if blendFirst then exec .blendFrame s = .next u else u = s) : u = stepBase blendFirst s := by
  cases blendFirst
  · exact h
  · rw [if_pos rfl, exec_blendFrame hrun] at h
    exact (Host.Outcome.next.inj h).symm

/-- The complement answers the torque issued, by DSV's limits and SPL's last moving direction as they stand at the step
(R114, R115). -/
theorem outputStep_bbl (blendFirst : Bool) (s : State) :
    (outputStep blendFirst s).bbl =
      complementOf (stepBase blendFirst s).bbl s.spl.lastMoving (outputTorque s).issued s.dsv.limits := by
  rw [← stepBase_dsv blendFirst s, ← show (stepBase blendFirst s).spl = s.spl from congrArg Rest.spl (stepBase_rest _ s)]
  rfl

/-- The two messages of a step (R23, R27, R115). -/
theorem outputStep_sent (blendFirst : Bool) (s : State) :
    (outputStep blendFirst s).sent =
      blendRequestOf (outputStep blendFirst s).bbl ::
        (if s.dsv.state.torqueFlows then .torqueCommand (clamp (outputTorque s).issued (-3500) 3500) true
        else .torqueCommand 0 false) :: s.sent := by
  rw [← stepBase_dsv blendFirst s, ← show (stepBase blendFirst s).sent = s.sent from congrArg Rest.sent (stepBase_rest _ s)]
  rfl

/-- Settles O38, by the torque fixed before the step and the complement of the state that the blend frame, if any, left. -/
theorem outputStepIssuesAndComplements : Obligations.OutputStepIssuesAndComplements := by
  intro blendFirst s u hrun hu
  obtain rfl := eq_stepBase hrun hu
  obtain ⟨hlow, hhigh⟩ := outputTorque_bounds s
  intro flows avail chosen target i falls limit moved stopped
  have hflows : s.dsv.state.torqueFlows = flows := torqueFlows_eq _
  have hsent := outputStep_sent blendFirst s
  have hbbl := outputStep_bbl blendFirst s
  rw [hflows] at hsent
  have htarget : availClamp s (chooseTarget s).1 = target := by
    rw [chooseTarget_eq]
    rfl
  have hmoved : moveTorque s.bbl.slipHold i target s.dsv.limits.torqueStep = stopped := by
    unfold moveTorque
    rw [moveLimit_eq]
  refine ⟨_, exec_outputStep blendFirst hrun, ?issued, hlow, hhigh, ?mode, congrArg Bbl.motorForce hbbl, ?friction, ?pressure,
    ?sent, rfl⟩
  case issued =>
    show (outputTorque s).issued = _
    cases hf : flows
    · rw [outputTorque_stopped (hflows.trans hf)]
      rfl
    · rw [outputTorque_flows (hflows.trans hf), htarget, ← hmoved]
      rfl
  case mode =>
    show (outputTorque s).stepMode = _
    cases hf : flows
    · rw [outputTorque_stopped (hflows.trans hf)]
      rfl
    · rw [outputTorque_flows (hflows.trans hf), chooseTarget_eq]
      rfl
  case friction =>
    rw [hbbl]
    rfl
  case pressure =>
    rw [hbbl]
    rfl
  case sent =>
    rw [hsent, hbbl]
    rfl

end Sys2Proof.Machine
end

section
/-! PROOF. The sensor test of R35 for some wheels, one after the other: the flags, the raisings, and what it leaves as it was. -/

namespace Sys2Proof.Machine

open Sys2Proof

/-! ## Raisings of INFO class -/

theorem raiseFault_infoClass {k : FaultKind} (s : State) (hk : k.reactionClass = .info) :
    raiseFault k s = dsvSettle (raisedFault k s) := by
  unfold raiseFault dsvOnRaise
  rw [hk]
  rfl

theorem raiseFault_info_log {k : FaultKind} (s : State) (hk : k.reactionClass = .info) :
    (raiseFault k s).log = s.log := by
  rw [raiseFault_infoClass s hk, dsvSettle_log]
  rfl

theorem raiseFault_info_counters {k : FaultKind} (s : State) (hk : k.reactionClass = .info) :
    (raiseFault k s).wear.counters = s.wear.counters := by
  rw [raiseFault_infoClass s hk, dsvSettle_counters]
  rfl

/-- Several raisings of one kind at one time (R154). -/
theorem FaultRecord.raise_iterate (r : FaultRecord) (now : Nat) {n : Nat} (hn : 0 < n) :
    (fun q : FaultRecord => q.raise now)^[n] r =
      { state := .active, count := min (r.count + n) 255, first := if r.count = 0 then some now else r.first,
        last := some now } := by
  induction n with
  | zero => omega
  | succ n ih =>
    rw [Function.iterate_succ_apply']
    cases n with
    | zero => rfl
    | succ n =>
      rw [ih (Nat.succ_pos n)]
      unfold FaultRecord.raise
      dsimp only
      rw [if_neg (by omega : ¬min (r.count + (n + 1)) 255 = 0)]
      congr 1
      omega

/-! ## Wheels -/

theorem Sns.wheel_putAt_same (n : Sns) (u : Fin 6) (x : Wheel) :
    ({ n with wheels := putAt n.wheels u x } : Sns).wheel u = x := putAt_get_same _ _ _

theorem Sns.wheel_putAt_other (n : Sns) {u v : Fin 6} (x : Wheel) (h : v ≠ u) :
    ({ n with wheels := putAt n.wheels u x } : Sns).wheel v = n.wheel v := putAt_get_other _ _ h

theorem Sns.wheel_setWheel_same (n : Sns) (u : Fin 6) (x : Wheel) : (n.setWheel u x).wheel u = x := putAt_get_same _ _ _

theorem Sns.wheel_setWheel_other (n : Sns) {u v : Fin 6} (x : Wheel) (h : v ≠ u) :
    (n.setWheel u x).wheel v = n.wheel v := putAt_get_other _ _ h

/-- Whether an axle is fast depends on the speeds and validities alone (R35). -/
theorem fastBeside_congr {m n : Sns}
    (h : ∀ v, (m.wheel v).speed = (n.wheel v).speed ∧ (m.wheel v).valid = (n.wheel v).valid) (u : Fin 6) :
    fastBeside m u = fastBeside n u := by
  unfold fastBeside
  simp only [fun v => (h v).1, fun v => (h v).2]

theorem vRefOf_congr {l r l' r' : Wheel} (hl : l.speed = l'.speed ∧ l.valid = l'.valid)
    (hr : r.speed = r'.speed ∧ r.valid = r'.valid) : vRefOf l r = vRefOf l' r' := by
  unfold vRefOf
  rw [hl.1, hl.2, hr.1, hr.2]

theorem v3Of_congr {l r l' r' : Wheel} (hl : l.speed = l'.speed ∧ l.valid = l'.valid)
    (hr : r.speed = r'.speed ∧ r.valid = r'.valid) : v3Of l r = v3Of l' r' := by
  unfold v3Of
  rw [hl.1, hl.2, hr.1, hr.2]

theorem mem_sixWheels (u : Fin 6) : u ∈ ([0, 1, 2, 3, 4, 5] : List (Fin 6)) := by
  revert u
  decide

theorem Sns.anySensorFault_false_iff (n : Sns) :
    n.anySensorFault = false ↔ ∀ u, (n.wheel u).sensorFault = false := by
  unfold Sns.anySensorFault
  rw [List.any_eq_false]
  exact ⟨fun h u => Bool.eq_false_iff.2 (h u (mem_sixWheels u)), fun h u _ => Bool.eq_false_iff.1 (h u)⟩

/-! ## What the sensor tests leave as it was -/

/-- What the tests of R35, and a clearing report of WHEEL_SENSOR, leave as it was. -/
structure SensorTested (s t : State) : Prop where
  rest : t.rest = { s.rest with sns := { s.sns with wheels := t.sns.wheels } }
  speeds : ∀ u, (t.sns.wheel u).speed = (s.sns.wheel u).speed ∧ (t.sns.wheel u).valid = (s.sns.wheel u).valid
  counters : t.wear.counters = s.wear.counters
  log : t.log = s.log
  seconds : t.dsv.operatingSeconds = s.dsv.operatingSeconds
  records : ∀ k : FaultKind, k ≠ .wheelSensor → t.faults.record k = s.faults.record k

theorem SensorTested.refl (s : State) : SensorTested s s := ⟨rfl, fun _ => ⟨rfl, rfl⟩, rfl, rfl, rfl, fun _ _ => rfl⟩

theorem SensorTested.trans {s t u : State} (h : SensorTested s t) (k : SensorTested t u) : SensorTested s u := by
  refine ⟨?_, fun v => ⟨(k.speeds v).1.trans (h.speeds v).1, (k.speeds v).2.trans (h.speeds v).2⟩,
    k.counters.trans h.counters, k.log.trans h.log, k.seconds.trans h.seconds,
    fun j hj => (k.records j hj).trans (h.records j hj)⟩
  have hsns : t.sns = { s.sns with wheels := t.sns.wheels } := congrArg Rest.sns h.rest
  rw [k.rest, h.rest, hsns]

theorem SensorTested.sns {s t : State} (h : SensorTested s t) : t.sns = { s.sns with wheels := t.sns.wheels } :=
  congrArg Rest.sns h.rest

theorem SensorTested.frame {s t : State} (h : SensorTested s t) :
    t = { s with
      sns := { s.sns with wheels := t.sns.wheels }, dsv := t.dsv, faults := t.faults,
      wear := { s.wear with windowOpen := t.wear.windowOpen }, exc := t.exc, port := t.port } := by
  rw [← h.sns]
  refine eq_of_arrival ?_ h.counters h.log
  rw [h.rest, ← h.sns]

theorem SensorTested.fastBeside {s t : State} (h : SensorTested s t) (u : Fin 6) :
    fastBeside t.sns u = fastBeside s.sns u := fastBeside_congr h.speeds u

theorem clearFault_sensorTested (s : State) : SensorTested s (clearFault .wheelSensor s) := by
  have hsns : (clearFault .wheelSensor s).sns = s.sns := clearFault_sns _ s
  refine ⟨?_, fun u => by rw [hsns]; exact ⟨rfl, rfl⟩, clearFault_counters _ s, clearFault_log _ s,
    (clearFault_dsvKept _ s).2, fun k hk => clearFault_record_other s hk⟩
  rw [hsns]
  exact clearFault_rest _ s

/-! ## One test -/

/-- The test of R35 finds the wheel faulty. -/
def sensorFound (s : State) (u : Fin 6) : Bool :=
  (s.sns.wheel u).silent && !(s.sns.wheel u).sensorFault && fastBeside s.sns u

/-- The sensor-fault flag of a wheel set. -/
def sensorFlagged (u : Fin 6) (s : State) : State :=
  s.withSns { s.sns with wheels := putAt s.sns.wheels u { s.sns.wheel u with sensorFault := true } }

theorem sensorTest_eq (u : Fin 6) (s : State) :
    sensorTest u s = if sensorFound s u then raiseFault .wheelSensor (sensorFlagged u s) else s := by
  unfold sensorTest sensorFound
  dsimp only
  rw [otherAxleFast_eq]
  rfl

theorem sensorTest_quiet {u : Fin 6} {s : State} (h : sensorFound s u = false) : sensorTest u s = s := by
  rw [sensorTest_eq, h]
  rfl

theorem sensorTest_found {u : Fin 6} {s : State} (h : sensorFound s u = true) :
    sensorTest u s = raiseFault .wheelSensor (sensorFlagged u s) := by
  rw [sensorTest_eq, if_pos h]

theorem sensorFlagged_wheel (u v : Fin 6) (s : State) :
    (sensorFlagged u s).sns.wheel v =
      { s.sns.wheel v with sensorFault := (s.sns.wheel v).sensorFault || decide (v = u) } := by
  by_cases h : v = u
  · subst h
    simp [sensorFlagged, Sns.wheel_putAt_same]
  · simp [sensorFlagged, Sns.wheel_putAt_other _ _ h, h]

theorem sensorTest_tested (u : Fin 6) (s : State) : SensorTested s (sensorTest u s) := by
  cases h : sensorFound s u
  · rw [sensorTest_quiet h]
    exact SensorTested.refl s
  · rw [sensorTest_found h]
    refine ⟨?_, fun v => ?_, raiseFault_info_counters _ rfl, raiseFault_info_log _ rfl, (raiseFault_dsvKept _ _).2,
      fun k hk => raiseFault_record_other _ hk⟩
    · rw [raiseFault_rest, raiseFault_sns]
      rfl
    · rw [raiseFault_sns, sensorFlagged_wheel]
      exact ⟨rfl, rfl⟩

/-- The wheel's own flag is set where the test finds it faulty; the other wheels stay (R35). -/
theorem sensorTest_wheel (u v : Fin 6) (s : State) :
    (sensorTest u s).sns.wheel v =
      { s.sns.wheel v with
        sensorFault :=
          (s.sns.wheel v).sensorFault || (decide (v = u) && (s.sns.wheel v).silent && fastBeside s.sns v) } := by
  cases h : sensorFound s u
  · rw [sensorTest_quiet h]
    have hflag : ((s.sns.wheel v).sensorFault ||
        (decide (v = u) && (s.sns.wheel v).silent && fastBeside s.sns v)) = (s.sns.wheel v).sensorFault := by
      by_cases hv : v = u
      · subst hv
        unfold sensorFound at h
        cases hf : (s.sns.wheel v).sensorFault <;> simp_all
      · simp [hv]
    rw [hflag]
  · rw [sensorTest_found h, raiseFault_sns, sensorFlagged_wheel]
    by_cases hv : v = u
    · subst hv
      unfold sensorFound at h
      simp_all
    · simp [hv]

/-- A test raises WHEEL_SENSOR where it finds the wheel faulty (R35). -/
theorem sensorTest_record (u : Fin 6) (s : State) :
    (sensorTest u s).faults.record .wheelSensor =
      if sensorFound s u then (s.faults.record .wheelSensor).raise s.dsv.operatingSeconds
      else s.faults.record .wheelSensor := by
  rw [sensorTest_eq]
  split
  · exact raiseFault_record_same _ _
  · rfl

/-! ## The tests of some wheels -/

theorem sensorTests_tested (us : List (Fin 6)) (s : State) : SensorTested s (sensorTests us s) := by
  induction us generalizing s with
  | nil => exact SensorTested.refl s
  | cons u us ih => exact (sensorTest_tested u s).trans (ih _)

theorem sensorTests_wheel (us : List (Fin 6)) (v : Fin 6) (s : State) :
    (sensorTests us s).sns.wheel v =
      { s.sns.wheel v with
        sensorFault :=
          (s.sns.wheel v).sensorFault || (decide (v ∈ us) && (s.sns.wheel v).silent && fastBeside s.sns v) } := by
  induction us generalizing s with
  | nil => simp [sensorTests]
  | cons u us ih =>
    rw [sensorTests, ih, (sensorTest_tested u s).fastBeside, sensorTest_wheel]
    by_cases hu : v = u
    · subst hu
      cases hs : (s.sns.wheel v).silent <;> cases hf : fastBeside s.sns v <;> simp [hs]
    · simp [hu]

/-- The wheels tested later are found as before an earlier test (R35). -/
theorem sensorFound_sensorTest {u v : Fin 6} (s : State) (h : v ≠ u) : sensorFound (sensorTest u s) v = sensorFound s v := by
  unfold sensorFound
  rw [(sensorTest_tested u s).fastBeside, sensorTest_wheel]
  simp [h]

/-- WHEEL_SENSOR is raised once for each wheel found faulty (R35). -/
theorem sensorTests_record {us : List (Fin 6)} (hus : us.Nodup) (s : State) :
    (sensorTests us s).faults.record .wheelSensor =
      (fun r : FaultRecord => r.raise s.dsv.operatingSeconds)^[(us.filter (sensorFound s)).length]
        (s.faults.record .wheelSensor) := by
  induction us generalizing s with
  | nil => rfl
  | cons u us ih =>
    obtain ⟨hu, hus⟩ := List.nodup_cons.1 hus
    have hfilter : us.filter (sensorFound (sensorTest u s)) = us.filter (sensorFound s) :=
      List.filter_congr fun v hv => sensorFound_sensorTest s fun e => hu (e ▸ hv)
    rw [sensorTests, ih hus, hfilter, (sensorTest_tested u s).seconds, sensorTest_record]
    cases h : sensorFound s u
    · rw [List.filter_cons_of_neg (by simp [h])]
      rfl
    · rw [List.filter_cons_of_pos h, List.length_cons, Function.iterate_succ_apply]
      rfl

/-- Where no wheel is found faulty the tests change nothing. -/
theorem sensorTests_quiet {us : List (Fin 6)} {s : State} (h : ∀ u ∈ us, sensorFound s u = false) : sensorTests us s = s := by
  induction us with
  | nil => rfl
  | cons u us ih =>
    obtain ⟨hu, hus⟩ := List.forall_mem_cons.1 h
    rw [sensorTests, sensorTest_quiet hu, ih hus]

end Sys2Proof.Machine
end

section
/-! PROOF. A rising edge, a timer wrap and a silence expiry of a wheel (R32 to R35). -/

namespace Sys2Proof.Machine

open Sys2Proof

/-! ## The wheels tested when a wheel changes -/

/-- The wheels that a change of one wheel's record tests: the others, where the speed or the validity changed (R34, R35). -/
def testedWheels (i : Fin 6) (x : Wheel) (s : State) : List (Fin 6) :=
  if (s.sns.wheel i).speed = x.speed ∧ (s.sns.wheel i).valid = x.valid then [] else otherWheels i

/-- A wheel's record replaced, before the other wheels are tested. -/
def wheelReplaced (i : Fin 6) (x : Wheel) (s : State) : State := s.withSns (s.sns.setWheel i x)

section
variable (i : Fin 6) (x : Wheel) (s : State)

theorem updateWheel_eq : updateWheel i x s = sensorTests (testedWheels i x s) (wheelReplaced i x s) := by
  unfold updateWheel testedWheels
  dsimp only
  split <;> rfl

theorem mem_otherWheels {u : Fin 6} : u ∈ otherWheels i ↔ u ≠ i := by
  unfold otherWheels
  rw [List.mem_filter, decide_eq_true_iff]
  exact and_iff_right (mem_sixWheels u)

theorem mem_testedWheels {u : Fin 6} :
    u ∈ testedWheels i x s ↔
      u ≠ i ∧ (x.speed ≠ (s.sns.wheel i).speed ∨ x.valid ≠ (s.sns.wheel i).valid) := by
  unfold testedWheels
  split
  · rename_i h
    simp [h.1, h.2]
  · rename_i h
    rw [mem_otherWheels]
    exact (and_iff_left (by tauto)).symm

theorem decide_mem_testedWheels {u : Fin 6} (h : u ≠ i) :
    decide (u ∈ testedWheels i x s) =
      decide (x.speed ≠ (s.sns.wheel i).speed ∨ x.valid ≠ (s.sns.wheel i).valid) :=
  decide_eq_decide.2 ((mem_testedWheels i x s).trans (and_iff_right h))

theorem testedWheels_nodup : (testedWheels i x s).Nodup := by
  unfold testedWheels
  split
  · exact List.nodup_nil
  · exact List.Nodup.filter _ (by decide)

theorem wheelReplaced_wheel_same : (wheelReplaced i x s).sns.wheel i = x := Sns.wheel_setWheel_same _ _ _

theorem wheelReplaced_wheel_other {u : Fin 6} (h : u ≠ i) : (wheelReplaced i x s).sns.wheel u = s.sns.wheel u :=
  Sns.wheel_setWheel_other _ _ h

/-! ## A wheel changed, and the clearing report -/

/-- A wheel's record replaced, the other wheels tested, and WHEEL_SENSOR reported clear where the last set flag was the wheel's
own and is set no more (R34, R35). -/
def wheelChanged (i : Fin 6) (x : Wheel) (s : State) : State :=
  if (s.sns.wheel i).sensorFault && !(updateWheel i x s).sns.anySensorFault then clearFault .wheelSensor (updateWheel i x s)
  else updateWheel i x s

theorem edge_eq (capture : Word) :
    edge i capture s = wheelChanged i ((s.sns.wheel i).afterEdge capture s.sns.toothConstant) s := rfl

theorem updateWheel_tested : SensorTested (wheelReplaced i x s) (updateWheel i x s) := by
  rw [updateWheel_eq]
  exact sensorTests_tested _ _

theorem wheelChanged_sns : (wheelChanged i x s).sns = (updateWheel i x s).sns := by
  unfold wheelChanged
  split
  · exact clearFault_sns _ _
  · rfl

theorem wheelChanged_tested : SensorTested (wheelReplaced i x s) (wheelChanged i x s) := by
  unfold wheelChanged
  split
  · exact (updateWheel_tested i x s).trans (clearFault_sensorTested _)
  · exact updateWheel_tested i x s

theorem wheelChanged_wheel_same : (wheelChanged i x s).sns.wheel i = x := by
  have hnot : i ∉ testedWheels i x s := fun h => ((mem_testedWheels i x s).1 h).1 rfl
  rw [wheelChanged_sns, updateWheel_eq, sensorTests_wheel, wheelReplaced_wheel_same]
  simp [hnot]

theorem wheelChanged_fastBeside (u : Fin 6) :
    fastBeside (wheelChanged i x s).sns u = fastBeside (wheelReplaced i x s).sns u :=
  (wheelChanged_tested i x s).fastBeside u

theorem wheelChanged_wheel_other {u : Fin 6} (h : u ≠ i) :
    (wheelChanged i x s).sns.wheel u =
      { s.sns.wheel u with
        sensorFault :=
          (s.sns.wheel u).sensorFault ||
            (decide (x.speed ≠ (s.sns.wheel i).speed ∨ x.valid ≠ (s.sns.wheel i).valid) && (s.sns.wheel u).silent &&
              fastBeside (wheelChanged i x s).sns u) } := by
  rw [wheelChanged_fastBeside, wheelChanged_sns, updateWheel_eq, sensorTests_wheel, wheelReplaced_wheel_other i x s h,
    decide_mem_testedWheels i x s h]

/-! ## The axle speeds and the frame -/

theorem wheelChanged_axleSpeeds : AxleSpeedsFollow (wheelChanged i x s).sns := by
  have h := wheelChanged_tested i x s
  refine axleSpeeds_follow _ ?_ ?_
  · rw [vRefOf_congr (h.speeds 0) (h.speeds 1), h.sns]
    rfl
  · rw [v3Of_congr (h.speeds 4) (h.speeds 5), h.sns]
    rfl

theorem wheelChanged_frame :
    wheelChanged i x s =
      { s with
        sns := { s.sns with
          wheels := (wheelChanged i x s).sns.wheels, vRef := (wheelChanged i x s).sns.vRef,
          v3 := (wheelChanged i x s).sns.v3 },
        dsv := (wheelChanged i x s).dsv, faults := (wheelChanged i x s).faults,
        wear := { s.wear with windowOpen := (wheelChanged i x s).wear.windowOpen }, exc := (wheelChanged i x s).exc,
        port := (wheelChanged i x s).port } := by
  have h := wheelChanged_tested i x s
  have hsns : (wheelChanged i x s).sns =
      { s.sns with
        wheels := (wheelChanged i x s).sns.wheels, vRef := (wheelChanged i x s).sns.vRef,
        v3 := (wheelChanged i x s).sns.v3 } := by
    rw [h.sns]
    rfl
  rw [← hsns]
  refine eq_of_arrival ?_ h.counters h.log
  rw [h.rest, ← h.sns]
  rfl

/-! ## The raisings and the clearing report -/

theorem testedWheels_eq :
    testedWheels i x s = ([0, 1, 2, 3, 4, 5] : List (Fin 6)).filter fun u => decide (u ∈ testedWheels i x s) := by
  unfold testedWheels
  split
  · simp
  · exact List.filter_congr fun u _ => decide_eq_decide.2 (mem_otherWheels i).symm

/-- The flags set are those of the wheels that the tests find faulty (R35). -/
theorem wheelChanged_found (hflag : x.sensorFault = true → (s.sns.wheel i).sensorFault = true) :
    (([0, 1, 2, 3, 4, 5] : List (Fin 6)).filter fun u =>
        ((wheelChanged i x s).sns.wheel u).sensorFault && !(s.sns.wheel u).sensorFault) =
      (testedWheels i x s).filter (sensorFound (wheelReplaced i x s)) := by
  rw [testedWheels_eq, List.filter_filter]
  refine List.filter_congr fun u _ => ?_
  by_cases hu : u = i
  · subst hu
    have hnot : u ∉ testedWheels u x s := fun h => ((mem_testedWheels u x s).1 h).1 rfl
    rw [wheelChanged_wheel_same]
    cases hx : x.sensorFault <;> simp_all
  · rw [wheelChanged_wheel_other i x s hu, wheelChanged_fastBeside]
    unfold sensorFound
    rw [wheelReplaced_wheel_other i x s hu, decide_mem_testedWheels i x s hu]
    cases (s.sns.wheel u).sensorFault <;> simp [Bool.and_comm, Bool.and_left_comm]

theorem updateWheel_record :
    (updateWheel i x s).faults.record .wheelSensor =
      (fun r : FaultRecord => r.raise s.dsv.operatingSeconds)^[
        ((testedWheels i x s).filter (sensorFound (wheelReplaced i x s))).length] (s.faults.record .wheelSensor) := by
  rw [updateWheel_eq]
  exact sensorTests_record (testedWheels_nodup i x s) _

theorem updateWheel_quiet (h : (testedWheels i x s).filter (sensorFound (wheelReplaced i x s)) = []) :
    updateWheel i x s = wheelReplaced i x s := by
  rw [updateWheel_eq]
  exact sensorTests_quiet fun u hu => Bool.eq_false_iff.2 (List.filter_eq_nil_iff.1 h u hu)

end

/-- The flags, WHEEL_SENSOR and the other records after a change of a wheel that does not set its own flag (R35). -/
theorem wheelChanged_flags {w : WheelId} {x : Wheel} {s : State}
    (hflag : x.sensorFault = true → (s.sns.wheel (wheelNumber w)).sensorFault = true) :
    SensorFlagsFollow s (wheelChanged (wheelNumber w) x s) w := by
  have htested := wheelChanged_tested (wheelNumber w) x s
  have hrecord := updateWheel_record (wheelNumber w) x s
  have hquiet := updateWheel_quiet (wheelNumber w) x s
  rw [← wheelChanged_found _ _ _ hflag] at hrecord hquiet
  unfold SensorFlagsFollow
  intro i changed found lastCleared r
  have hcleared : ((s.sns.wheel i).sensorFault && !(updateWheel i x s).sns.anySensorFault) = true ↔ lastCleared := by
    rw [Bool.and_eq_true, Bool.not_eq_true', Sns.anySensorFault_false_iff, ← wheelChanged_sns]
  refine ⟨fun u hu => ?others, htested.records, fun hfound => ?raised, fun hfound hlast => ?latched,
    fun hfound hlast => ?kept⟩
  case others =>
    have hchanged : changed = decide (x.speed ≠ (s.sns.wheel i).speed ∨ x.valid ≠ (s.sns.wheel i).valid) := by
      rw [← wheelChanged_wheel_same i x s]
    rw [wheelChanged_wheel_other i x s hu, hchanged]
  case raised =>
    have hlast : ¬lastCleared := by
      rintro ⟨-, hnone⟩
      obtain ⟨u, hu⟩ := List.exists_mem_of_length_pos hfound
      rw [List.mem_filter, hnone u] at hu
      exact Bool.noConfusion hu.2
    unfold wheelChanged
    rw [if_neg (mt hcleared.1 hlast), hrecord]
    exact FaultRecord.raise_iterate r _ hfound
  case latched =>
    have hsame := hquiet (List.eq_nil_of_length_eq_zero hfound)
    unfold wheelChanged
    rw [if_pos (hcleared.2 hlast), hsame, clearFault_record_same]
    exact if_congr (FaultTable.isActive_iff _ _) rfl rfl
  case kept =>
    have hsame := hquiet (List.eq_nil_of_length_eq_zero hfound)
    unfold wheelChanged
    rw [if_neg (mt hcleared.1 hlast), hsame]
    exact ⟨rfl, rfl⟩

/-! ## The three events -/

theorem Wheel.afterEdge_first {x : Wheel} (capture : Word) (tooth : Nat) (h : x.havePrevious = false) :
    x.afterEdge capture tooth =
      { x with timer := capture, previous := capture, havePrevious := true, overflow := 0, silent := false } := by
  unfold Wheel.afterEdge
  simp [h]

theorem Wheel.afterEdge_speed {x : Wheel} (capture : Word) (tooth : Nat) (h : x.havePrevious = true) (ho : x.overflow < 2) :
    x.afterEdge capture tooth =
      { x with
        timer := capture, previous := capture, havePrevious := true, overflow := 0, silent := false,
        speed := min (tooth / periodOf capture x.previous x.overflow) 65535, valid := true, sensorFault := false } := by
  unfold Wheel.afterEdge
  simp [h, ho]

theorem Wheel.afterEdge_slow {x : Wheel} (capture : Word) (tooth : Nat) (h : x.havePrevious = true) (ho : 2 ≤ x.overflow) :
    x.afterEdge capture tooth =
      { x with
        timer := capture, previous := capture, havePrevious := true, overflow := 0, silent := false, speed := 0,
        valid := false } := by
  unfold Wheel.afterEdge
  simp [h, Nat.not_lt.2 ho]

/-- An edge never sets the wheel's own sensor-fault flag (R35). -/
theorem Wheel.afterEdge_flag {x : Wheel} {capture : Word} {tooth : Nat}
    (h : (x.afterEdge capture tooth).sensorFault = true) : x.sensorFault = true := by
  unfold Wheel.afterEdge at h
  dsimp only at h
  split_ifs at h <;> exact h

theorem Wheel.afterEdge_capture (x : Wheel) (capture : Word) (tooth : Nat) :
    (x.afterEdge capture tooth).previous = capture ∧ (x.afterEdge capture tooth).havePrevious = true ∧
      (x.afterEdge capture tooth).overflow = 0 ∧ (x.afterEdge capture tooth).silent = false := by
  unfold Wheel.afterEdge
  dsimp only
  split_ifs <;> exact ⟨rfl, rfl, rfl, rfl⟩

theorem exec_wheelEdge {w : WheelId} {capture : Word} {s : State} (hrun : s.running = true) :
    exec (.wheelEdge w capture) s = .next (edge (wheelNumber w) capture s) :=
  congrArg Host.Outcome.next (whileRunning_runs _ hrun)

/-- Settles O33, by the wheel's record after the edge and the change of the wheel. -/
theorem wheelEdgeFormsSpeed : Obligations.WheelEdgeFormsSpeed := by
  intro s w capture hrun hlog x period
  have hframe := (edge_kept (wheelNumber w) capture s).frame hlog
  refine ⟨_, exec_wheelEdge hrun, ?_⟩
  rw [edge_eq] at hframe ⊢
  rw [wheelChanged_wheel_same]
  obtain ⟨hprevious, hhave, hoverflow, hsilent⟩ := x.afterEdge_capture capture s.sns.toothConstant
  refine ⟨hprevious, hhave, hoverflow, hsilent, fun h => ?_, fun h ho => ?_, fun h ho => ?_,
    wheelChanged_flags Wheel.afterEdge_flag, wheelChanged_axleSpeeds _ _ _, wheelChanged_frame _ _ _, hframe⟩
  · rw [Wheel.afterEdge_first _ _ h]
    exact ⟨rfl, rfl, rfl⟩
  · rw [Wheel.afterEdge_speed _ _ h ho]
    exact ⟨rfl, rfl, rfl⟩
  · rw [Wheel.afterEdge_slow _ _ h ho]
    exact ⟨rfl, rfl, rfl⟩

theorem Wheel.afterWrap_eq (x : Wheel) :
    x.afterWrap =
      { x with
        timer := 0, overflow := min (x.overflow + 1) 2, speed := if x.overflow = 1 then 0 else x.speed,
        valid := if x.overflow = 1 then false else x.valid } := by
  unfold Wheel.afterWrap
  split <;> rfl

/-- A wrap leaves the wheel's own flag, so that it clears nothing (R32, R35). -/
theorem timerWrap_eq (i : Fin 6) (s : State) : timerWrap i s = wheelChanged i (s.sns.wheel i).afterWrap s := by
  unfold wheelChanged
  rw [if_neg]
  · rfl
  · rw [Bool.and_eq_true, Bool.not_eq_true', Sns.anySensorFault_false_iff, ← wheelChanged_sns]
    rintro ⟨hset, hnone⟩
    have hclear := hnone i
    rw [wheelChanged_wheel_same, Wheel.afterWrap_eq, hset] at hclear
    exact Bool.noConfusion hclear

theorem exec_wheelTimerWrap {w : WheelId} {s : State} (hrun : s.running = true) :
    exec (.wheelTimerWrap w) s = .next (timerWrap (wheelNumber w) s) :=
  congrArg Host.Outcome.next (whileRunning_runs _ hrun)

theorem exec_silenceTimerExpiry {w : WheelId} {s : State} (hrun : s.running = true) :
    exec (.silenceTimerExpiry w) s = .next (silenceExpiry (wheelNumber w) s) :=
  congrArg Host.Outcome.next (whileRunning_runs _ hrun)

/-- A wheel noted silent (R35). -/
def wheelSilenced (i : Fin 6) (s : State) : State :=
  s.withSns { s.sns with wheels := putAt s.sns.wheels i { s.sns.wheel i with silent := true } }

section
variable {i : Fin 6} {s : State}

theorem silenceExpiry_silent (h : (s.sns.wheel i).silent = true) : silenceExpiry i s = s := by
  unfold silenceExpiry
  rw [if_pos h]

theorem silenceExpiry_eq (h : (s.sns.wheel i).silent = false) : silenceExpiry i s = sensorTest i (wheelSilenced i s) := by
  unfold silenceExpiry
  rw [h]
  rfl

theorem wheelSilenced_wheel_same (i : Fin 6) (s : State) :
    (wheelSilenced i s).sns.wheel i = { s.sns.wheel i with silent := true } := Sns.wheel_putAt_same _ _ _

theorem wheelSilenced_wheel_other {u : Fin 6} (s : State) (h : u ≠ i) : (wheelSilenced i s).sns.wheel u = s.sns.wheel u :=
  Sns.wheel_putAt_other _ _ h

theorem wheelSilenced_speeds (i : Fin 6) (s : State) (u : Fin 6) :
    ((wheelSilenced i s).sns.wheel u).speed = (s.sns.wheel u).speed ∧
      ((wheelSilenced i s).sns.wheel u).valid = (s.sns.wheel u).valid := by
  by_cases hu : u = i
  · subst hu
    rw [wheelSilenced_wheel_same]
    exact ⟨rfl, rfl⟩
  · rw [wheelSilenced_wheel_other s hu]
    exact ⟨rfl, rfl⟩

theorem wheelSilenced_tested (i : Fin 6) (s : State) : SensorTested s (wheelSilenced i s) :=
  ⟨rfl, wheelSilenced_speeds i s, rfl, rfl, rfl, fun _ _ => rfl⟩

theorem silenceExpiry_tested (i : Fin 6) (s : State) : SensorTested s (silenceExpiry i s) := by
  cases h : (s.sns.wheel i).silent
  · rw [silenceExpiry_eq h]
    exact (wheelSilenced_tested i s).trans (sensorTest_tested i _)
  · rw [silenceExpiry_silent h]
    exact SensorTested.refl s

theorem wheelSilenced_fastBeside (i : Fin 6) (s : State) (u : Fin 6) :
    fastBeside (wheelSilenced i s).sns u = fastBeside s.sns u := (wheelSilenced_tested i s).fastBeside u

theorem sensorFound_wheelSilenced (i : Fin 6) (s : State) :
    sensorFound (wheelSilenced i s) i = (!(s.sns.wheel i).sensorFault && fastBeside s.sns i) := by
  unfold sensorFound
  rw [wheelSilenced_wheel_same, wheelSilenced_fastBeside]
  exact congrArg (· && _) (Bool.true_and _)

end

/-- Settles O34, by the change of the wheel at the wrap and the test of the silent wheel at the expiry. -/
theorem wheelWrapAndSilence : Obligations.WheelWrapAndSilence := by
  intro s w hrun hlog
  dsimp only
  refine ⟨⟨_, exec_wheelTimerWrap hrun, ?wrapped, ?flags, ?axles, ?frame, (timerWrap_kept _ s).frame hlog⟩,
    ⟨_, exec_silenceTimerExpiry hrun, silenceExpiry_silent, fun h => ?silenced, fun u hu => ?others,
      fun h hflag hfast => ?raised, ?records, fun h => ?quiet, ?silence, (silenceExpiry_kept _ s).frame hlog⟩⟩
  case wrapped => rw [timerWrap_eq, wheelChanged_wheel_same, Wheel.afterWrap_eq]
  case flags =>
    rw [timerWrap_eq]
    exact wheelChanged_flags fun h => by rwa [Wheel.afterWrap_eq] at h
  case axles =>
    rw [timerWrap_eq]
    exact wheelChanged_axleSpeeds _ _ _
  case frame =>
    rw [timerWrap_eq]
    exact wheelChanged_frame _ _ _
  case silenced =>
    rw [silenceExpiry_eq h, sensorTest_wheel, wheelSilenced_wheel_same, wheelSilenced_fastBeside]
    simp
  case others =>
    by_cases h : (s.sns.wheel (wheelNumber w)).silent = true
    · rw [silenceExpiry_silent h]
    · rw [silenceExpiry_eq (Bool.eq_false_iff.2 h), sensorTest_wheel, wheelSilenced_wheel_other s hu]
      simp [hu]
  case raised =>
    rw [silenceExpiry_eq h, sensorTest_record, sensorFound_wheelSilenced, hflag, hfast]
    rfl
  case records =>
    intro k hk
    exact (silenceExpiry_tested _ s).records k hk
  case quiet =>
    by_cases hsilent : (s.sns.wheel (wheelNumber w)).silent = true
    · rw [silenceExpiry_silent hsilent]
    · have hfound : sensorFound (wheelSilenced (wheelNumber w) s) (wheelNumber w) = false := by
        rw [sensorFound_wheelSilenced]
        rcases h with h | h <;> simp [h]
      rw [silenceExpiry_eq (Bool.eq_false_iff.2 hsilent), sensorTest_quiet hfound]
      rfl
  case silence => exact (silenceExpiry_tested _ s).frame

end Sys2Proof.Machine
end

section
/-! PROOF. The CPL frame step by step: what each step leaves as it was, the slip energy and the engine request (R83, R100, R102,
R103). -/

namespace Sys2Proof.Machine

open Sys2Proof

/-! ## Several increment requests -/

theorem wearIncrements_counter_other {c d : Counter} (n : Nat) (s : State) (h : d ≠ c) :
    (wearIncrements c n s).counter d = s.counter d := by
  induction n generalizing s with
  | zero => rfl
  | succ n ih => rw [wearIncrements, ih, wearIncrement_counter_other _ _ h]

theorem wearIncrements_value {c : Counter} (n : Nat) {s : State} (h : (s.counter c).value ≤ 4294967295) :
    ((wearIncrements c n s).counter c).value = min ((s.counter c).value + n) 4294967295 := by
  induction n generalizing s with
  | zero => exact (Nat.min_eq_left h).symm
  | succ n ih =>
    have hone := wearIncrement_value false c s
    rw [wearIncrements, ih (hone ▸ Nat.min_le_right _ _), hone]
    omega

/-! ## Steps that change CPL's records -/

/-- A step of the frame changes CPL's records alone of those outside the log, the wear monitor and the fault table. -/
def CplRest (s t : State) : Prop := t.rest = { s.rest with cpl := t.cpl }

theorem CplRest.trans {s t u : State} (h : CplRest s t) (k : CplRest t u) : CplRest s u := by
  unfold CplRest at *
  rw [k, h]

theorem withCpl_rest (c : Cpl) (s : State) : CplRest s (s.withCpl c) := rfl

theorem CplRest.of_rest {s t : State} (h : t.rest = s.rest) : CplRest s t := by
  have hcpl : t.cpl = s.cpl := congrArg Rest.cpl h
  unfold CplRest
  rw [h, hcpl]
  rfl

theorem CplRest.sns {s t : State} (h : CplRest s t) : t.sns = s.sns := congrArg Rest.sns h

theorem CplRest.spl {s t : State} (h : CplRest s t) : t.spl = s.spl := congrArg Rest.spl h

theorem CplRest.sent {s t : State} (h : CplRest s t) : t.sent = s.sent := congrArg Rest.sent h

theorem CplRest.speedError {s t : State} (h : CplRest s t) : t.speedError = s.speedError := by
  unfold State.speedError State.shaftMagnitude
  rw [h.sns]

section
variable (s : State)

/-! ## Slip energy (R103) -/

/-- The frame counts slip energy (R103). -/
def slipCounts (s : State) : Bool :=
  s.cpl.coupling.pressed && s.sns.engineLink.up && decide (20 < s.speedError.natAbs)

/-- The slip energy with the remainder (R103). -/
def slipTotal (s : State) : Nat := s.cpl.slipRemainder + s.sns.engineTorque.natAbs * s.speedError.natAbs

theorem countSlip_idle (h : slipCounts s = false) : countSlip s = s := by
  unfold countSlip
  exact if_neg (Bool.eq_false_iff.1 h)

theorem countSlip_counts (h : slipCounts s = true) :
    countSlip s =
      wearIncrements w3 (slipTotal s / 954930) (s.withCpl { s.cpl with slipRemainder := slipTotal s % 954930 }) := by
  unfold countSlip
  exact if_pos h

theorem countSlip_rest : CplRest s (countSlip s) := by
  cases h : slipCounts s
  · rw [countSlip_idle s h]
    rfl
  · rw [countSlip_counts s h]
    exact (withCpl_rest _ s).trans (.of_rest (wearIncrements_rest _ _ _))

theorem countSlip_cpl :
    (countSlip s).cpl =
      { s.cpl with slipRemainder := if slipCounts s then slipTotal s % 954930 else s.cpl.slipRemainder } := by
  cases h : slipCounts s
  · rw [countSlip_idle s h]
    rfl
  · rw [countSlip_counts s h, wearIncrements_cpl]
    rfl

theorem countSlip_counter_other {c : Counter} (h : c ≠ w3) : (countSlip s).counter c = s.counter c := by
  cases hc : slipCounts s
  · rw [countSlip_idle s hc]
  · rw [countSlip_counts s hc, wearIncrements_counter_other _ _ h]
    rfl

theorem countSlip_w3 (h : slipCounts s = true) (hv : (s.counter w3).value ≤ 4294967295) :
    ((countSlip s).counter w3).value = min ((s.counter w3).value + slipTotal s / 954930) 4294967295 := by
  rw [countSlip_counts s h]
  exact wearIncrements_value _ hv

/-! ## Steps 1 to 7 -/

/-- CPL's records at the start of step 5: the delays counted down and the slip energy counted (R83, R103). -/
def slipCounted (s : State) : State := countSlip (s.withCpl (stepDelays s.cpl))

/-- CPL's records after steps 6 and 7, from those that step 5 left (R83). -/
def wantedCpl (s : State) : Cpl :=
  { formWant s (overspeedTest s.shaftMagnitude s.cpl) with
    frameEngineSpeed := s.sns.engineSpeed, frameSpeedError := s.speedError }

theorem cplFrameWant_eq : cplFrameWant s = (stallTest (slipCounted s)).withCpl (wantedCpl (stallTest (slipCounted s))) := rfl

/-- The engine is found stalled (R91). -/
def stalls (s : State) : Prop := s.cpl.engine = .running ∧ s.sns.engineLink.up ∧ s.sns.engineSpeed < 400

theorem stallTest_idle (h : ¬stalls s) : stallTest s = s := if_neg h

theorem stallTest_stalls (h : stalls s) :
    stallTest s =
      logNow .engineStall none (some (s.sns.engineSpeed : Int))
        (momentaryFault .engineStall (s.withCpl { openAtOnce s.cpl with engine := .off, stallBlock := 500 })) := if_pos h

theorem stallTest_rest : CplRest s (stallTest s) := by
  by_cases h : stalls s
  · rw [stallTest_stalls s h]
    exact (withCpl_rest _ s).trans (.of_rest (by rw [logNow_rest, momentaryFault_rest]))
  · rw [stallTest_idle s h]
    rfl

theorem stallTest_wear : (stallTest s).wear = s.wear := by
  by_cases h : stalls s
  · rw [stallTest_stalls s h, logNow_wear, momentaryFault_wear]
    rfl
  · rw [stallTest_idle s h]

theorem stallTest_slipRemainder : (stallTest s).cpl.slipRemainder = s.cpl.slipRemainder := by
  by_cases h : stalls s
  · rw [stallTest_stalls s h, logNow_cpl, momentaryFault_cpl]
    rfl
  · rw [stallTest_idle s h]

theorem slipCounted_rest : CplRest s (slipCounted s) := (withCpl_rest _ s).trans (countSlip_rest _)

theorem cplFrameWant_rest : CplRest s (cplFrameWant s) :=
  (slipCounted_rest s).trans ((stallTest_rest _).trans (withCpl_rest _ _))

theorem overspeedTest_eq (n : Nat) (c : Cpl) :
    overspeedTest n c =
      { c with
        position := (overspeedTest n c).position, coupling := (overspeedTest n c).coupling,
        sync := (overspeedTest n c).sync } := by
  unfold overspeedTest
  split <;> rfl

theorem formWant_eq (c : Cpl) :
    formWant s c =
      { c with
        countdown := (formWant s c).countdown, surplusRun := (formWant s c).surplusRun, wantOn := (formWant s c).wantOn } := by
  unfold formWant holdCountdown
  dsimp only
  split_ifs <;> rfl

theorem wantedCpl_eq :
    wantedCpl s =
      { overspeedTest s.shaftMagnitude s.cpl with
        countdown := (wantedCpl s).countdown, surplusRun := (wantedCpl s).surplusRun, wantOn := (wantedCpl s).wantOn,
        frameEngineSpeed := s.sns.engineSpeed, frameSpeedError := s.speedError } := by
  unfold wantedCpl
  rw [formWant_eq]

theorem cplFrameWant_slipRemainder : (cplFrameWant s).cpl.slipRemainder = (slipCounted s).cpl.slipRemainder := by
  rw [cplFrameWant_eq, withCpl_cpl, wantedCpl_eq, overspeedTest_eq]
  exact stallTest_slipRemainder _

theorem cplFrameWant_wear : (cplFrameWant s).wear = (slipCounted s).wear := stallTest_wear _

/-! ## Step 8 -/

/-- What step 8 may change of CPL's records (R93 to R99). -/
def CouplingMoved (c d : Cpl) : Prop :=
  d = { c with
    coupling := d.coupling, sync := d.sync, position := d.position, syncTimer := d.syncTimer, lockRun := d.lockRun,
    retryDelay := d.retryDelay, speedRequest := d.speedRequest }

theorem couplingMoved_rampClosed {c d : Cpl} (step : Nat) (h : CouplingMoved c d) : CouplingMoved c (rampClosed step d) := by
  unfold rampClosed
  split <;> (unfold CouplingMoved; rw [h])

theorem couplingMoved_rampOpen (c : Cpl) : CouplingMoved c (rampOpen c) := by
  unfold rampOpen
  split <;> rfl

/-- What step 8 does: CPL's records alone, or with them a SYNC_TIMEOUT (R93 to R99). -/
def CouplingStep (s t : State) : Prop :=
  ∃ c, CouplingMoved s.cpl c ∧
    (t = s.withCpl c ∨
      ∃ e : Int, t = logNow .syncTimeout none (some e) (momentaryFault .syncTimeout (s.withCpl c)))

theorem CouplingStep.stay : CouplingStep s s := ⟨s.cpl, rfl, .inl rfl⟩

variable {s} in
theorem CouplingStep.move {c : Cpl} (h : CouplingMoved s.cpl c) : CouplingStep s (s.withCpl c) := ⟨c, h, .inl rfl⟩

variable {s} in
theorem CouplingStep.timeout {c : Cpl} (e : Int) (h : CouplingMoved s.cpl c) :
    CouplingStep s (logNow .syncTimeout none (some e) (momentaryFault .syncTimeout (s.withCpl c))) :=
  ⟨c, h, .inr ⟨e, rfl⟩⟩

theorem stepSyncing_cases : CouplingStep s (stepSyncing s) := by
  unfold stepSyncing
  dsimp only
  split
  · exact .move rfl
  · split
    · exact .move (couplingMoved_rampClosed _ rfl)
    · split
      · exact .timeout _ rfl
      · exact .move rfl

theorem stepClosing_cases : CouplingStep s (stepClosing s) := by
  unfold stepClosing
  dsimp only
  split
  · refine .move ?_
    unfold CouplingMoved
    rw [couplingMoved_rampOpen s.cpl]
  · split
    · exact .move (couplingMoved_rampOpen _)
    · exact .move (couplingMoved_rampClosed _ rfl)

theorem moveCoupling_cases : CouplingStep s (moveCoupling s) := by
  unfold moveCoupling
  cases s.cpl.coupling
  case opened =>
    dsimp only
    split
    · exact .move rfl
    · exact .stay s
  case syncing => exact stepSyncing_cases s
  case closing => exact stepClosing_cases s
  case coupled =>
    dsimp only
    split
    · exact .move (couplingMoved_rampOpen _)
    · exact .stay s
  case opening => exact .move (couplingMoved_rampOpen _)

theorem moveCoupling_rest : CplRest s (moveCoupling s) := by
  obtain ⟨c, -, h | ⟨e, h⟩⟩ := moveCoupling_cases s
  · rw [h]
    rfl
  · rw [h]
    exact (withCpl_rest c s).trans (.of_rest (by rw [logNow_rest, momentaryFault_rest]))

theorem moveCoupling_wear : (moveCoupling s).wear = s.wear := by
  obtain ⟨c, -, h | ⟨e, h⟩⟩ := moveCoupling_cases s
  · rw [h]
    rfl
  · rw [h, logNow_wear, momentaryFault_wear]
    rfl

theorem moveCoupling_moved : CouplingMoved s.cpl (moveCoupling s).cpl := by
  obtain ⟨c, hc, h | ⟨e, h⟩⟩ := moveCoupling_cases s
  · rw [h]
    exact hc
  · rw [h, logNow_cpl, momentaryFault_cpl]
    exact hc

/-! ## Step 9 -/

/-- What step 9 may change of CPL's records (R87 to R92). -/
def EngineMoved (c d : Cpl) : Prop :=
  d = { c with
    engine := d.engine, crankCount := d.crankCount, crankTimer := d.crankTimer, failureWait := d.failureWait,
    stopTimer := d.stopTimer }

/-- What step 9 does: CPL's records alone, or with them a count of W4 or ENGINE_START_FAILED (R87 to R92). -/
def EngineStep (s t : State) : Prop :=
  ∃ c, EngineMoved s.cpl c ∧
    (t = s.withCpl c ∨ t = wearIncrement false w4 (s.withCpl c) ∨
      t = logNow .startFailed none (some 3) (raiseFault .engineStartFailed (s.withCpl c)))

theorem EngineStep.stay : EngineStep s s := ⟨s.cpl, rfl, .inl rfl⟩

variable {s} in
theorem EngineStep.move {c : Cpl} (h : EngineMoved s.cpl c) : EngineStep s (s.withCpl c) := ⟨c, h, .inl rfl⟩

variable {s} in
theorem EngineStep.crank {c : Cpl} (h : EngineMoved s.cpl c) : EngineStep s (wearIncrement false w4 (s.withCpl c)) :=
  ⟨c, h, .inr (.inl rfl)⟩

variable {s} in
theorem EngineStep.lockOut {c : Cpl} (h : EngineMoved s.cpl c) :
    EngineStep s (logNow .startFailed none (some 3) (raiseFault .engineStartFailed (s.withCpl c))) :=
  ⟨c, h, .inr (.inr rfl)⟩

theorem stepCranking_cases : EngineStep s (stepCranking s) := by
  unfold stepCranking
  dsimp only
  split
  · exact .move rfl
  · split
    · exact .move rfl
    · split
      · split
        · exact .move rfl
        · exact .lockOut rfl
      · exact .move rfl

theorem moveEngine_cases : EngineStep s (moveEngine s) := by
  unfold moveEngine
  cases s.cpl.engine
  case off =>
    dsimp only
    unfold stepOff
    dsimp only
    split
    · exact .crank rfl
    · exact .stay s
  case cranking => exact stepCranking_cases s
  case running =>
    dsimp only
    split
    · exact .move rfl
    · exact .stay s
  case stopping =>
    dsimp only
    unfold stepStopping
    dsimp only
    split
    · exact .move rfl
    · exact .move rfl
  case lockedOut => exact .stay s

theorem moveEngine_rest : CplRest s (moveEngine s) := by
  obtain ⟨c, -, h | h | h⟩ := moveEngine_cases s
  · rw [h]
    rfl
  · rw [h]
    exact (withCpl_rest c s).trans (.of_rest (wearIncrement_rest _ _ _))
  · rw [h]
    exact (withCpl_rest c s).trans (.of_rest (by rw [logNow_rest, raiseFault_rest]))

theorem moveEngine_counter_other {d : Counter} (hd : d ≠ w4) : (moveEngine s).counter d = s.counter d := by
  obtain ⟨c, -, h | h | h⟩ := moveEngine_cases s
  · rw [h]
    rfl
  · rw [h, wearIncrement_counter_other _ _ hd]
    rfl
  · unfold State.counter
    rw [h, logNow_wear, raiseFault_info_counters _ rfl]
    rfl

theorem moveEngine_moved : EngineMoved s.cpl (moveEngine s).cpl := by
  obtain ⟨c, hc, h | h | h⟩ := moveEngine_cases s
  · rw [h]
    exact hc
  · rw [h, wearIncrement_cpl]
    exact hc
  · rw [h, logNow_cpl, raiseFault_cpl]
    exact hc

theorem moveEngine_running (h : s.cpl.engine = .running) :
    moveEngine s =
      if s.cpl.wantOn = false ∧ s.cpl.coupling = .opened then
        s.withCpl { s.cpl with engine := .stopping, stopTimer := 0 }
      else s := by
  unfold moveEngine
  rw [h]

/-! ## The frame -/

/-- The state after step 9 (R83). -/
def cplMoved (s : State) : State := moveEngine (moveCoupling (cplFrameWant s))

theorem cplFrame_eq : cplFrame s = askClutchReport s.cpl (sendEngineRequest (cplMoved s)) := rfl

theorem cplMoved_rest : CplRest s (cplMoved s) :=
  (cplFrameWant_rest s).trans ((moveCoupling_rest _).trans (moveEngine_rest _))

theorem sendEngineRequest_wear : (sendEngineRequest s).wear = s.wear := rfl

theorem sendEngineRequest_log : (sendEngineRequest s).log = s.log := rfl

theorem sendEngineRequest_faults : (sendEngineRequest s).faults = s.faults := rfl

theorem sendEngineRequest_cpl : (sendEngineRequest s).cpl = { s.cpl with lastMode := (engineRequestOf s).1 } := rfl

theorem sendEngineRequest_sent :
    (sendEngineRequest s).sent =
      .engineRequest (engineRequestOf s).1 (engineRequestOf s).2.1 (engineRequestOf s).2.2 :: s.sent := rfl

theorem sendEngineRequest_rest :
    (sendEngineRequest s).rest =
      { s.rest with cpl := (sendEngineRequest s).cpl, sent := (sendEngineRequest s).sent } := rfl

theorem askClutchReport_rest (c : Cpl) : (askClutchReport c s).rest = s.rest := by
  unfold askClutchReport
  split <;> rfl

theorem askClutchReport_wear (c : Cpl) : (askClutchReport c s).wear = s.wear := by
  unfold askClutchReport
  split <;> rfl

theorem askClutchReport_log (c : Cpl) : (askClutchReport c s).log = s.log := by
  unfold askClutchReport
  split <;> rfl

theorem cplFrame_cpl : (cplFrame s).cpl = { (cplMoved s).cpl with lastMode := (engineRequestOf (cplMoved s)).1 } := by
  rw [cplFrame_eq, askClutchReport_cpl, sendEngineRequest_cpl]

theorem cplFrame_counter (c : Counter) : (cplFrame s).counter c = (cplMoved s).counter c := by
  unfold State.counter
  rw [cplFrame_eq, askClutchReport_wear, sendEngineRequest_wear]

theorem cplFrame_sent :
    (cplFrame s).sent =
      .engineRequest (engineRequestOf (cplMoved s)).1 (engineRequestOf (cplMoved s)).2.1 (engineRequestOf (cplMoved s)).2.2 ::
        s.sent := by
  have hsent : (cplFrame s).sent = (sendEngineRequest (cplMoved s)).sent := congrArg Rest.sent (askClutchReport_rest _ _)
  rw [hsent, sendEngineRequest_sent, (cplMoved_rest s).sent]

theorem cplFrame_rest : (cplFrame s).rest = { s.rest with cpl := (cplFrame s).cpl, sent := (cplFrame s).sent } := by
  rw [cplFrame_cpl, cplFrame_sent, cplFrame_eq, askClutchReport_rest, sendEngineRequest_rest, sendEngineRequest_cpl,
    sendEngineRequest_sent, (cplMoved_rest s).sent, cplMoved_rest s]

/-- The records that no step after the third changes: n_eng and e of the frame, and the slip remainder that step 4 left. -/
theorem cplFrame_formed :
    (cplFrame s).cpl.frameEngineSpeed = s.sns.engineSpeed ∧ (cplFrame s).cpl.frameSpeedError = s.speedError ∧
      (cplFrame s).cpl.slipRemainder = (slipCounted s).cpl.slipRemainder := by
  have hstalled : CplRest s (stallTest (slipCounted s)) := (slipCounted_rest s).trans (stallTest_rest _)
  have hwant : (cplFrameWant s).cpl.frameEngineSpeed = s.sns.engineSpeed ∧
      (cplFrameWant s).cpl.frameSpeedError = s.speedError :=
    ⟨congrArg Sns.engineSpeed hstalled.sns, hstalled.speedError⟩
  rw [cplFrame_cpl]
  unfold cplMoved
  rw [moveEngine_moved, moveCoupling_moved]
  exact ⟨hwant.1, hwant.2, cplFrameWant_slipRemainder s⟩

end

end Sys2Proof.Machine
end

section
/-! PROOF. The CPL frame with the engine RUNNING: the speed match, the ramps, the fast open and the stop, case by case (R92 to
R100). -/

namespace Sys2Proof.Machine

open Sys2Proof

/-! ## The frame's counters -/

section
variable (s : State)

theorem cplFrame_counter_slip {c : Counter} (h : c ≠ w4) : (cplFrame s).counter c = (slipCounted s).counter c := by
  rw [cplFrame_counter]
  unfold cplMoved
  rw [moveEngine_counter_other _ h]
  unfold State.counter
  rw [moveCoupling_wear, cplFrameWant_wear]

/-- The slip energy of the frame is that of R103. -/
theorem cplFrame_slip : SlipCounted s (cplFrame s) := by
  obtain ⟨-, -, hremainder⟩ := cplFrame_formed s
  unfold SlipCounted
  intro e counts total
  have hcounts : slipCounts (s.withCpl (stepDelays s.cpl)) = counts := by
    show (s.cpl.coupling.pressed && _ && _) = _
    have hpressed : s.cpl.coupling.pressed =
        decide (s.cpl.coupling = .closing ∨ s.cpl.coupling = .coupled ∨ s.cpl.coupling = .opening) := by
      cases s.cpl.coupling <;> rfl
    rw [hpressed]
    rfl
  have hcpl := congrArg Cpl.slipRemainder (countSlip_cpl (s.withCpl (stepDelays s.cpl)))
  refine ⟨fun h => ⟨?_, fun hv => ?_⟩, fun h => ⟨?_, ?_⟩, fun c h3 h4 => ?_⟩
  · rw [hremainder]
    unfold slipCounted
    rw [hcpl, hcounts, h]
    rfl
  · rw [cplFrame_counter_slip s (by decide)]
    exact countSlip_w3 _ (hcounts.trans h) hv
  · rw [hremainder]
    unfold slipCounted
    rw [hcpl, hcounts, h]
    rfl
  · rw [cplFrame_counter_slip s (by decide)]
    unfold slipCounted
    rw [countSlip_idle _ (hcounts.trans h)]
    rfl
  · rw [cplFrame_counter_slip s h4]
    exact countSlip_counter_other _ h3

/-- The request follows engine and coupling state as the frame left them (R25, R102). -/
theorem engineRequestOf_cplMoved :
    engineRequestOf (cplMoved s) =
      match (cplFrame s).cpl.engine with
      | .off | .stopping | .lockedOut => (EngineMode.stop, 0, 0)
      | .cranking => (.start, 0, 0)
      | .running =>
        match (cplFrame s).cpl.coupling with
        | .opened => (.idle, 0, 0)
        | .syncing | .closing => (.speed, 0, min (cplFrame s).cpl.speedRequest 3000)
        | .coupled => (.torque, (clamp s.spl.engineRequest 0 1500).toNat, 0)
        | .opening => (.torque, 0, 0) := by
  rw [cplFrame_cpl]
  unfold engineRequestOf
  rw [(cplMoved_rest s).spl]
  dsimp only
  cases (cplMoved s).cpl.engine
  case running => cases (cplMoved s).cpl.coupling <;> rfl
  all_goals rfl

end

/-! ## The conditions of step 8 -/

theorem drives_eq (st : DrivelineState) : st.drives = decide (st = .drive ∨ st = .limp) := by
  cases st <;> rfl

section
variable {w : State} {c : Cpl}

/-- The reasons to decouple, by the records they are read from (R98). -/
theorem decouple_eq :
    decouple w c =
      (decide (0 < w.spl.demand.brake ∨ w.sns.shaftSpeed.natAbs < 650) || !c.wantOn || !w.sns.engineLink.up ||
        !decide (w.dsv.state = .drive ∨ w.dsv.state = .limp) || !decide (w.spl.demand.direction = .forward)) := by
  unfold decouple State.shaftMagnitude
  rw [drives_eq, decide_not, Bool.decide_or (0 < w.spl.demand.brake)]

/-- The conditions of a coupling request of a RUNNING engine (R93). -/
theorem couplingWanted_eq (h : c.engine = .running) :
    couplingWanted w c =
      (c.wantOn && w.spl.mapValid && decide (w.spl.demand.direction = .forward) &&
        decide (w.dsv.state = .drive ∨ w.dsv.state = .limp) && w.sns.engineLink.up &&
        decide (700 ≤ w.sns.shaftSpeed.natAbs ∧ w.sns.shaftSpeed.natAbs ≤ 2400 ∧ w.spl.demand.brake = 0 ∧
          c.retryDelay = 0)) := by
  unfold couplingWanted State.shaftMagnitude
  rw [h, drives_eq]
  simp only [decide_true, Bool.true_and, Bool.decide_and, Bool.and_assoc, Bool.and_left_comm, Bool.and_comm]

end

/-! ## Step 8, case by case -/

/-- Coupling state, sub-mode, position command and retry delay. -/
def CouplingIs (c : Cpl) (st : CouplingState) (m : SyncMode) (position delay : Nat) : Prop :=
  c.coupling = st ∧ c.sync = m ∧ c.position = position ∧ c.retryDelay = delay

theorem rampClosed_eq (step : Nat) (c : Cpl) :
    rampClosed step c =
      { c with
        position := (rampClosed step c).position, coupling := (rampClosed step c).coupling, sync := .none } := by
  unfold rampClosed
  split <;> rfl

theorem rampOpen_eq (c : Cpl) :
    rampOpen c = { c with position := (rampOpen c).position, coupling := (rampOpen c).coupling, sync := .none } := by
  unfold rampOpen
  split <;> rfl

/-- CPL's records after one closing step from those of a state (R97). -/
def Closes (w : State) (c : Cpl) : Prop :=
  c.speedRequest = trackRequest w ∧
    if 1000 ≤ w.cpl.position + closingStep w.dsv.limits.clutchFill then
      CouplingIs c .coupled .none 1000 w.cpl.retryDelay
    else CouplingIs c .closing .none (w.cpl.position + closingStep w.dsv.limits.clutchFill) w.cpl.retryDelay

/-- CPL's records after one opening step from those of a state (R99). -/
def Opens (w : State) (c : Cpl) (delay : Nat) : Prop :=
  if w.cpl.position ≤ 100 then CouplingIs c .opened .none 0 delay
  else CouplingIs c .opening .none (w.cpl.position - 100) delay

theorem closes_rampClosed {w : State} {c : Cpl} (hposition : c.position = w.cpl.position)
    (hdelay : c.retryDelay = w.cpl.retryDelay) (hrequest : c.speedRequest = trackRequest w) :
    Closes w (rampClosed (closingStep w.dsv.limits.clutchFill) c) := by
  unfold Closes
  rw [← hposition, ← hdelay, ← hrequest]
  unfold rampClosed
  split <;> exact ⟨rfl, rfl, rfl, rfl, rfl⟩

theorem opens_rampOpen (w : State) (delay : Nat) : Opens w { rampOpen w.cpl with retryDelay := delay } delay := by
  unfold Opens rampOpen
  split <;> exact ⟨rfl, rfl, rfl, rfl⟩

/-- An opening step that leaves the retry delay. -/
theorem rampOpen_delay (c : Cpl) : rampOpen c = { rampOpen c with retryDelay := c.retryDelay } := by
  rw [rampOpen_eq]

theorem opens_rampOpen_delay (w : State) : Opens w (rampOpen w.cpl) w.cpl.retryDelay := by
  rw [rampOpen_delay]
  exact opens_rampOpen w _

section
variable {w : State}

theorem moveCoupling_requests (h : w.cpl.coupling = .opened) (hr : couplingWanted w w.cpl = true) :
    CouplingIs (moveCoupling w).cpl .syncing .acquire w.cpl.position w.cpl.retryDelay ∧
      (moveCoupling w).cpl.syncTimer = 0 ∧ (moveCoupling w).cpl.lockRun = 0 ∧
      (moveCoupling w).cpl.speedRequest = acquireRequest w := by
  unfold moveCoupling
  rw [h]
  dsimp only
  rw [if_pos hr]
  exact ⟨⟨rfl, rfl, rfl, rfl⟩, rfl, rfl, rfl⟩

theorem moveCoupling_stays_open (h : w.cpl.coupling = .opened) (hr : couplingWanted w w.cpl = false) :
    moveCoupling w = w := by
  unfold moveCoupling
  rw [h]
  exact if_neg (Bool.eq_false_iff.1 hr)

theorem moveCoupling_opening (h : w.cpl.coupling = .opening) : Opens w (moveCoupling w).cpl w.cpl.retryDelay := by
  unfold moveCoupling
  rw [h]
  exact opens_rampOpen_delay w

theorem moveCoupling_coupled_apart (h : w.cpl.coupling = .coupled) (hd : decouple w w.cpl = true) :
    Opens w (moveCoupling w).cpl w.cpl.retryDelay := by
  unfold moveCoupling
  rw [h]
  dsimp only
  rw [if_pos hd]
  exact opens_rampOpen_delay w

theorem moveCoupling_stays_coupled (h : w.cpl.coupling = .coupled) (hd : decouple w w.cpl = false) : moveCoupling w = w := by
  unfold moveCoupling
  rw [h]
  exact if_neg (Bool.eq_false_iff.1 hd)

theorem moveCoupling_closing (h : w.cpl.coupling = .closing) : moveCoupling w = stepClosing w := by
  unfold moveCoupling
  rw [h]

theorem moveCoupling_closing_lost (h : w.cpl.coupling = .closing) (he : 200 < w.speedError.natAbs) :
    Opens w (moveCoupling w).cpl 500 := by
  rw [moveCoupling_closing h]
  unfold stepClosing
  rw [if_pos he]
  exact opens_rampOpen w 500

theorem moveCoupling_closing_apart (h : w.cpl.coupling = .closing) (he : w.speedError.natAbs ≤ 200)
    (hd : decouple w w.cpl = true) : Opens w (moveCoupling w).cpl w.cpl.retryDelay := by
  rw [moveCoupling_closing h]
  unfold stepClosing
  dsimp only
  rw [if_neg (Nat.not_lt.2 he), if_pos hd]
  exact opens_rampOpen_delay w

theorem moveCoupling_closing_on (h : w.cpl.coupling = .closing) (he : w.speedError.natAbs ≤ 200)
    (hd : decouple w w.cpl = false) : Closes w (moveCoupling w).cpl := by
  rw [moveCoupling_closing h]
  unfold stepClosing
  dsimp only
  rw [if_neg (Nat.not_lt.2 he), if_neg (Bool.eq_false_iff.1 hd)]
  exact closes_rampClosed rfl rfl rfl

theorem moveCoupling_syncing (h : w.cpl.coupling = .syncing) : moveCoupling w = stepSyncing w := by
  unfold moveCoupling
  rw [h]

theorem moveCoupling_syncing_apart (h : w.cpl.coupling = .syncing) (hd : decouple w w.cpl = true) :
    CouplingIs (moveCoupling w).cpl .opened .none w.cpl.position w.cpl.retryDelay := by
  rw [moveCoupling_syncing h]
  unfold stepSyncing
  dsimp only
  rw [if_pos hd]
  exact ⟨rfl, rfl, rfl, rfl⟩

theorem moveCoupling_syncing_held (h : w.cpl.coupling = .syncing) (hd : decouple w w.cpl = false)
    (hheld : w.cpl.sync = .locked ∧ w.speedError.natAbs ≤ 60) : Closes w (moveCoupling w).cpl := by
  rw [moveCoupling_syncing h]
  unfold stepSyncing
  dsimp only
  rw [if_neg (Bool.eq_false_iff.1 hd), if_pos hheld]
  exact closes_rampClosed rfl rfl rfl

end

/-! ## The speed match -/

/-- What a frame of SYNCING leaves that neither decouples nor begins to close, from the sub-mode and the lock run that R94's
table gives and the sync timer (R94, R95). -/
def Syncs (m : SyncMode × Nat) (timer position delay acquire track : Nat) (c : Cpl) : Prop :=
  c.lockRun = m.2 ∧ c.speedRequest = (if m.1 = .acquire then acquire else track) ∧ c.syncTimer = timer ∧
    (timer = 200 ∧ m.1 ≠ .locked → CouplingIs c .opened .none position 500) ∧
    (¬(timer = 200 ∧ m.1 ≠ .locked) → CouplingIs c .syncing m.1 position delay)

section
variable {w : State}

/-- CPL's records after a frame of SYNCING that goes on (R94). -/
def syncMoved (w : State) : Cpl :=
  let m := moveSync w.cpl.sync w.cpl.lockRun w.speedError.natAbs
  { w.cpl with
    syncTimer := min (w.cpl.syncTimer + 1) 200, sync := m.1, lockRun := m.2,
    speedRequest := if m.1 = .acquire then acquireRequest w else trackRequest w }

theorem stepSyncing_timesOut (h : decouple w w.cpl = false) (hheld : ¬(w.cpl.sync = .locked ∧ w.speedError.natAbs ≤ 60))
    (ht : min (w.cpl.syncTimer + 1) 200 = 200 ∧ (syncMoved w).sync ≠ .locked) :
    stepSyncing w =
      logNow .syncTimeout none (some (w.speedError.natAbs : Int))
        (momentaryFault .syncTimeout (w.withCpl (syncTimedOut (syncMoved w)))) :=
  (if_neg (Bool.eq_false_iff.1 h)).trans ((if_neg hheld).trans (if_pos ht))

theorem stepSyncing_goesOn (h : decouple w w.cpl = false) (hheld : ¬(w.cpl.sync = .locked ∧ w.speedError.natAbs ≤ 60))
    (ht : ¬(min (w.cpl.syncTimer + 1) 200 = 200 ∧ (syncMoved w).sync ≠ .locked)) :
    stepSyncing w = w.withCpl (syncMoved w) :=
  (if_neg (Bool.eq_false_iff.1 h)).trans ((if_neg hheld).trans (if_neg ht))

theorem moveCoupling_syncs (h : w.cpl.coupling = .syncing) (hd : decouple w w.cpl = false)
    (hheld : ¬(w.cpl.sync = .locked ∧ w.speedError.natAbs ≤ 60)) :
    Syncs (moveSync w.cpl.sync w.cpl.lockRun w.speedError.natAbs) (min (w.cpl.syncTimer + 1) 200) w.cpl.position
      w.cpl.retryDelay (acquireRequest w) (trackRequest w) (moveCoupling w).cpl := by
  rw [moveCoupling_syncing h]
  by_cases ht : min (w.cpl.syncTimer + 1) 200 = 200 ∧ (syncMoved w).sync ≠ .locked
  · rw [stepSyncing_timesOut hd hheld ht, logNow_cpl, momentaryFault_cpl]
    exact ⟨rfl, rfl, rfl, fun _ => ⟨rfl, rfl, rfl, rfl⟩, fun hn => absurd ht hn⟩
  · rw [stepSyncing_goesOn hd hheld ht]
    exact ⟨rfl, rfl, rfl, fun hn => absurd hn ht, fun _ => ⟨h, rfl, rfl, rfl⟩⟩

/-- The record and the log of a SYNC_TIMEOUT (R95, R156). -/
theorem syncTimeout_reports (w : State) (c : Cpl) (e : Int) :
    (logNow .syncTimeout none (some e) (momentaryFault .syncTimeout (w.withCpl c))).faults.record .syncTimeout =
        { (w.faults.record .syncTimeout).raise w.dsv.operatingSeconds with state := .latched } ∧
      (logNow .syncTimeout none (some e) (momentaryFault .syncTimeout (w.withCpl c))).log =
        w.log.afterAppend (entryNow w .syncTimeout none (some e) none) := by
  refine ⟨?_, ?_⟩
  · rw [logNow_faults, momentaryFault_faults, setRecord_record_same]
    rfl
  · rw [logNow_log, momentaryFault_log]
    refine congrArg w.log.afterAppend (entryNow_congr ?_ ?_ rfl _ _ _ _)
    · rw [momentaryFault_sns, withCpl_sns]
    · rw [momentaryFault_dsv, withCpl_dsv]

theorem moveCoupling_timesOut (h : w.cpl.coupling = .syncing) (hd : decouple w w.cpl = false)
    (hheld : ¬(w.cpl.sync = .locked ∧ w.speedError.natAbs ≤ 60))
    (ht : min (w.cpl.syncTimer + 1) 200 = 200 ∧
      (moveSync w.cpl.sync w.cpl.lockRun w.speedError.natAbs).1 ≠ .locked) :
    (moveCoupling w).faults.record .syncTimeout =
        { (w.faults.record .syncTimeout).raise w.dsv.operatingSeconds with state := .latched } ∧
      (moveCoupling w).log =
        w.log.afterAppend (entryNow w .syncTimeout none (some (w.speedError.natAbs : Int)) none) := by
  rw [moveCoupling_syncing h, stepSyncing_timesOut hd hheld ht]
  exact syncTimeout_reports w _ _

/-- R94's table of the sub-mode and the lock run; the lock run counts only where the table gives one. -/
def syncTable (mode : SyncMode) (run e : Nat) : SyncMode × Nat :=
  match mode with
  | .acquire => if e ≤ 100 then (.track, if e ≤ 30 then 1 else 0) else (.acquire, 0)
  | .track =>
    if 200 < e then (.acquire, 0) else if 30 < e then (.track, 0) else if 8 ≤ run + 1 then (.locked, 8) else (.track, run + 1)
  | .locked => (.track, 0)
  | .none => (.acquire, 0)

theorem moveSync_table (mode : SyncMode) (run e : Nat) :
    (moveSync mode run e).1 = (syncTable mode run e).1 ∧
      ((syncTable mode run e).1 ≠ .acquire → (moveSync mode run e).2 = (syncTable mode run e).2) := by
  cases mode
  case none => exact ⟨rfl, fun h => absurd rfl h⟩
  case acquire =>
    by_cases h : e ≤ 100 <;> simp [syncTable, moveSync, h]
  case track =>
    rcases Nat.lt_or_ge 200 e with h200 | h200
    · simp [syncTable, moveSync, h200]
    · rcases Nat.lt_or_ge 30 e with h30 | h30
      · simp [syncTable, moveSync, Nat.not_lt.2 h200, h30, Nat.not_le.2 h30]
      · simp [syncTable, moveSync, Nat.not_lt.2 h200, h30, Nat.not_lt.2 h30]
  case locked => exact ⟨rfl, fun _ => rfl⟩

end

end Sys2Proof.Machine
end

section
/-! PROOF. What a CPL frame with the engine RUNNING leaves, by the case of step 8 (R92 to R100). -/

namespace Sys2Proof.Machine

open Sys2Proof

/-! ## The records at the start of step 8 -/

section
variable {s : State} (hengine : s.cpl.engine = .running) (hok : s.sns.engineLink.up = false ∨ 400 ≤ s.sns.engineSpeed)

include hok in
theorem slipCounted_runs : ¬stalls (slipCounted s) := by
  unfold stalls
  rw [(slipCounted_rest s).sns]
  rintro ⟨-, hup, hslow⟩
  rcases hok with h | h
  · rw [h] at hup
    cases hup
  · omega

include hok in
theorem cplFrameWant_runs : cplFrameWant s = (slipCounted s).withCpl (wantedCpl (slipCounted s)) := by
  rw [cplFrameWant_eq, stallTest_idle _ (slipCounted_runs hok)]

theorem slipCounted_cpl (s : State) :
    (slipCounted s).cpl = { stepDelays s.cpl with slipRemainder := (slipCounted s).cpl.slipRemainder } := by
  unfold slipCounted
  rw [countSlip_cpl]
  rfl

/-- The records that step 8 reads, but for the want (R83). -/
def StepEightFinds (s : State) (c : Cpl) : Prop :=
  CouplingIs c s.cpl.coupling s.cpl.sync s.cpl.position (s.cpl.retryDelay - 1) ∧ c.syncTimer = s.cpl.syncTimer ∧
    c.lockRun = s.cpl.lockRun

include hengine hok in
theorem cplFrameWant_engine : (cplFrameWant s).cpl.engine = .running := by
  rw [cplFrameWant_runs hok, withCpl_cpl, wantedCpl_eq, overspeedTest_eq]
  dsimp only
  rw [slipCounted_cpl]
  exact hengine

include hok in
/-- Below the overspeed, and with the clutch OPEN, steps 1 to 7 leave what step 8 reads (R83, R100). -/
theorem cplFrameWant_finds (h : s.cpl.coupling = .opened ∨ s.sns.shaftSpeed.natAbs ≤ 2400) :
    StepEightFinds s (cplFrameWant s).cpl := by
  have hopen : overspeedTest (slipCounted s).shaftMagnitude (slipCounted s).cpl = (slipCounted s).cpl := by
    refine if_neg ?_
    unfold State.shaftMagnitude
    rw [(slipCounted_rest s).sns, slipCounted_cpl]
    rintro ⟨hfast, hclosed⟩
    rcases h with h | h
    · exact hclosed h
    · omega
  unfold StepEightFinds CouplingIs
  rw [cplFrameWant_runs hok, withCpl_cpl, wantedCpl_eq, hopen, slipCounted_cpl]
  exact ⟨⟨rfl, rfl, rfl, rfl⟩, rfl, rfl⟩

include hok in
/-- Overspeed opens a clutch that is not OPEN at once (R100). -/
theorem cplFrameWant_overspeed (hfast : 2400 < s.sns.shaftSpeed.natAbs) (h : s.cpl.coupling ≠ .opened) :
    CouplingIs (cplFrameWant s).cpl .opened .none 0 (s.cpl.retryDelay - 1) := by
  have hopen : overspeedTest (slipCounted s).shaftMagnitude (slipCounted s).cpl = openAtOnce (slipCounted s).cpl := by
    refine if_pos ?_
    unfold State.shaftMagnitude
    rw [(slipCounted_rest s).sns, slipCounted_cpl]
    exact ⟨hfast, h⟩
  unfold CouplingIs
  rw [cplFrameWant_runs hok, withCpl_cpl, wantedCpl_eq, hopen, slipCounted_cpl]
  exact ⟨rfl, rfl, rfl, rfl⟩

include hok in
/-- In SYNCING no slip is counted: steps 1 to 7 change CPL's records alone (R103). -/
theorem cplFrameWant_syncing (h : s.cpl.coupling = .syncing) : cplFrameWant s = s.withCpl (cplFrameWant s).cpl := by
  have hidle : slipCounted s = s.withCpl (stepDelays s.cpl) := by
    refine countSlip_idle _ ?_
    unfold slipCounts
    rw [withCpl_cpl, show (stepDelays s.cpl).coupling = .syncing from h]
    rfl
  rw [cplFrameWant_runs hok, hidle]
  rfl

end

/-! ## What steps 9 to 11 leave of step 8's records -/

section
variable (s : State)

theorem cplFrame_couplingIs {st : CouplingState} {m : SyncMode} {position delay : Nat}
    (h : CouplingIs (moveCoupling (cplFrameWant s)).cpl st m position delay) :
    CouplingIs (cplFrame s).cpl st m position delay := by
  unfold CouplingIs
  rw [cplFrame_cpl]
  unfold cplMoved
  rw [moveEngine_moved]
  exact h

theorem cplFrame_speedRequest :
    (cplFrame s).cpl.speedRequest = (moveCoupling (cplFrameWant s)).cpl.speedRequest ∧
      (cplFrame s).cpl.syncTimer = (moveCoupling (cplFrameWant s)).cpl.syncTimer ∧
      (cplFrame s).cpl.lockRun = (moveCoupling (cplFrameWant s)).cpl.lockRun := by
  rw [cplFrame_cpl]
  unfold cplMoved
  rw [moveEngine_moved]
  exact ⟨rfl, rfl, rfl⟩

theorem cplFrame_wantOn : (cplFrame s).cpl.wantOn = (cplFrameWant s).cpl.wantOn := by
  rw [cplFrame_cpl]
  unfold cplMoved
  rw [moveEngine_moved, moveCoupling_moved]

/-- The reasons to decouple, by the want that the frame left (R98). -/
theorem cplFrame_decouple :
    decouple (cplFrameWant s) (cplFrameWant s).cpl =
      (decide (0 < s.spl.demand.brake ∨ s.sns.shaftSpeed.natAbs < 650) || !(cplFrame s).cpl.wantOn ||
        !s.sns.engineLink.up || !decide (s.dsv.state = .drive ∨ s.dsv.state = .limp) ||
        !decide (s.spl.demand.direction = .forward)) := by
  rw [decouple_eq, cplFrame_wantOn, (cplFrameWant_rest s).spl, (cplFrameWant_rest s).sns, cplFrameWant_dsv]

variable {s} in
theorem cplFrame_request (hengine : (cplFrameWant s).cpl.engine = .running)
    (hdelay : (cplFrameWant s).cpl.retryDelay = s.cpl.retryDelay - 1) :
    couplingWanted (cplFrameWant s) (cplFrameWant s).cpl =
      ((cplFrame s).cpl.wantOn && s.spl.mapValid && decide (s.spl.demand.direction = .forward) &&
        decide (s.dsv.state = .drive ∨ s.dsv.state = .limp) && s.sns.engineLink.up &&
        decide (700 ≤ s.sns.shaftSpeed.natAbs ∧ s.sns.shaftSpeed.natAbs ≤ 2400 ∧ s.spl.demand.brake = 0 ∧
          s.cpl.retryDelay ≤ 1)) := by
  have hzero : s.cpl.retryDelay - 1 = 0 ↔ s.cpl.retryDelay ≤ 1 := by omega
  rw [couplingWanted_eq hengine, cplFrame_wantOn, (cplFrameWant_rest s).spl, (cplFrameWant_rest s).sns, cplFrameWant_dsv,
    hdelay]
  simp only [hzero]

theorem acquireRequest_cplFrameWant : acquireRequest (cplFrameWant s) = acquireRequest s := by
  unfold acquireRequest State.shaftMagnitude
  rw [(cplFrameWant_rest s).speedError, (cplFrameWant_rest s).sns]

theorem trackRequest_cplFrameWant : trackRequest (cplFrameWant s) = trackRequest s := by
  unfold trackRequest State.shaftMagnitude
  rw [(cplFrameWant_rest s).speedError, (cplFrameWant_rest s).sns]

end

/-! ## Step 9 of a RUNNING engine -/

section
variable {s : State} (hengine : (cplFrameWant s).cpl.engine = .running)

include hengine in
theorem moveCoupling_engine : (moveCoupling (cplFrameWant s)).cpl.engine = .running := by
  rw [moveCoupling_moved]
  exact hengine

include hengine in
theorem cplMoved_runs :
    cplMoved s =
      if (cplFrame s).cpl.wantOn = false ∧ (cplFrame s).cpl.coupling = .opened then
        (moveCoupling (cplFrameWant s)).withCpl
          { (moveCoupling (cplFrameWant s)).cpl with engine := .stopping, stopTimer := 0 }
      else moveCoupling (cplFrameWant s) := by
  have hwant : (cplFrame s).cpl.wantOn = (moveCoupling (cplFrameWant s)).cpl.wantOn := by
    rw [cplFrame_wantOn, moveCoupling_moved]
  have hcoupling : (cplFrame s).cpl.coupling = (moveCoupling (cplFrameWant s)).cpl.coupling :=
    (cplFrame_couplingIs s ⟨rfl, rfl, rfl, rfl⟩).1
  rw [hwant, hcoupling]
  exact moveEngine_running _ (moveCoupling_engine hengine)

include hengine in
/-- The engine is STOPPING, sent STOP, with the want OFF and the clutch OPEN, else RUNNING (R92). -/
theorem cplFrame_engine :
    (cplFrame s).cpl.engine =
        (if (cplFrame s).cpl.wantOn = false ∧ (cplFrame s).cpl.coupling = .opened then .stopping else .running) ∧
      ((cplFrame s).cpl.engine = .stopping → (cplFrame s).cpl.stopTimer = 0 ∧ (cplFrame s).cpl.lastMode = .stop) := by
  have hcpl := cplFrame_cpl s
  have hmoved := cplMoved_runs hengine
  by_cases h : (cplFrame s).cpl.wantOn = false ∧ (cplFrame s).cpl.coupling = .opened
  · rw [if_pos h] at hmoved ⊢
    rw [hcpl, hmoved]
    exact ⟨rfl, fun _ => ⟨rfl, rfl⟩⟩
  · rw [if_neg h] at hmoved ⊢
    have hstate : (cplFrame s).cpl.engine = .running := by
      rw [hcpl, hmoved]
      exact moveCoupling_engine hengine
    exact ⟨hstate, fun hstop => EngineState.noConfusion (hstate.symm.trans hstop)⟩

include hengine in
theorem cplFrame_log : (cplFrame s).log = (moveCoupling (cplFrameWant s)).log := by
  rw [cplFrame_eq, askClutchReport_log, sendEngineRequest_log, cplMoved_runs hengine]
  split <;> rfl

include hengine in
theorem cplFrame_faults : (cplFrame s).faults = (moveCoupling (cplFrameWant s)).faults := by
  rw [cplFrame_eq, askClutchReport_faults, sendEngineRequest_faults, cplMoved_runs hengine]
  split <;> rfl

end

end Sys2Proof.Machine
end

section
/-! PROOF. The CPL frame whole: the moves of the coupling state, the slip energy and the request (R83, R92 to R100, R102,
R103). -/

namespace Sys2Proof.Machine

open Sys2Proof

section
variable {s : State}

/-! ## The ramps and the speed match of a frame -/

theorem cplFrame_closes (hfinds : StepEightFinds s (cplFrameWant s).cpl)
    (h : Closes (cplFrameWant s) (moveCoupling (cplFrameWant s)).cpl) :
    (cplFrame s).cpl.speedRequest = trackRequest s ∧
      if 1000 ≤ s.cpl.position + closingStep s.dsv.limits.clutchFill then
        CouplingIs (cplFrame s).cpl .coupled .none 1000 (s.cpl.retryDelay - 1)
      else
        CouplingIs (cplFrame s).cpl .closing .none (s.cpl.position + closingStep s.dsv.limits.clutchFill)
          (s.cpl.retryDelay - 1) := by
  obtain ⟨⟨-, -, hposition, hdelay⟩, -, -⟩ := hfinds
  unfold Closes at h
  rw [hposition, hdelay, cplFrameWant_dsv, trackRequest_cplFrameWant, ← (cplFrame_speedRequest s).1] at h
  refine ⟨h.1, ?_⟩
  split <;> rename_i hend
  · exact cplFrame_couplingIs s ((if_pos hend).mp h.2)
  · exact cplFrame_couplingIs s ((if_neg hend).mp h.2)

theorem cplFrame_opens {delay : Nat} (hfinds : StepEightFinds s (cplFrameWant s).cpl)
    (h : Opens (cplFrameWant s) (moveCoupling (cplFrameWant s)).cpl delay) :
    if s.cpl.position ≤ 100 then CouplingIs (cplFrame s).cpl .opened .none 0 delay
    else CouplingIs (cplFrame s).cpl .opening .none (s.cpl.position - 100) delay := by
  obtain ⟨⟨-, -, hposition, -⟩, -, -⟩ := hfinds
  unfold Opens at h
  rw [hposition] at h
  split <;> rename_i hend
  · exact cplFrame_couplingIs s ((if_pos hend).mp h)
  · exact cplFrame_couplingIs s ((if_neg hend).mp h)

theorem cplFrame_syncs {m : SyncMode × Nat} {timer position delay acquire track : Nat}
    (h : Syncs m timer position delay acquire track (moveCoupling (cplFrameWant s)).cpl) :
    Syncs m timer position delay acquire track (cplFrame s).cpl := by
  obtain ⟨hlock, hrequest, htimer, hout, hon⟩ := h
  obtain ⟨hframeRequest, hframeTimer, hframeLock⟩ := cplFrame_speedRequest s
  exact ⟨hframeLock.trans hlock, hframeRequest.trans hrequest, hframeTimer.trans htimer,
    fun ht => cplFrame_couplingIs s (hout ht), fun ht => cplFrame_couplingIs s (hon ht)⟩

variable (hengine : s.cpl.engine = .running) (hok : s.sns.engineLink.up = false ∨ 400 ≤ s.sns.engineSpeed)

include hengine hok in
/-- A SYNC_TIMEOUT is recorded and logged as from the state before the frame (R95). -/
theorem cplFrame_timesOut (h : s.cpl.coupling = .syncing)
    (hmove : (moveCoupling (cplFrameWant s)).faults.record .syncTimeout =
        { ((cplFrameWant s).faults.record .syncTimeout).raise (cplFrameWant s).dsv.operatingSeconds with state := .latched } ∧
      (moveCoupling (cplFrameWant s)).log =
        (cplFrameWant s).log.afterAppend
          (entryNow (cplFrameWant s) .syncTimeout none (some ((cplFrameWant s).speedError.natAbs : Int)) none)) :
    (cplFrame s).faults.record .syncTimeout =
        { (s.faults.record .syncTimeout).raise s.dsv.operatingSeconds with state := .latched } ∧
      (cplFrame s).log = s.log.afterAppend (entryNow s .syncTimeout none (some (s.speedError.natAbs : Int)) none) := by
  have hrun := cplFrameWant_engine hengine hok
  have hwant := cplFrameWant_syncing hok h
  have hfaults : (cplFrameWant s).faults = s.faults := (congrArg State.faults hwant).trans (withCpl_faults _ _)
  have hlog : (cplFrameWant s).log = s.log := (congrArg State.log hwant).trans (withCpl_log _ _)
  have hexc : (cplFrameWant s).exc = s.exc := (congrArg State.exc hwant).trans (withCpl_exc _ _)
  have hseconds : (cplFrameWant s).dsv.operatingSeconds = s.dsv.operatingSeconds := by rw [cplFrameWant_dsv]
  have hodometer : (cplFrameWant s).sns.odometer = s.sns.odometer := by rw [(cplFrameWant_rest s).sns]
  rw [hfaults, hseconds, hlog, entryNow_congr hodometer hseconds (congrArg Exc.frameNumber hexc),
    (cplFrameWant_rest s).speedError] at hmove
  rwa [cplFrame_faults hrun, cplFrame_log hrun]

/-! ## The moves -/

include hengine hok in
/-- The coupling state moves as R92 to R100 say. -/
theorem cplFrame_moves : CouplingMoves s (cplFrame s) := by
  have hrun := cplFrameWant_engine hengine hok
  have herror := (cplFrameWant_rest s).speedError
  have hdecouple := cplFrame_decouple s
  unfold CouplingMoves
  intro n e drives forward apart request acquire track step moves p delay closes opens held timer run after timesOut
  have hspeed : s.speedError = e := rfl
  change decouple (cplFrameWant s) (cplFrameWant s).cpl = apart at hdecouple
  refine ⟨fun hfast hclosed => ?overspeed, fun h => ⟨fun hr => ?requests, fun hr => ?waits⟩, ?syncing, ?closing, ?coupled,
    ?opening, cplFrame_engine hrun⟩
  case overspeed =>
    have hfinds := cplFrameWant_overspeed hok hfast hclosed
    obtain ⟨hopened, -, -, hdelay⟩ := id hfinds
    have hwanted : couplingWanted (cplFrameWant s) (cplFrameWant s).cpl = false := by
      have hnot : ¬(700 ≤ n ∧ n ≤ 2400 ∧ s.spl.demand.brake = 0 ∧ s.cpl.retryDelay ≤ 1) := by omega
      rw [cplFrame_request hrun hdelay, decide_eq_false hnot, Bool.and_false]
    refine cplFrame_couplingIs s ?_
    rw [moveCoupling_stays_open hopened hwanted]
    exact hfinds
  case requests =>
    obtain ⟨⟨hcoupling, -, hposition, hdelay⟩, -, -⟩ := cplFrameWant_finds hok (.inl h)
    obtain ⟨his, hsyncTimer, hlock, hspeedRequest⟩ :=
      moveCoupling_requests (hcoupling.trans h) ((cplFrame_request hrun hdelay).trans hr)
    obtain ⟨hrequest, htimer, hlockRun⟩ := cplFrame_speedRequest s
    rw [hposition, hdelay] at his
    exact ⟨cplFrame_couplingIs s his, htimer.trans hsyncTimer, hlockRun.trans hlock,
      hrequest.trans (hspeedRequest.trans (acquireRequest_cplFrameWant s))⟩
  case waits =>
    obtain ⟨hfinds, -, -⟩ := cplFrameWant_finds hok (.inl h)
    rw [h] at hfinds
    obtain ⟨hopened, -, -, hdelay⟩ := id hfinds
    refine cplFrame_couplingIs s ?_
    rw [moveCoupling_stays_open hopened ((cplFrame_request hrun hdelay).trans hr)]
    exact hfinds
  case syncing =>
    intro hslow h
    have hfinds := cplFrameWant_finds hok (.inr hslow)
    obtain ⟨⟨hcoupling, hsync, hposition, hdelay⟩, htimer, hlock⟩ := id hfinds
    refine ⟨fun hd => ?apart, fun hd hh => ?held, fun hd hh _ => ?syncs⟩
    case apart =>
      have his := moveCoupling_syncing_apart (hcoupling.trans h) (hdecouple.trans hd)
      rw [hposition, hdelay] at his
      exact cplFrame_couplingIs s his
    case held =>
      have hlocked : (cplFrameWant s).cpl.sync = .locked ∧ (cplFrameWant s).speedError.natAbs ≤ 60 := by
        rw [hsync, herror]
        exact of_decide_eq_true hh
      exact cplFrame_closes hfinds (moveCoupling_syncing_held (hcoupling.trans h) (hdecouple.trans hd) hlocked)
    case syncs =>
      have hnotHeld : ¬((cplFrameWant s).cpl.sync = .locked ∧ (cplFrameWant s).speedError.natAbs ≤ 60) := by
        rw [hsync, herror]
        exact of_decide_eq_false hh
      have htable : syncTable s.cpl.sync s.cpl.lockRun e.natAbs = after := by
        unfold syncTable
        rfl
      obtain ⟨hafter, hrunAfter⟩ := moveSync_table s.cpl.sync s.cpl.lockRun e.natAbs
      have hsyncs := cplFrame_syncs (moveCoupling_syncs (hcoupling.trans h) (hdecouple.trans hd) hnotHeld)
      have hreports := fun ht =>
        cplFrame_timesOut hengine hok h (moveCoupling_timesOut (hcoupling.trans h) (hdecouple.trans hd) hnotHeld ht)
      rw [hsync, hlock, htimer, herror, hspeed] at hsyncs hreports
      rw [hposition, hdelay, acquireRequest_cplFrameWant, trackRequest_cplFrameWant] at hsyncs
      obtain ⟨hlockRun, hrequest, hsyncTimer, hout, hon⟩ := hsyncs
      rw [hafter, htable] at hrequest hout hon hreports
      rw [htable] at hrunAfter
      exact ⟨fun hne => hlockRun.trans (hrunAfter hne), hrequest, hsyncTimer,
        fun ht => ⟨hout (of_decide_eq_true ht), hreports (of_decide_eq_true ht)⟩, fun ht => hon (of_decide_eq_false ht)⟩
  case closing =>
    intro hslow h
    have hfinds := cplFrameWant_finds hok (.inr hslow)
    obtain ⟨⟨hcoupling, -, -, hdelay⟩, -, -⟩ := id hfinds
    have hclosing := hcoupling.trans h
    change (cplFrameWant s).cpl.retryDelay = delay at hdelay
    refine ⟨fun hlost => ?lost, fun hnear hd => ?apart, fun hnear hd => ?on⟩
    case lost => exact cplFrame_opens hfinds (moveCoupling_closing_lost hclosing (herror ▸ hlost))
    case apart =>
      exact hdelay ▸ cplFrame_opens hfinds (moveCoupling_closing_apart hclosing (herror ▸ hnear) (hdecouple.trans hd))
    case on => exact cplFrame_closes hfinds (moveCoupling_closing_on hclosing (herror ▸ hnear) (hdecouple.trans hd))
  case coupled =>
    intro hslow h
    have hfinds := cplFrameWant_finds hok (.inr hslow)
    obtain ⟨his, -, -⟩ := id hfinds
    obtain ⟨hcoupling, -, -, hdelay⟩ := id his
    have hcoupled := hcoupling.trans h
    change (cplFrameWant s).cpl.retryDelay = delay at hdelay
    refine ⟨fun hd => ?apart, fun hd => ?stays⟩
    case apart => exact hdelay ▸ cplFrame_opens hfinds (moveCoupling_coupled_apart hcoupled (hdecouple.trans hd))
    case stays =>
      refine cplFrame_couplingIs s ?_
      rw [moveCoupling_stays_coupled hcoupled (hdecouple.trans hd), ← h]
      exact his
  case opening =>
    intro hslow h
    have hfinds := cplFrameWant_finds hok (.inr hslow)
    obtain ⟨⟨hcoupling, -, -, hdelay⟩, -, -⟩ := id hfinds
    change (cplFrameWant s).cpl.retryDelay = delay at hdelay
    exact hdelay ▸ cplFrame_opens hfinds (moveCoupling_opening (hcoupling.trans h))

end

/-! ## The statement -/

theorem exec_cplFrame {s : State} (hrun : s.running = true) : exec .cplFrame s = .next (cplFrame s) :=
  congrArg Host.Outcome.next (whileRunning_runs _ hrun)

/-- Settles O40, by the steps of the frame in their order. -/
theorem cplFrameCouplesAndRequests : Obligations.CplFrameCouplesAndRequests := by
  intro s hrun hlog
  obtain ⟨hspeed, herror, -⟩ := cplFrame_formed s
  exact ⟨_, _, _, _, exec_cplFrame hrun, hspeed, herror, cplFrame_sent s, congrArg Cpl.lastMode (cplFrame_cpl s),
    engineRequestOf_cplMoved s, State.eq_of_fields (cplFrame_rest s) rfl rfl rfl rfl rfl rfl, cplFrame_slip s,
    cplFrame_moves, (cplFrame_kept s).frame hlog⟩

end Sys2Proof.Machine
end

section
/-! PROOF. The words a report writes into its cell, its directory entry and its channel's row (R165, R167, R178). -/

namespace Sys2Proof.Machine

open Sys2Proof

/-! ## Header words and the state of a cell (R165) -/

theorem headerAddr_inside (k : CellIndex) {j : Nat} (h : j < 6) :
    0x100 ≤ headerAddr k j ∧ headerAddr k j + 1 < 0x580 := by
  have := k.isLt
  unfold headerAddr
  omega

theorem dirAddr_lt (c : ReportChannel) {j : Nat} (h : j < 4) : dirAddr c.number j + 1 < 0x80 := by
  unfold dirAddr ReportChannel.number
  omega

/-- Two header words of one cell, or header words of two cells, do not overlap. -/
theorem headerAddr_apart {k l : CellIndex} {i j : Nat} (hi : i < 6) (hj : j < 6) (h : k ≠ l ∨ i ≠ j) :
    headerAddr l j + 1 < headerAddr k i ∨ headerAddr k i + 1 < headerAddr l j := by
  have hkl : k.val ≠ l.val ∨ i ≠ j := h.imp_left Fin.val_ne_of_ne
  unfold headerAddr
  omega

/-- A header word reads as before a write of another one. -/
theorem Port.wordAt_setHeader_other (p : Port) {k l : CellIndex} {i j : Nat} (w : Word) (hi : i < 6) (hj : j < 6)
    (h : k ≠ l ∨ i ≠ j) : (p.setWord (headerAddr k i) w).wordAt (headerAddr l j) = p.wordAt (headerAddr l j) :=
  Port.wordAt_setWord_other p w (headerAddr_apart hi hj h)

/-- A header word reads as it was written. -/
theorem Port.wordAt_setHeader_same (p : Port) (k : CellIndex) {j : Nat} (w : Word) (hj : j < 6)
    (h : Memory.wf p.ram = true) : (p.setWord (headerAddr k j) w).wordAt (headerAddr k j) = w :=
  Port.wordAt_setWord_same p w (by have := headerAddr_inside k hj; unfold ramBytes; omega) h

/-- Of the cells' headers, a cell set changes the word of its state alone. -/
theorem Port.wordAt_setCell_other (p : Port) {k l : CellIndex} {j : Nat} (x y : Nat) (hj : j < 6) (h : k ≠ l ∨ 1 ≠ j) :
    (p.setCell k x y).wordAt (headerAddr l j) = p.wordAt (headerAddr l j) :=
  p.wordAt_setHeader_other _ (by decide) hj h

theorem Port.wordAt_setCell_same (p : Port) (k : CellIndex) (x y : Nat) (h : Memory.wf p.ram = true) :
    (p.setCell k x y).wordAt (headerAddr k 1) = packBytes x y :=
  p.wordAt_setHeader_same k _ (by decide) h

theorem Port.byteAt_setCell_other (p : Port) {k : CellIndex} (x y : Nat) {a : Nat}
    (h : a ≠ headerAddr k 1 ∧ a ≠ headerAddr k 1 + 1) : (p.setCell k x y).byteAt a = p.byteAt a :=
  Port.byteAt_setWord_other p _ h.1 h.2

theorem Port.wf_setCell (p : Port) (k : CellIndex) (x y : Nat) (h : Memory.wf p.ram = true) :
    Memory.wf (p.setCell k x y).ram = true := p.wf_setWord _ _ h

/-- A cell set keeps every data offset. -/
theorem Port.offsetOf_setCell (p : Port) (k l : CellIndex) (x y : Nat) :
    (p.setCell k x y).offsetOf l = p.offsetOf l :=
  congrArg BitVec.toNat (p.wordAt_setCell_other x y (by decide) (.inr (by decide)))

/-- The low byte of a packed word is its first byte. -/
theorem packBytes_low (x y : Nat) (h : x ≤ 255) : (packBytes x y).toNat % 256 = x := by
  unfold packBytes
  rw [BitVec.toNat_ofNat]
  omega

/-- The state of a cell is the low byte of the word written with it. -/
theorem Port.cellState_of_word {p : Port} {k : CellIndex} {x y : Nat} (h : p.wordAt (headerAddr k 1) = packBytes x y)
    (hx : x ≤ 255) : p.cellState k = x := by
  unfold Port.cellState
  rw [h, packBytes_low x y hx]

theorem Port.cellState_congr {p q : Port} {k : CellIndex}
    (h : p.wordAt (headerAddr k 1) = q.wordAt (headerAddr k 1)) : p.cellState k = q.cellState k :=
  congrArg (·.toNat % 256) h

theorem Port.cellState_setCellState_same (p : Port) (k : CellIndex) {x : Nat} (hx : x ≤ 255)
    (h : Memory.wf p.ram = true) : (p.setCellState k x).cellState k = x :=
  Port.cellState_of_word (p.wordAt_setCell_same k x _ h) hx

theorem Port.cellState_setCellState_other (p : Port) {k l : CellIndex} (x : Nat) (h : k ≠ l) :
    (p.setCellState k x).cellState l = p.cellState l :=
  Port.cellState_congr (p.wordAt_setCell_other x _ (by decide) (.inl h))

/-! ## The row of a channel -/

@[simp] theorem setRamWord_reportRow (a : Nat) (w : Word) (s : State) (i : Fin 8) :
    (setRamWord a w s).reportRow i = s.reportRow i := rfl
@[simp] theorem setCell_reportRow (k : CellIndex) (x y : Nat) (s : State) (i : Fin 8) :
    (setCell k x y s).reportRow i = s.reportRow i := rfl
@[simp] theorem setCellState_reportRow (k : CellIndex) (x : Nat) (s : State) (i : Fin 8) :
    (setCellState k x s).reportRow i = s.reportRow i := rfl
@[simp] theorem setReportRow_row_same (i : Fin 8) (r : ReportRow) (s : State) : (setReportRow i r s).reportRow i = r :=
  putAt_get_same _ _ _
theorem setReportRow_row_other {i j : Fin 8} (r : ReportRow) (s : State) (h : j ≠ i) :
    (setReportRow i r s).reportRow j = s.reportRow j := putAt_get_other _ _ h

@[simp] theorem moveCursor_port (c : ReportChannel) (s : State) : (moveCursor c s).port = s.port := by cases c <;> rfl
@[simp] theorem moveCursor_exc (c : ReportChannel) (s : State) : (moveCursor c s).exc = s.exc := by cases c <;> rfl
@[simp] theorem moveCursor_reportRow (c : ReportChannel) (s : State) (i : Fin 8) :
    (moveCursor c s).reportRow i = s.reportRow i := by cases c <;> rfl

/-! ## The payload (section 11.4) -/

/-- The length of a channel's payload in words (section 11.4). -/
def ReportChannel.words (c : ReportChannel) : Nat := [24, 14, 16, 34, 13, 16, 12, 14].getD c.row.val 0

theorem faultsWords_length (t : FaultTable) : (faultsWords t).length = 13 := by
  unfold faultsWords
  cases t.detailStamp <;> rfl

/-- A payload fills its layout. -/
theorem payload_length (c : ReportChannel) (s : State) : (c.payload s).length = c.words := by
  cases c
  case faults => exact faultsWords_length s.faults
  all_goals rfl

/-- A payload fits a block of its channel's class. -/
theorem words_le_class (c : ReportChannel) : c.words ≤ if c.long then 64 else 16 := by
  cases c <;> decide

/-- The payload in a block inside the data area stays within the exchange RAM. -/
theorem block_fits {c : ReportChannel} {k : CellIndex} {offset : Nat} (hclass : isLong k = c.long)
    (hblock : blockInside k offset = true) : dataAddr offset + 2 * c.words ≤ ramBytes := by
  have hlength := words_le_class c
  have hinside : offset + (if isLong k then 64 else 16) ≤ 6464 := of_decide_eq_true hblock
  rw [hclass] at hinside
  unfold dataAddr ramBytes
  omega

/-- The start of the filling and the header of the chosen cell are no part of a payload. -/
theorem payload_of_filling (c : ReportChannel) (k : CellIndex) (x y : Nat) (s : State) :
    c.payload (setCell k x y (moveCursor c (startFilling c s))) = c.payload (moveCursor c s) := by
  cases c <;> rfl

theorem payload_of_started (c : ReportChannel) (s : State) :
    c.payload (moveCursor c (startFilling c s)) = c.payload (moveCursor c s) := by
  cases c <;> rfl

/-! ## The writes of a report (R178) -/

/-- The writes of a report into the exchange: FILLING, the payload, length, stamp, sequence, PUBLISHED and the directory. -/
def Port.withReport (p : Port) (c : ReportChannel) (k : CellIndex) (payload : List Word) (frame sequence : Word) : Port :=
  let filled := (p.setCell k cellFilling 0).setWords (dataAddr (p.offsetOf k)) payload
  let stamped := (filled.setWord (headerAddr k 3) (natWord payload.length)).setWord (headerAddr k 5) frame
  ((stamped.setWord (headerAddr k 2) sequence).setCell k cellPublished 0).setWord (dirAddr c.number 0)
    (indexWord (some k))

namespace Port

variable {p : Port} {c : ReportChannel} {k : CellIndex} {payload : List Word} {frame sequence : Word}

theorem wf_withReport (h : Memory.wf p.ram = true) :
    Memory.wf (p.withReport c k payload frame sequence).ram = true :=
  wf_setWord _ _ _ (wf_setCell _ _ _ _ (wf_setWord _ _ _ (wf_setWord _ _ _ (wf_setWord _ _ _
    (wf_setWords _ _ _ (wf_setCell _ _ _ _ h))))))

/-- A report writes the first word of its directory entry, header words of its cell and its block, and no other byte. -/
theorem byteAt_withReport_other {a : Nat} (hdir : a < dirAddr c.number 0 ∨ dirAddr c.number 0 + 1 < a)
    (hheader : a < headerAddr k 1 ∨ headerAddr k 5 + 1 < a)
    (hblock : a < dataAddr (p.offsetOf k) ∨ dataAddr (p.offsetOf k) + 2 * payload.length ≤ a) :
    (p.withReport c k payload frame sequence).byteAt a = p.byteAt a := by
  have hword {j : Nat} (h1 : 1 ≤ j) (h5 : j ≤ 5) : a ≠ headerAddr k j ∧ a ≠ headerAddr k j + 1 := by
    unfold headerAddr at hheader ⊢
    omega
  obtain ⟨h2, h2'⟩ := hword (j := 2) (by decide) (by decide)
  obtain ⟨h3, h3'⟩ := hword (j := 3) (by decide) (by decide)
  obtain ⟨h5, h5'⟩ := hword (j := 5) (by decide) (by decide)
  have hstate := hword (j := 1) (by decide) (by decide)
  unfold withReport
  dsimp only
  rw [byteAt_setWord_other _ _ (by omega) (by omega), byteAt_setCell_other _ _ _ hstate,
    byteAt_setWord_other _ _ h2 h2', byteAt_setWord_other _ _ h5 h5', byteAt_setWord_other _ _ h3 h3',
    byteAt_setWords_other _ _ hblock, byteAt_setCell_other _ _ _ hstate]

/-- A header word after the directory was written. -/
theorem wordAt_withReport_header {j : Nat} (hj : j < 6) :
    (p.withReport c k payload frame sequence).wordAt (headerAddr k j) =
      ((((((p.setCell k cellFilling 0).setWords (dataAddr (p.offsetOf k)) payload).setWord (headerAddr k 3)
        (natWord payload.length)).setWord (headerAddr k 5) frame).setWord (headerAddr k 2) sequence).setCell k
          cellPublished 0).wordAt (headerAddr k j) := by
  have hdir := dirAddr_lt c (j := 0) (by decide)
  have hheader := headerAddr_inside k hj
  exact wordAt_setWord_other _ _ (by omega)

/-- The cell reads PUBLISHED, with outcome 0. -/
theorem wordAt_withReport_state (h : Memory.wf p.ram = true) :
    (p.withReport c k payload frame sequence).wordAt (headerAddr k 1) = packBytes cellPublished 0 := by
  rw [wordAt_withReport_header (by decide), wordAt_setCell_same]
  exact wf_setWord _ _ _ (wf_setWord _ _ _ (wf_setWord _ _ _ (wf_setWords _ _ _ (wf_setCell _ _ _ _ h))))

theorem wordAt_withReport_sequence (h : Memory.wf p.ram = true) :
    (p.withReport c k payload frame sequence).wordAt (headerAddr k 2) = sequence := by
  rw [wordAt_withReport_header (by decide), wordAt_setCell_other _ _ _ (by decide) (.inr (by decide)),
    wordAt_setHeader_same _ _ _ (by decide)]
  exact wf_setWord _ _ _ (wf_setWord _ _ _ (wf_setWords _ _ _ (wf_setCell _ _ _ _ h)))

theorem wordAt_withReport_length (h : Memory.wf p.ram = true) :
    (p.withReport c k payload frame sequence).wordAt (headerAddr k 3) = natWord payload.length := by
  rw [wordAt_withReport_header (by decide), wordAt_setCell_other _ _ _ (by decide) (.inr (by decide)),
    wordAt_setHeader_other _ _ (by decide) (by decide) (.inr (by decide)),
    wordAt_setHeader_other _ _ (by decide) (by decide) (.inr (by decide)), wordAt_setHeader_same _ _ _ (by decide)]
  exact wf_setWords _ _ _ (wf_setCell _ _ _ _ h)

theorem wordAt_withReport_stamp (h : Memory.wf p.ram = true) :
    (p.withReport c k payload frame sequence).wordAt (headerAddr k 5) = frame := by
  rw [wordAt_withReport_header (by decide), wordAt_setCell_other _ _ _ (by decide) (.inr (by decide)),
    wordAt_setHeader_other _ _ (by decide) (by decide) (.inr (by decide)), wordAt_setHeader_same _ _ _ (by decide)]
  exact wf_setWord _ _ _ (wf_setWords _ _ _ (wf_setCell _ _ _ _ h))

theorem wordAt_withReport_published (h : Memory.wf p.ram = true) :
    (p.withReport c k payload frame sequence).wordAt (dirAddr c.number 0) = indexWord (some k) := by
  refine wordAt_setWord_same _ _ ?_ ?_
  · have := dirAddr_lt c (j := 0) (by decide)
    unfold ramBytes
    omega
  · exact wf_setCell _ _ _ _ (wf_setWord _ _ _ (wf_setWord _ _ _ (wf_setWord _ _ _
      (wf_setWords _ _ _ (wf_setCell _ _ _ _ h)))))

/-- The block reads the payload. -/
theorem wordsAt_withReport_block (h : Memory.wf p.ram = true)
    (hfits : dataAddr (p.offsetOf k) + 2 * payload.length ≤ ramBytes) :
    (p.withReport c k payload frame sequence).wordsAt (dataAddr (p.offsetOf k)) payload.length = payload := by
  refine Eq.trans (wordsAt_congr fun a ha _ => ?_) (wordsAt_setWords _ payload hfits (wf_setCell p k cellFilling 0 h))
  have hdata : 0xD80 ≤ a := Nat.le_trans (Nat.le_add_right _ _) ha
  have hdir := dirAddr_lt c (j := 0) (by decide)
  have h1 := headerAddr_inside k (j := 1) (by decide)
  have h2 := headerAddr_inside k (j := 2) (by decide)
  have h3 := headerAddr_inside k (j := 3) (by decide)
  have h5 := headerAddr_inside k (j := 5) (by decide)
  unfold withReport
  dsimp only
  rw [byteAt_setWord_other _ _ (by omega) (by omega), byteAt_setCell_other _ _ _ (by omega),
    byteAt_setWord_other _ _ (by omega) (by omega), byteAt_setWord_other _ _ (by omega) (by omega),
    byteAt_setWord_other _ _ (by omega) (by omega)]

end Port

/-- The state with the report written, before the decision on the outgoing cell (R178). -/
def written (c : ReportChannel) (k : CellIndex) (s : State) : State :=
  writeHeader c k (c.payload (moveCursor c s)).length (writePayload c k (moveCursor c (startFilling c s)))

/-- With nothing written meanwhile a filling writes the report, decides on the outgoing cell and sets ORDER_DONE. -/
theorem fill_eq (c : ReportChannel) (k : CellIndex) (s : State) :
    fill [] c k s = orderDone c (outgoing c (s.reportRow c.row).published (written c k s)) := by
  unfold fill written
  dsimp only
  rw [vcWrites_nil, payload_of_started]

@[simp] theorem startFilling_port (c : ReportChannel) (s : State) : (startFilling c s).port = s.port := rfl
@[simp] theorem startFilling_frame (c : ReportChannel) (s : State) :
    (startFilling c s).exc.frameNumber = s.exc.frameNumber := rfl
@[simp] theorem startFilling_row (c : ReportChannel) (s : State) :
    (startFilling c s).reportRow c.row = { s.reportRow c.row with changePending := false } :=
  setReportRow_row_same _ _ _
theorem startFilling_row_other (c : ReportChannel) (s : State) {i : Fin 8} (h : i ≠ c.row) :
    (startFilling c s).reportRow i = s.reportRow i := setReportRow_row_other _ _ h

@[simp] theorem writePayload_port (c : ReportChannel) (k : CellIndex) (s : State) :
    (writePayload c k s).port = (s.port.setCell k cellFilling 0).setWords (dataAddr (s.port.offsetOf k))
      (c.payload (setCell k cellFilling 0 s)) := by
  rw [← s.port.offsetOf_setCell k k cellFilling 0]
  rfl
@[simp] theorem writePayload_exc (c : ReportChannel) (k : CellIndex) (s : State) : (writePayload c k s).exc = s.exc := rfl
@[simp] theorem writePayload_faults (c : ReportChannel) (k : CellIndex) (s : State) :
    (writePayload c k s).faults = s.faults := rfl
@[simp] theorem writePayload_reportRow (c : ReportChannel) (k : CellIndex) (s : State) (i : Fin 8) :
    (writePayload c k s).reportRow i = s.reportRow i := rfl

theorem writeHeader_port (c : ReportChannel) (k : CellIndex) (length : Nat) (s : State) :
    (writeHeader c k length s).port =
      ((((s.port.setWord (headerAddr k 3) (natWord length)).setWord (headerAddr k 5) s.exc.frameNumber).setWord
        (headerAddr k 2) ((s.reportRow c.row).sequence + 1)).setCell k cellPublished 0).setWord (dirAddr c.number 0)
          (indexWord (some k)) := rfl
theorem writeHeader_faults (c : ReportChannel) (k : CellIndex) (length : Nat) (s : State) :
    (writeHeader c k length s).faults = s.faults := by
  simp [writeHeader]
theorem writeHeader_row (c : ReportChannel) (k : CellIndex) (length : Nat) (s : State) :
    (writeHeader c k length s).reportRow c.row =
      { s.reportRow c.row with sequence := (s.reportRow c.row).sequence + 1, published := some k } := by
  simp [writeHeader]
theorem writeHeader_row_other (c : ReportChannel) (k : CellIndex) (length : Nat) (s : State) {i : Fin 8}
    (h : i ≠ c.row) : (writeHeader c k length s).reportRow i = s.reportRow i := by
  simp [writeHeader, setReportRow_row_other _ _ h]

theorem written_port (c : ReportChannel) (k : CellIndex) (s : State) :
    (written c k s).port = s.port.withReport c k (c.payload (moveCursor c s)) s.exc.frameNumber
      ((s.reportRow c.row).sequence + 1) := by
  simp only [written, writeHeader_port, writePayload_port, writePayload_exc, writePayload_reportRow, moveCursor_port,
    moveCursor_exc, moveCursor_reportRow, startFilling_port, startFilling_frame, startFilling_row, payload_of_filling,
    Port.withReport]

theorem written_row (c : ReportChannel) (k : CellIndex) (s : State) :
    (written c k s).reportRow c.row =
      { s.reportRow c.row with
        changePending := false, sequence := (s.reportRow c.row).sequence + 1, published := some k } := by
  rw [written, writeHeader_row, writePayload_reportRow, moveCursor_reportRow, startFilling_row]

theorem written_row_other (c : ReportChannel) (k : CellIndex) (s : State) {i : Fin 8} (h : i ≠ c.row) :
    (written c k s).reportRow i = s.reportRow i := by
  rw [written, writeHeader_row_other _ _ _ _ h, writePayload_reportRow, moveCursor_reportRow, startFilling_row_other c s h]

theorem moveCursor_started_faults (c : ReportChannel) (s : State) :
    (moveCursor c (startFilling c s)).faults = (moveCursor c s).faults := by
  cases c <;> rfl

theorem written_faults (c : ReportChannel) (k : CellIndex) (s : State) :
    (written c k s).faults = (moveCursor c s).faults := by
  rw [written, writeHeader_faults, writePayload_faults, moveCursor_started_faults]

end Sys2Proof.Machine
end

section
/-! PROOF. The outgoing cell and the end of a filling (R174, R178, R179). -/

namespace Sys2Proof.Machine

open Sys2Proof

/-! ## The outgoing decision (R178) -/

/-- The cells whose state the outgoing decision may write: the outgoing one and, where that becomes HELD, the one held
before. -/
def Returns (c : ReportChannel) (outgoing : Option CellIndex) (s : State) (j : CellIndex) : Prop :=
  outgoing = some j ∨
    ∃ o : CellIndex, outgoing = some o ∧ holdNames s.port c.row o = true ∧ (s.reportRow c.row).held = some j

theorem outgoing_unnamed {c : ReportChannel} {o : CellIndex} {s : State} (h : holdNames s.port c.row o = false) :
    outgoing c (some o) s = setCellState o cellSpare s := by
  simp [outgoing, h]

/-- The outgoing cell set HELD and taken as the channel's held cell. -/
def holdOutgoing (c : ReportChannel) (o : CellIndex) (s : State) : State :=
  setReportRow c.row { s.reportRow c.row with held := some o } (setCellState o cellHeld s)

theorem outgoing_named_first {c : ReportChannel} {o : CellIndex} {s : State} (h : holdNames s.port c.row o = true)
    (hheld : (s.reportRow c.row).held = none) : outgoing c (some o) s = holdOutgoing c o s := by
  simp [outgoing, h, hheld, holdOutgoing]

theorem outgoing_named_next {c : ReportChannel} {o l : CellIndex} {s : State} (h : holdNames s.port c.row o = true)
    (hheld : (s.reportRow c.row).held = some l) :
    outgoing c (some o) s = setCellState l cellSpare (holdOutgoing c o s) := by
  simp [outgoing, h, hheld, holdOutgoing]

/-- The three branches of the outgoing decision for an outgoing cell. -/
theorem outgoing_cases (c : ReportChannel) (o : CellIndex) (s : State) :
    (holdNames s.port c.row o = false ∧ outgoing c (some o) s = setCellState o cellSpare s) ∨
    (holdNames s.port c.row o = true ∧ (s.reportRow c.row).held = none ∧
      outgoing c (some o) s = holdOutgoing c o s) ∨
    ∃ l, holdNames s.port c.row o = true ∧ (s.reportRow c.row).held = some l ∧
      outgoing c (some o) s = setCellState l cellSpare (holdOutgoing c o s) := by
  cases h : holdNames s.port c.row o with
  | false => exact .inl ⟨rfl, outgoing_unnamed h⟩
  | true =>
    cases hheld : (s.reportRow c.row).held with
    | none => exact .inr (.inl ⟨rfl, rfl, outgoing_named_first h hheld⟩)
    | some l => exact .inr (.inr ⟨l, rfl, rfl, outgoing_named_next h hheld⟩)

theorem outgoing_faults (c : ReportChannel) (prev : Option CellIndex) (s : State) :
    (outgoing c prev s).faults = s.faults := by
  cases prev with
  | none => rfl
  | some o =>
    obtain ⟨_, e⟩ | ⟨_, _, e⟩ | ⟨l, _, _, e⟩ := outgoing_cases c o s <;> rw [e] <;> simp [holdOutgoing]

theorem outgoing_row_other (c : ReportChannel) (prev : Option CellIndex) (s : State) {i : Fin 8} (h : i ≠ c.row) :
    (outgoing c prev s).reportRow i = s.reportRow i := by
  cases prev with
  | none => rfl
  | some o =>
    obtain ⟨_, e⟩ | ⟨_, _, e⟩ | ⟨l, _, _, e⟩ := outgoing_cases c o s <;>
      rw [e] <;> simp [holdOutgoing, setReportRow_row_other _ _ h]

/-- The held cell apart, the outgoing decision keeps the row of its channel. -/
theorem outgoing_row (c : ReportChannel) (prev : Option CellIndex) (s : State) :
    (outgoing c prev s).reportRow c.row =
      { s.reportRow c.row with held := ((outgoing c prev s).reportRow c.row).held } := by
  cases prev with
  | none => rfl
  | some o =>
    obtain ⟨_, e⟩ | ⟨_, _, e⟩ | ⟨l, _, _, e⟩ := outgoing_cases c o s <;> rw [e] <;> simp [holdOutgoing]

theorem holdOutgoing_port (c : ReportChannel) (o : CellIndex) (s : State) :
    (holdOutgoing c o s).port = s.port.setCellState o cellHeld := rfl

/-- The outgoing decision writes the state words of the cells it returns, and no other byte. -/
theorem outgoing_byteAt (c : ReportChannel) (prev : Option CellIndex) (s : State) {a : Nat}
    (h : ∀ j, Returns c prev s j → a ≠ headerAddr j 1 ∧ a ≠ headerAddr j 1 + 1) :
    (outgoing c prev s).port.byteAt a = s.port.byteAt a := by
  cases prev with
  | none => rfl
  | some o =>
    have hset (p : Port) {j : CellIndex} (x : Nat) (hj : Returns c (some o) s j) :
        (p.setCellState j x).byteAt a = p.byteAt a := Port.byteAt_setCell_other _ _ _ (h j hj)
    have ho : Returns c (some o) s o := .inl rfl
    obtain ⟨_, e⟩ | ⟨_, _, e⟩ | ⟨l, hnames, hheld, e⟩ := outgoing_cases c o s
    · rw [e, setCellState_port, hset _ _ ho]
    · rw [e, holdOutgoing_port, hset _ _ ho]
    · rw [e, setCellState_port, holdOutgoing_port, hset _ _ (.inr ⟨o, rfl, hnames, hheld⟩), hset _ _ ho]

/-- The outgoing cell the hold word names becomes HELD and the held one; the one held before becomes SPARE. -/
theorem outgoing_named {c : ReportChannel} {o : CellIndex} {s : State} (hwf : Memory.wf s.port.ram = true)
    (hnames : holdNames s.port c.row o = true) (hnew : (s.reportRow c.row).held ≠ some o) :
    ((outgoing c (some o) s).reportRow c.row).held = some o ∧ (outgoing c (some o) s).port.cellState o = cellHeld ∧
      ∀ l, (s.reportRow c.row).held = some l → (outgoing c (some o) s).port.cellState l = cellSpare := by
  have hstate := s.port.cellState_setCellState_same o (x := cellHeld) (by decide) hwf
  cases hheld : (s.reportRow c.row).held with
  | none =>
    rw [outgoing_named_first hnames hheld]
    exact ⟨by simp [holdOutgoing], hstate, fun l hl => nomatch hl⟩
  | some l =>
    have hlo : l ≠ o := fun e => hnew (hheld.trans (congrArg some e))
    rw [outgoing_named_next hnames hheld]
    refine ⟨by simp [holdOutgoing], (Port.cellState_setCellState_other _ _ hlo).trans hstate, fun l' hl => ?_⟩
    obtain rfl := Option.some.inj hl
    exact Port.cellState_setCellState_same _ _ (by decide) (Port.wf_setCell _ _ _ _ hwf)

/-- Another outgoing cell becomes SPARE, and the held one stays. -/
theorem outgoing_spared {c : ReportChannel} {o : CellIndex} {s : State} (hwf : Memory.wf s.port.ram = true)
    (hnames : holdNames s.port c.row o = false) :
    ((outgoing c (some o) s).reportRow c.row).held = (s.reportRow c.row).held ∧
      (outgoing c (some o) s).port.cellState o = cellSpare := by
  rw [outgoing_unnamed hnames]
  exact ⟨rfl, s.port.cellState_setCellState_same o (by decide) hwf⟩

/-! ## ORDER_DONE (R174) -/

@[simp] theorem orderDone_reportRow (c : ReportChannel) (s : State) (i : Fin 8) :
    (orderDone c s).reportRow i = s.reportRow i := by cases c <;> rfl
@[simp] theorem orderDone_faults (c : ReportChannel) (s : State) : (orderDone c s).faults = s.faults := by
  cases c <;> rfl

/-- ORDER_DONE writes the attention mirror alone. -/
theorem orderDone_byteAt (c : ReportChannel) (s : State) {a : Nat} (h : ¬(0x80 ≤ a ∧ a < 0x98)) :
    (orderDone c s).port.byteAt a = s.port.byteAt a := by
  cases c
  case orderResult => exact Port.byteAt_setCause_other s.port _ h
  all_goals rfl

theorem orderDone_wordAt (c : ReportChannel) (s : State) {a : Nat} (h : a + 1 < 0x80 ∨ 0x98 ≤ a) :
    (orderDone c s).port.wordAt a = s.port.wordAt a := by
  unfold Port.wordAt
  rw [orderDone_byteAt c s (by omega), orderDone_byteAt c s (by omega)]

theorem orderDone_cellState (c : ReportChannel) (s : State) (k : CellIndex) :
    (orderDone c s).port.cellState k = s.port.cellState k :=
  Port.cellState_congr (orderDone_wordAt c s (.inr (by have := headerAddr_inside k (j := 1) (by decide); omega)))

/-! ## What a filling leaves (R178) -/

section
variable {c : ReportChannel} {k : CellIndex} {s : State}

/-- The hold word of the channel reads as before its report. -/
theorem written_holdNames (c : ReportChannel) (k : CellIndex) (s : State) (o : CellIndex) :
    holdNames (written c k s).port c.row o = holdNames s.port c.row o := by
  have hkeep {a : Nat} (h : dirAddr c.number 0 + 1 < a) (h80 : a < 0x80) :
      (written c k s).port.byteAt a = s.port.byteAt a := by
    have hheader := headerAddr_inside k (j := 1) (by decide)
    rw [written_port]
    exact Port.byteAt_withReport_other (.inr h) (.inl (by omega)) (.inl (by unfold dataAddr; omega))
  have hhold := dirAddr_lt c (j := 1) (by decide)
  have hnext : dirAddr c.number 1 = dirAddr c.number 0 + 2 := rfl
  have hword : (written c k s).port.wordAt (dirAddr c.number 1) = s.port.wordAt (dirAddr c.number 1) := by
    unfold Port.wordAt
    rw [hkeep (by omega) (by omega), hkeep (by omega) (by omega)]
  unfold holdNames
  exact congrArg (fun w => decide (w = indexWord (some o))) hword

theorem written_held (c : ReportChannel) (k : CellIndex) (s : State) :
    ((written c k s).reportRow c.row).held = (s.reportRow c.row).held := by
  rw [written_row]

/-- The cells the filling returns are those of the state before it. -/
theorem written_returns (c : ReportChannel) (k : CellIndex) (s : State) (prev : Option CellIndex) (j : CellIndex) :
    Returns c prev (written c k s) j ↔ Returns c prev s j := by
  unfold Returns
  simp only [written_holdNames, written_held]

/-- A cell the channel table does not name is not returned. -/
theorem not_returns_of_unnamed (hk : s.exc.names k = false) : ¬Returns c (s.reportRow c.row).published s k := by
  obtain ⟨_, hrows⟩ := (names_iff s k).1 hk
  obtain ⟨hpublished, hheld⟩ := hrows c.row
  rintro (h | ⟨_, _, _, h⟩)
  · exact hpublished h
  · exact hheld h

/-- Beside the report a filling writes the status block and the states of the cells it returns. -/
theorem fill_byteAt {a : Nat} (hstatus : ¬(0x80 ≤ a ∧ a < 0x98))
    (hstates : ∀ j, Returns c (s.reportRow c.row).published s j → a ≠ headerAddr j 1 ∧ a ≠ headerAddr j 1 + 1) :
    (fill [] c k s).port.byteAt a = (written c k s).port.byteAt a := by
  rw [fill_eq, orderDone_byteAt _ _ hstatus, outgoing_byteAt]
  exact fun j hj => hstates j ((written_returns c k s _ j).1 hj)

/-- Outside the headers and the status block a filling writes what the report writes. -/
theorem fill_wordAt_outside {a : Nat} (h : a + 1 < 0x80 ∨ 0x580 ≤ a) :
    (fill [] c k s).port.wordAt a = (written c k s).port.wordAt a := by
  have hheader (j : CellIndex) := headerAddr_inside j (j := 1) (by decide)
  unfold Port.wordAt
  rw [fill_byteAt (by omega) fun j _ => by have := hheader j; omega,
    fill_byteAt (by omega) fun j _ => by have := hheader j; omega]

/-- The header of a cell that is not returned reads as the report left it. -/
theorem fill_header_unreturned {l : CellIndex} (hl : ¬Returns c (s.reportRow c.row).published s l) {a : Nat}
    (h0 : headerAddr l 0 ≤ a) (h5 : a ≤ headerAddr l 5 + 1) :
    (fill [] c k s).port.byteAt a = (written c k s).port.byteAt a := by
  refine fill_byteAt (by unfold headerAddr at h0; omega) fun j hj => ?_
  have hne : l.val ≠ j.val := Fin.val_ne_of_ne fun e => hl (e ▸ hj)
  unfold headerAddr at h0 h5 ⊢
  omega

theorem fill_wordAt_header (hk : s.exc.names k = false) {j : Nat} (hj : j < 6) :
    (fill [] c k s).port.wordAt (headerAddr k j) = (written c k s).port.wordAt (headerAddr k j) := by
  have hkeep {a : Nat} := fill_header_unreturned (c := c) (k := k) (not_returns_of_unnamed hk) (a := a)
  unfold Port.wordAt
  rw [hkeep (by unfold headerAddr; omega) (by unfold headerAddr; omega),
    hkeep (by unfold headerAddr; omega) (by unfold headerAddr; omega)]

theorem fill_faults (c : ReportChannel) (k : CellIndex) (s : State) :
    (fill [] c k s).faults = (moveCursor c s).faults := by
  rw [fill_eq, orderDone_faults, outgoing_faults, written_faults]

/-- The held cell apart, the row of the channel after its report. -/
theorem fill_row (c : ReportChannel) (k : CellIndex) (s : State) :
    (fill [] c k s).reportRow c.row =
      { s.reportRow c.row with
        changePending := false, sequence := (s.reportRow c.row).sequence + 1, published := some k,
        held := ((fill [] c k s).reportRow c.row).held } := by
  have h := outgoing_row c (s.reportRow c.row).published (written c k s)
  rw [fill_eq, orderDone_reportRow]
  rw [written_row] at h
  exact h

theorem fill_row_other (c : ReportChannel) (k : CellIndex) (s : State) {i : Fin 8} (h : i ≠ c.row) :
    (fill [] c k s).reportRow i = s.reportRow i := by
  rw [fill_eq, orderDone_reportRow, outgoing_row_other _ _ _ h, written_row_other _ _ _ h]

theorem fill_orderDone (k : CellIndex) (s : State) : (fill [] .orderResult k s).causeSet .orderDone = true := by
  rw [fill_eq]
  exact setCause_causeSet _ _

/-- The outgoing cell the hold word names becomes HELD and the held one (R178). -/
theorem fill_named {o : CellIndex} (hwf : MemoryInv s) (hprev : (s.reportRow c.row).published = some o)
    (hnames : s.port.wordAt (dirAddr c.number 1) = indexWord (some o)) (hnew : (s.reportRow c.row).held ≠ some o) :
    ((fill [] c k s).reportRow c.row).held = some o ∧ (fill [] c k s).port.cellState o = cellHeld ∧
      ∀ l, (s.reportRow c.row).held = some l → (fill [] c k s).port.cellState l = cellSpare := by
  have hmem : Memory.wf (written c k s).port.ram = true := by
    rw [written_port]
    exact Port.wf_withReport hwf
  have h := outgoing_named (c := c) (o := o) (s := written c k s) hmem
    ((written_holdNames c k s o).trans (decide_eq_true hnames)) (by rwa [written_held])
  rw [written_held] at h
  simpa only [fill_eq, hprev, orderDone_reportRow, orderDone_cellState] using h

/-- Another outgoing cell becomes SPARE, and the held one stays (R178). -/
theorem fill_spared {o : CellIndex} (hwf : MemoryInv s) (hprev : (s.reportRow c.row).published = some o)
    (hnames : s.port.wordAt (dirAddr c.number 1) ≠ indexWord (some o)) :
    ((fill [] c k s).reportRow c.row).held = (s.reportRow c.row).held ∧
      (fill [] c k s).port.cellState o = cellSpare := by
  have hmem : Memory.wf (written c k s).port.ram = true := by
    rw [written_port]
    exact Port.wf_withReport hwf
  have h := outgoing_spared (c := c) (o := o) (s := written c k s) hmem
    ((written_holdNames c k s o).trans (decide_eq_false hnames))
  rw [written_held] at h
  simpa only [fill_eq, hprev, orderDone_reportRow, orderDone_cellState] using h

theorem fill_held_of_none (hprev : (s.reportRow c.row).published = none) :
    ((fill [] c k s).reportRow c.row).held = (s.reportRow c.row).held := by
  rw [fill_eq, hprev, orderDone_reportRow]
  exact written_held c k s

/-- The block of the cell reads the payload. -/
theorem fill_block (hwf : MemoryInv s) (hclass : isLong k = c.long)
    (hblock : blockInside k (s.port.offsetOf k) = true) :
    (fill [] c k s).port.wordsAt (dataAddr (s.port.offsetOf k)) c.words = c.payload (moveCursor c s) := by
  have hlength := payload_length c (moveCursor c s)
  have hheader (j : CellIndex) := headerAddr_inside j (j := 1) (by decide)
  have hread := Port.wordsAt_withReport_block (c := c) (k := k) (payload := c.payload (moveCursor c s))
    (frame := s.exc.frameNumber) (sequence := (s.reportRow c.row).sequence + 1) hwf
    (hlength.symm ▸ block_fits hclass hblock)
  rw [← written_port, hlength] at hread
  refine Eq.trans (Port.wordsAt_congr fun a ha _ => fill_byteAt ?_ fun j _ => ?_) hread
  · unfold dataAddr at ha
    omega
  · have := hheader j
    unfold dataAddr at ha
    omega

/-- Of the data area a filling writes the payload's words alone. -/
theorem fill_data_other {a : Nat} (hdata : 0xD80 ≤ a)
    (h : a < dataAddr (s.port.offsetOf k) ∨ dataAddr (s.port.offsetOf k) + 2 * c.words ≤ a) :
    (fill [] c k s).port.byteAt a = s.port.byteAt a := by
  have hheader (l : CellIndex) {j : Nat} (hj : j < 6) := headerAddr_inside l hj
  have hdir := dirAddr_lt c (j := 0) (by decide)
  have hlast := hheader k (j := 5) (by decide)
  rw [fill_byteAt (by omega) fun j _ => by have := hheader j (j := 1) (by decide); omega, written_port]
  exact Port.byteAt_withReport_other (.inr (by omega)) (.inr (by omega)) (by rwa [payload_length])

/-- The header of a cell that is neither filled nor returned stays. -/
theorem fill_header_other {l : CellIndex} (hlk : l ≠ k) (hl : ¬Returns c (s.reportRow c.row).published s l) :
    (fill [] c k s).port.wordsAt (headerAddr l 0) 6 = s.port.wordsAt (headerAddr l 0) 6 := by
  have hne : l.val ≠ k.val := Fin.val_ne_of_ne hlk
  have hdir := dirAddr_lt c (j := 0) (by decide)
  have hfirst := headerAddr_inside l (j := 0) (by decide)
  have hlast := headerAddr_inside l (j := 5) (by decide)
  refine Port.wordsAt_congr fun a ha hb => ?_
  have hin : a ≤ headerAddr l 5 + 1 := by unfold headerAddr at hb ⊢; omega
  rw [fill_header_unreturned hl ha hin, written_port]
  refine Port.byteAt_withReport_other (.inr (by omega)) ?_ (.inl (by unfold dataAddr; omega))
  unfold headerAddr at ha hin ⊢
  omega

end

end Sys2Proof.Machine
end

section
/-! PROOF. A filled report and the choice of its cell (R177, R178). -/

namespace Sys2Proof.Machine

open Sys2Proof

/-! ## The choice of a cell (R177) -/

/-- A candidate set FREE keeps its header but the state word, and so leaves every other cell as it was for the choice. -/
theorem candidate_setCell {c : ReportChannel} {p : Port} {e : Exc} {k l : CellIndex} (x y : Nat) (h : k ≠ l) :
    candidate c (p.setCell k x y) e l = candidate c p e l := by
  have hchannel := p.wordAt_setCell_other x y (k := k) (l := l) (j := 0) (by decide) (.inl h)
  have hstate : (p.setCell k x y).cellState l = p.cellState l :=
    Port.cellState_congr (p.wordAt_setCell_other x y (by decide) (.inl h))
  have hhold : (p.setCell k x y).wordAt (dirAddr (8 + c.row.val) 1) = p.wordAt (dirAddr (8 + c.row.val) 1) := by
    have hdir : dirAddr (8 + c.row.val) 1 + 1 < 0x80 := dirAddr_lt c (j := 1) (by decide)
    have hheader := headerAddr_inside k (j := 1) (by decide)
    exact Port.wordAt_setWord_other p _ (by omega)
  unfold candidate holdNames
  rw [hchannel, hstate, hhold]

/-- What the choice leaves of the exchange when it passes over the given cells: each reads FREE with BAD_CELL, and every byte
outside their state words, and every register, is as it was. -/
structure PassedOver (passed : CellIndex → Prop) (p q : Port) : Prop where
  memory : Memory.wf p.ram = true → Memory.wf q.ram = true
  attn : q.attn = p.attn
  attnEn : q.attnEn = p.attnEn
  powerUps : q.powerUps = p.powerUps
  freed : Memory.wf p.ram = true →
    ∀ j, passed j → q.wordAt (headerAddr j 1) = packBytes cellFree OutcomeCode.badCell.code
  bytes : ∀ a : Nat, (∀ j, passed j → a ≠ headerAddr j 1 ∧ a ≠ headerAddr j 1 + 1) → q.byteAt a = p.byteAt a

theorem PassedOver.refl {passed : CellIndex → Prop} (p : Port) (h : ∀ j, ¬passed j) : PassedOver passed p p where
  memory := id
  attn := rfl
  attnEn := rfl
  powerUps := rfl
  freed _ j hj := absurd hj (h j)
  bytes _ _ := rfl

theorem PassedOver.congr {f g : CellIndex → Prop} {p q : Port} (h : PassedOver f p q) (hfg : ∀ j, f j ↔ g j) :
    PassedOver g p q := by
  have e : f = g := funext fun j => propext (hfg j)
  exact e ▸ h

/-- One more cell set FREE with BAD_CELL before the rest are. -/
theorem PassedOver.cons {passed : CellIndex → Prop} {p q : Port} {k : CellIndex} (hk : ¬passed k)
    (h : PassedOver passed (p.setCell k cellFree OutcomeCode.badCell.code) q) :
    PassedOver (fun j => j = k ∨ passed j) p q where
  memory hp := h.memory (p.wf_setCell _ _ _ hp)
  attn := h.attn
  attnEn := h.attnEn
  powerUps := h.powerUps
  freed hp j hj := by
    obtain rfl | hj := hj
    · have hkeep {a : Nat} (h0 : headerAddr j 1 ≤ a) (h1 : a ≤ headerAddr j 1 + 1) :
          q.byteAt a = (p.setCell j cellFree OutcomeCode.badCell.code).byteAt a := by
        refine h.bytes a fun l hl => ?_
        have hjl := headerAddr_apart (k := j) (l := l) (i := 1) (j := 1) (by decide) (by decide)
          (.inl fun e => hk (e ▸ hl))
        omega
      rw [← p.wordAt_setCell_same j cellFree OutcomeCode.badCell.code hp]
      unfold Port.wordAt
      rw [hkeep (by omega) (by omega), hkeep (by omega) (by omega)]
    · exact h.freed (p.wf_setCell _ _ _ hp) j hj
  bytes a ha := by
    rw [h.bytes a fun j hj => ha j (.inr hj)]
    exact p.byteAt_setCell_other _ _ (ha k (.inl rfl))

/-- The choice takes the first candidate whose block lies inside the data area, and passes over the candidates before it. -/
theorem choose_first {c : ReportChannel} {e : Exc} {k : CellIndex} (ks : List CellIndex) (p : Port)
    (hsorted : ks.Pairwise (· < ·)) (hmem : k ∈ ks) (hk : candidate c p e k = true)
    (hblock : blockInside k (p.offsetOf k) = true)
    (hbefore : ∀ j ∈ ks, j < k → candidate c p e j = true → blockInside j (p.offsetOf j) = false) :
    ∃ q, choose c e ks p = (q, some k) ∧
      PassedOver (fun j => j ∈ ks ∧ j < k ∧ candidate c p e j = true) p q := by
  induction ks generalizing p with
  | nil => exact absurd hmem List.not_mem_nil
  | cons x xs ih =>
    obtain ⟨hx, hxs⟩ := List.pairwise_cons.1 hsorted
    by_cases hxk : x = k
    · subst hxk
      refine ⟨p, by rw [choose, if_pos hk, if_pos hblock], PassedOver.refl p ?_⟩
      rintro j ⟨hj, hlt, _⟩
      obtain rfl | hj := List.mem_cons.1 hj
      · exact lt_irrefl _ hlt
      · exact lt_asymm (hx j hj) hlt
    · have hin : k ∈ xs := (List.mem_cons.1 hmem).resolve_left fun h => hxk h.symm
      by_cases hcand : candidate c p e x = true
      · have hout := hbefore x List.mem_cons_self (hx k hin) hcand
        have hsame {j : CellIndex} (hj : j ∈ xs) :
            candidate c (p.setCell x cellFree OutcomeCode.badCell.code) e j = candidate c p e j :=
          candidate_setCell _ _ (hx j hj).ne
        obtain ⟨q, hq, hpassed⟩ := ih (p.setCell x cellFree OutcomeCode.badCell.code) hxs hin
          ((hsame hin).trans hk) (by rwa [p.offsetOf_setCell]) fun j hj hlt hc => by
            rw [p.offsetOf_setCell]
            exact hbefore j (List.mem_cons_of_mem _ hj) hlt ((hsame hj).symm.trans hc)
        refine ⟨q, by rw [choose, if_pos hcand, hout, if_neg Bool.false_ne_true, hq], ?_⟩
        refine (PassedOver.cons (fun h => lt_irrefl x (hx x h.1)) hpassed).congr fun j => ?_
        constructor
        · rintro (rfl | ⟨hj, hlt, hc⟩)
          · exact ⟨List.mem_cons_self, hx k hin, hcand⟩
          · exact ⟨List.mem_cons_of_mem _ hj, hlt, (hsame hj).symm.trans hc⟩
        · rintro ⟨hj, hlt, hc⟩
          exact (List.mem_cons.1 hj).imp_right fun hj => ⟨hj, hlt, (hsame hj).trans hc⟩
      · obtain ⟨q, hq, hpassed⟩ := ih p hxs hin hk hblock fun j hj => hbefore j (List.mem_cons_of_mem _ hj)
        refine ⟨q, by rw [choose, if_neg hcand, hq], hpassed.congr fun j => ?_⟩
        constructor
        · rintro ⟨hj, h⟩
          exact ⟨List.mem_cons_of_mem _ hj, h⟩
        · rintro ⟨hj, hlt, hc⟩
          exact ⟨(List.mem_cons.1 hj).resolve_left fun e => hcand (e ▸ hc), hlt, hc⟩

theorem cellsOf_sorted (long : Bool) : (cellsOf long).Pairwise (· < ·) :=
  (List.sortedLT_finRange 96).pairwise.filter _

theorem mem_cellsOf {long : Bool} {k : CellIndex} : k ∈ cellsOf long ↔ isLong k = long := by
  simp [cellsOf]

/-- A candidate is of its channel's class. -/
theorem Candidate.mem_cellsOf {c : ReportChannel} {s : State} {k : CellIndex} (h : Candidate c s k) :
    k ∈ cellsOf c.long := by
  obtain ⟨_, _, hclass, _⟩ := h
  exact Machine.mem_cellsOf.2 hclass

/-- A publication fills the first candidate whose block lies inside the data area. -/
theorem publish_first {c : ReportChannel} {k : CellIndex} {s : State} (hk : Candidate c s k)
    (hblock : blockInside k (s.port.offsetOf k) = true)
    (hbefore : ∀ j : CellIndex, j < k → Candidate c s j → blockInside j (s.port.offsetOf j) = false) :
    ∃ p : Port, publish [] c s = fill [] c k { s with port := p } ∧
      PassedOver (fun j => j < k ∧ Candidate c s j) s.port p := by
  obtain ⟨p, hchoice, hpassed⟩ := choose_first (e := s.exc) (cellsOf c.long) s.port (cellsOf_sorted c.long)
    hk.mem_cellsOf ((candidate_iff c s k).2 hk) hblock fun j _ hlt hc => hbefore j hlt ((candidate_iff c s j).1 hc)
  refine ⟨p, by simp only [publish, hchoice], hpassed.congr fun j => ?_⟩
  rw [candidate_iff]
  exact ⟨fun h => h.2, fun h => ⟨h.2.mem_cellsOf, h⟩⟩

/-! ## The obligation -/

/-- The words of a filled report. -/
theorem fill_reportWords {c : ReportChannel} {k : CellIndex} {s : State} (hwf : MemoryInv s)
    (hclass : isLong k = c.long) (hblock : blockInside k (s.port.offsetOf k) = true) :
    ReportWords c s (fill [] c k s).faults.cursor
      ((fill [] c k s).port.wordsAt (dataAddr (s.port.offsetOf k)) c.words) := by
  rw [fill_faults, fill_block hwf hclass hblock]
  exact payload_words c s

theorem fill_cursor (c : ReportChannel) (k : CellIndex) (s : State) : CursorFollows c s (fill [] c k s) := by
  have h := cursor_follows c s
  unfold CursorFollows at h ⊢
  rwa [fill_faults]

/-- Settles O53: the report is read back word by word from the writes of the filling, and the choice of the cell is followed
over the ascending list of the class. -/
theorem filledReport : Obligations.FilledReport := by
  refine ⟨fun c k s hwf hnames hclass hblock => ?_, fun c k s hwf hk hblock hbefore => ?_⟩
  · have hrow := fill_row c k s
    have hheader {j : Nat} (hj : j < 6) := fill_wordAt_header (c := c) hnames hj
    have hdir := dirAddr_lt c (j := 0) (by decide)
    refine ⟨?published, ?sequence, ?pending, ?state, ?sequenceWord, ?length, ?stamp, ?directory,
      fill_reportWords hwf hclass hblock, fill_cursor c k s, fun a hdata h => fill_data_other hdata h, ?done,
      fun o ho => ⟨fill_named hwf ho, fill_spared hwf ho⟩, fill_held_of_none, ?headers,
      fun i hi => fill_row_other c k s hi⟩
    case published => rw [hrow]
    case sequence => rw [hrow]
    case pending => rw [hrow]
    case state =>
      refine Port.cellState_of_word (x := cellPublished) (y := 0) ?_ (by decide)
      rw [hheader (by decide), written_port, Port.wordAt_withReport_state hwf]
    case sequenceWord => rw [hheader (by decide), written_port, Port.wordAt_withReport_sequence hwf]
    case length =>
      rw [hheader (by decide), written_port, Port.wordAt_withReport_length hwf, payload_length]
      cases c <;> rfl
    case stamp => rw [hheader (by decide), written_port, Port.wordAt_withReport_stamp hwf]
    case directory => rw [fill_wordAt_outside (.inl hdir), written_port, Port.wordAt_withReport_published hwf]
    case done =>
      rintro rfl
      exact fill_orderDone k s
    case headers =>
      intro j hjk hpublished hheld
      refine fill_header_other hjk ?_
      rintro (h | ⟨o, ho, hnamed, h⟩)
      · exact hpublished h
      · exact hheld h o ho (of_decide_eq_true hnamed)
  · obtain ⟨p, hfill, hpassed⟩ := publish_first hk hblock hbefore
    exact ⟨p, hfill, hpassed.memory hwf, hpassed.attn, hpassed.attnEn, hpassed.powerUps,
      fun j hlt hj => hpassed.freed hwf j ⟨hlt, hj⟩, fun a ha => hpassed.bytes a fun j hj => ha j hj.1 hj.2⟩

end Sys2Proof.Machine
end

section
/-! PROOF. The charge content of the energy account: where a step changes it, and its bound by the capacity in force, which
every step keeps (R41, R44, R48). -/

namespace Sys2Proof.Machine

open Sys2Proof

/-! ## ENA's records after an operation of another block -/

theorem ena_of_rest {s t : State} (h : t.rest = s.rest) : t.ena = s.ena := congrArg Rest.ena h

@[simp] theorem dsvSecond_ena (s : State) : (dsvSecond s).ena = s.ena := by
  unfold dsvSecond; split <;> rfl

@[simp] theorem prechargeExpiry_ena (s : State) : (prechargeExpiry s).ena = s.ena := by
  unfold prechargeExpiry; split <;> simp

@[simp] theorem settleExpiry_ena (s : State) : (settleExpiry s).ena = s.ena := by
  unfold settleExpiry; split <;> simp

@[simp] theorem cooldownExpiry_ena (s : State) : (cooldownExpiry s).ena = s.ena := by
  unfold cooldownExpiry; split <;> simp

@[simp] theorem powerDownExpiry_ena (s : State) : (powerDownExpiry s).ena = s.ena := by
  unfold powerDownExpiry; split <;> simp

@[simp] theorem safeStopExpiry_ena (s : State) : (safeStopExpiry s).ena = s.ena := by
  unfold safeStopExpiry; split <;> simp

@[simp] theorem linkArrival_ena (i : LinkId) (s : State) : (linkArrival i s).ena = s.ena :=
  (ena_of_rest (linkArrival_rest i s)).trans rfl

@[simp] theorem inverterArrival_ena (speed voltage motor generator : Int) (s : State) :
    (inverterArrival speed voltage motor generator s).ena = s.ena := by
  have h : (noteInverterArrival s).ena = s.ena := by
    unfold noteInverterArrival; split <;> rfl
  simp [inverterArrival, odometerAddition, takeInverterFields, h]

@[simp] theorem engineArrival_ena (speed torque : Int) (run : Bool) (s : State) :
    (engineArrival speed torque run s).ena = s.ena := linkArrival_ena .engine s

@[simp] theorem brakeArrival_ena (available abs : Bool) (s : State) : (brakeArrival available abs s).ena = s.ena :=
  linkArrival_ena .brake s

@[simp] theorem sensorTest_ena (w : Fin 6) (s : State) : (sensorTest w s).ena = s.ena := by
  unfold sensorTest; dsimp only; split <;> simp

@[simp] theorem sensorTests_ena (ws : List (Fin 6)) (s : State) : (sensorTests ws s).ena = s.ena := by
  induction ws generalizing s with
  | nil => rfl
  | cons w ws ih => rw [sensorTests, ih, sensorTest_ena]

@[simp] theorem updateWheel_ena (w : Fin 6) (x : Wheel) (s : State) : (updateWheel w x s).ena = s.ena := by
  unfold updateWheel; dsimp only; split <;> simp

@[simp] theorem edge_ena (w : Fin 6) (capture : Word) (s : State) : (edge w capture s).ena = s.ena := by
  unfold edge; dsimp only; split <;> simp

@[simp] theorem silenceExpiry_ena (w : Fin 6) (s : State) : (silenceExpiry w s).ena = s.ena := by
  unfold silenceExpiry; split <;> simp

@[simp] theorem ageTest_ena (s : State) : (ageTest s).ena = s.ena := by
  unfold ageTest; dsimp only; split_ifs <;> simp

@[simp] theorem splitFrame_ena (s : State) : (splitFrame s).ena = s.ena := ageTest_ena s

@[simp] theorem cplFrame_ena (s : State) : (cplFrame s).ena = s.ena := congrArg Rest.ena (cplFrame_rest s)

@[simp] theorem cplSecond_ena (s : State) : (cplSecond s).ena = s.ena := by
  unfold cplSecond; split <;> rfl

@[simp] theorem cplKeyOff_ena (s : State) : (cplKeyOff s).ena = s.ena := by
  have hask (u : State) : (askClutchReport s.cpl u).ena = u.ena := ena_of_rest (askClutchReport_rest u s.cpl)
  by_cases h : s.cpl.engine = .lockedOut
  · rw [cplKeyOff_locked s h, hask, clearFault_ena, withCpl_ena]
  · rw [cplKeyOff_free s h, hask, withCpl_ena]

@[simp] theorem blendFrame_ena (s : State) : (blendFrame s).ena = s.ena := congrArg Rest.ena (blendFrame_rest s)

@[simp] theorem outputStep_ena (blendFirst : Bool) (s : State) : (outputStep blendFirst s).ena = s.ena :=
  congrArg Rest.ena (stepBase_rest blendFirst s)

@[simp] theorem logTake_ena (s : State) : (logTake s).ena = s.ena := by
  unfold logTake; dsimp only; split <;> rfl

/-! ## ENA's records after the operations of EXC -/

@[simp] theorem vcWritesPowered_ena (ws : List VcWrite) (s : State) : (vcWritesPowered ws s).ena = s.ena := by
  unfold vcWritesPowered; split <;> rfl

@[simp] theorem returnPrevious_ena (k : Option CellIndex) (s : State) : (returnPrevious k s).ena = s.ena := by
  cases k <;> rfl

@[simp] theorem takeCell_ena (c : OrderChannel) (k : CellIndex) (code : OutcomeCode) (s : State) :
    (takeCell c k code s).ena = s.ena := by
  simp [takeCell]

@[simp] theorem recordOutcome_ena (c : OrderChannel) (k : Nat) (n : Word) (code : OutcomeCode) (f : DetailFlags)
    (s : State) : (recordOutcome c k n code f s).ena = s.ena := rfl

@[simp] theorem refuseOrder_ena (c : OrderChannel) (k : CellIndex) (h : CellHeader) (code : OutcomeCode)
    (f : DetailFlags) (s : State) : (refuseOrder c k h code f s).1.ena = s.ena := by
  unfold refuseOrder refuseCell; split <;> rfl

@[simp] theorem rewriteChannel_ena (c : OrderChannel) (k : CellIndex) (s : State) :
    (rewriteChannel c k s).ena = s.ena := by
  unfold rewriteChannel; split <;> rfl

@[simp] theorem clearPending_ena (c : OrderChannel) (w : Word) (s : State) : (clearPending c w s).ena = s.ena := by
  unfold clearPending; split <;> rfl

@[simp] theorem releaseHold_ena (i : Fin 8) (s : State) : (releaseHold i s).ena = s.ena := by
  unfold releaseHold; split <;> (try split) <;> rfl

@[simp] theorem releaseHolds_ena (is : List (Fin 8)) (s : State) : (releaseHolds is s).ena = s.ena := by
  induction is generalizing s with
  | nil => rfl
  | cons i is ih => rw [releaseHolds, ih, releaseHold_ena]

@[simp] theorem rewrites_ena (s : State) : (rewrites s).ena = s.ena := by
  unfold rewrites; rw [rewriteStatus_ena]

@[simp] theorem countSweep_ena (s : State) : (countSweep s).ena = s.ena := rfl

@[simp] theorem askOrderResult_ena (b : Bool) (s : State) : (askOrderResult b s).ena = s.ena := by
  cases b <;> rfl

@[simp] theorem outgoing_ena (c : ReportChannel) (prev : Option CellIndex) (s : State) :
    (outgoing c prev s).ena = s.ena := by
  unfold outgoing; split <;> (try split) <;> (try split) <;> rfl

@[simp] theorem fill_ena (late : List VcWrite) (c : ReportChannel) (k : CellIndex) (s : State) :
    (fill late c k s).ena = s.ena := by
  have hdone (u : State) : (orderDone c u).ena = u.ena := by cases c <;> rfl
  have hcursor (u : State) : (moveCursor c u).ena = u.ena := by cases c <;> rfl
  have hheader (n : Nat) (u : State) : (writeHeader c k n u).ena = u.ena := by simp [writeHeader]
  have hpayload (u : State) : (writePayload c k u).ena = u.ena := rfl
  have hstart (u : State) : (startFilling c u).ena = u.ena := rfl
  unfold fill
  rw [hdone, outgoing_ena, hheader, vcWrites_ena, hpayload, hcursor, hstart]

@[simp] theorem publish_ena (late : List VcWrite) (c : ReportChannel) (s : State) : (publish late c s).ena = s.ena := by
  unfold publish
  dsimp only
  split
  · exact fill_ena late c _ _
  · exact vcWrites_ena _ late

@[simp] theorem reportTurn_ena (late : List LateWrite) (c : ReportChannel) (s : State) :
    (reportTurn late c s).ena = s.ena := by
  unfold reportTurn
  split
  · exact publish_ena _ _ _
  · rfl

@[simp] theorem reportTurns_ena (late : List LateWrite) (cs : List ReportChannel) (s : State) :
    (reportTurns late cs s).ena = s.ena := by
  induction cs generalizing s with
  | nil => rfl
  | cons c cs ih => rw [reportTurns, ih, reportTurn_ena]

@[simp] theorem reportFrame_ena (late : List LateWrite) (s : State) : (reportFrame late s).ena = s.ena :=
  reportTurns_ena late _ _

/-! ## The three rules that move the charge content -/

/-- The charge content of ENA's records is at most the capacity in force (R41). -/
def Ena.ChargeFits (e : Ena) : Prop := e.charge ≤ e.qCap

/-- A share of at most 10000 parts in 10000. -/
theorem share_le {parts : Nat} (whole : Nat) (h : parts ≤ 10000) : parts * whole / 10000 ≤ whole :=
  Nat.div_le_of_le_mul (Nat.mul_le_mul_right whole h)

/-- The SOC is at most 100.00 % (R42). -/
theorem Ena.ChargeFits.soc_le {e : Ena} (h : e.ChargeFits) : e.soc ≤ 10000 :=
  Nat.div_le_of_le_mul (Nat.mul_le_mul_right 10000 h)

/-- R41 clamps the charge content, whatever it was. -/
theorem integrateCharge_fits (e : Ena) (n : Nat) : (integrateCharge e n).ChargeFits := by
  show (clamp ((e.charge : Int) - e.current * n) 0 e.qCap).toNat ≤ e.qCap
  unfold clamp
  omega

/-- A rescale keeps the SOC (R44). -/
theorem rescale_fits (capacity : Nat) {e : Ena} (h : e.ChargeFits) : (rescale capacity e).ChargeFits := by
  unfold rescale
  split
  · exact h
  · exact share_le (qCapOf capacity) h.soc_le

/-- A rebase sets the SOC to a rest SOC in its range (R47, R48). -/
theorem rebase_fits {restSoc : Nat} (e : Ena) (h : restSoc ≤ 10000) : (rebase restSoc e).ChargeFits := by
  unfold Ena.ChargeFits rebase Ena.qCap
  exact share_le (qCapOf e.capacity) h

/-- Records with the same charge content and capacity. -/
theorem Ena.ChargeFits.of_same {e f : Ena} (h : e.ChargeFits) (hcharge : f.charge = e.charge)
    (hcapacity : f.capacity = e.capacity) : f.ChargeFits := by
  unfold Ena.ChargeFits Ena.qCap at h ⊢
  rw [hcharge, hcapacity]
  exact h

/-! ## Composition -/

/-- The bound of the charge content is kept on the way from s to t. -/
def ChargeKept (s t : State) : Prop := s.ena.ChargeFits → t.ena.ChargeFits

theorem ChargeKept.refl (s : State) : ChargeKept s s := id

theorem ChargeKept.trans {s t u : State} (h : ChargeKept s t) (k : ChargeKept t u) : ChargeKept s u := k ∘ h

theorem ChargeKept.of_ena {s t : State} (h : t.ena = s.ena) : ChargeKept s t := fun hs => h ▸ hs

theorem ChargeKept.of_same {s t : State} (hcharge : t.ena.charge = s.ena.charge)
    (hcapacity : t.ena.capacity = s.ena.capacity) : ChargeKept s t := fun hs => hs.of_same hcharge hcapacity

theorem ChargeKept.ite {s t u : State} {p : Prop} [Decidable p] (h : p → ChargeKept s t) (k : ¬p → ChargeKept s u) :
    ChargeKept s (if p then t else u) := by
  split
  · exact h ‹_›
  · exact k ‹_›

/-! ## ENA's own events -/

theorem monitorExpiry_chargeKept (i : LinkId) (s : State) : ChargeKept s (monitorExpiry i s) := by
  unfold monitorExpiry
  refine .ite (fun _ => ?_) fun _ => .refl s
  cases i <;> exact .of_same (by rw [raiseFault_ena]; rfl) (by rw [raiseFault_ena]; rfl)

theorem enaSecond_chargeKept (s : State) : ChargeKept s (enaSecond s) := by
  have hrest : ChargeKept s (s.withEna (restSecond s.sns.packLink.up s.ena)) := by
    unfold restSecond
    cases s.sns.packLink.up <;> exact .of_same rfl rfl
  exact .ite (fun _ => hrest.trans (.of_ena (wearIncrement_ena _ _ _))) fun _ => hrest

/-- Only the integration of R41 moves the charge content in steps 1 to 4 of R39. -/
theorem accountedEna_fits (k : SampleKind) {s : State} (h : s.ena.ChargeFits) : (accountedEna k s).ChargeFits := by
  cases k with
  | resynchronising outage => rw [accountedEna_resynchronising]; exact h
  | duplicate => unfold accountedEna; rw [restTest_eq]; exact h
  | integrating n =>
    rw [accountedEna_integrating, integratedEna_eq]
    exact integrateCharge_fits (takeSample s).ena n

theorem enaSample_chargeKept (k : SampleKind) (count : Byte) (s : State) : ChargeKept s (enaSample k count s) := by
  intro h
  rw [enaSample_ena_of]
  exact accountedEna_fits k h

theorem packArrival_chargeKept (count : Byte) (current voltage lo hi : Int) (elapsed : Nat) (s : State) :
    ChargeKept s (packArrival count current voltage lo hi elapsed s) := by
  have htaken : ChargeKept s (packTaken count current voltage lo hi s) := .of_ena (packTaken_ena _ _ _ _ _ s)
  have hsample (k : SampleKind) (b : Bool) :
      ChargeKept s (packTests b (enaSample k count (packTaken count current voltage lo hi s))) :=
    (htaken.trans (enaSample_chargeKept k count _)).trans (.of_ena (ena_of_rest (packTests_rest b _)))
  unfold packArrival
  dsimp only
  split
  case h_1 => exact htaken.trans (.of_ena (by rw [dsvSettle_ena, voltageTest_ena]; rfl))
  case h_2 outage _ => exact hsample (.resynchronising outage) _
  case h_3 n _ => exact hsample (.integrating n) _

/-! ## The takes of the owners -/

theorem takeMode_ena (key : Bool) (perm : Permission) (n : Nat) (service ack : Bool) (s : State) :
    (takeMode key perm n service ack s).ena = s.ena := by
  have hstored := ena_of_rest (modeStored_rest key perm n service s)
  have hacted : (modeActed key perm n service s).ena = s.ena := by
    cases key <;> simp [modeActed, hstored]
  cases ack <;> simp [takeMode_eq, hacted]

theorem takeLimits_chargeKept (l : Limits) (s : State) : ChargeKept s (takeLimits l s) := by
  have htested : ChargeKept s (limitsTested l s) := .of_ena (ena_of_rest (limitsTested_rest l s))
  rw [takeLimits_eq]
  exact fun h => rescale_fits l.capacity (htested h)

theorem clearRemainder_chargeKept (c : Counter) (s : State) : ChargeKept s (clearRemainder c s) := by
  unfold clearRemainder
  split <;> exact .of_same rfl rfl

theorem clearCounter_chargeKept (c : Counter) (s : State) : ChargeKept s (clearCounter c s) := by
  intro h
  unfold clearCounter
  dsimp only
  rw [thresholdCheck_ena]
  exact clearRemainder_chargeKept c _ h

theorem eachCounter_chargeKept {f : Counter → State → State} (h : ∀ c s, ChargeKept s (f c s)) (cs : List Counter)
    (s : State) : ChargeKept s (eachCounter f cs s) := by
  induction cs generalizing s with
  | nil => exact .refl s
  | cons c cs ih => exact (h c s).trans (ih _)

/-- What an owner's acceptance keeps, whatever the channel. -/
theorem answer_chargeKept {c : OrderChannel} {p : List Word} {n : Word} {s t : State} {f : DetailFlags}
    (h : c.answer p n s = .taken f t) : ChargeKept s t := by
  cases c <;> dsimp only [OrderChannel.answer] at h
  case demand =>
    unfold checkDemand at h
    split at h <;> cases h
    exact .of_ena (congrArg Rest.ena (takeDemand_rest p n _ s))
  case mode =>
    unfold checkMode at h
    split at h <;> cases h
    exact .of_ena (takeMode_ena _ _ _ _ _ s)
  case limits =>
    unfold checkLimits at h
    split at h <;> (try split at h) <;> cases h
    exact takeLimits_chargeKept _ s
  case acceptance =>
    unfold checkAcceptance at h
    split at h <;> cases h
    exact .of_same rfl rfl
  case engineMap =>
    unfold checkEngineMap at h
    split at h <;> (try split at h) <;> cases h
    exact .of_ena rfl
  case wearSet =>
    unfold checkWearSet at h
    split at h <;> (try split at h) <;> (try split at h) <;> (try split at h) <;> cases h
    · exact eachCounter_chargeKept (fun c u => .of_ena (setThresholds_ena c _ _ u)) _ s
    · exact eachCounter_chargeKept (fun c u => .of_ena (reseedCounter_ena c _ u)) _ s
    · exact eachCounter_chargeKept clearCounter_chargeKept _ s
  case compensation =>
    unfold checkCompensation at h
    split at h <;> (try split at h) <;> (try split at h) <;> (try split at h) <;> (try split at h) <;> cases h
    · exact .of_same rfl rfl
    · rename_i hsoc _
      exact ChargeKept.trans (fun _ => rebase_fits _ (Nat.not_lt.1 hsoc)) (.of_ena (clearFault_ena _ _))
  case logFilter =>
    unfold checkLogFilter at h
    split at h <;> cases h
    exact .of_ena rfl

/-! ## The sweep -/

theorem handToOwner_chargeKept (c : OrderChannel) (k : CellIndex) (h : CellHeader) (f : DetailFlags) (n : Nat)
    (s : State) : ChargeKept s (handToOwner c k h f n s).1 := by
  unfold handToOwner
  split
  case h_1 => exact .of_ena (refuseOrder_ena _ _ _ _ _ s)
  case h_2 added t ht => exact (answer_chargeKept ht).trans (.of_ena (by simp))

theorem examineCell_chargeKept (mid : List VcWrite) (c : OrderChannel) (k : CellIndex) (s : State) :
    ChargeKept s (examineCell mid c k s).1 := by
  have hread : ChargeKept s (vcWrites mid (rewriteChannel c k s)) := .of_ena (by simp)
  unfold examineCell
  dsimp only
  split
  case h_1 => exact .of_ena (refuseOrder_ena _ _ _ _ _ _)
  case h_2 =>
    split
    case h_1 => exact hread.trans (.of_ena (refuseOrder_ena _ _ _ _ _ _))
    case h_2 => exact hread.trans (handToOwner_chargeKept _ _ _ _ _ _)

theorem examine_chargeKept (mid : List VcWrite) (c : OrderChannel) (w : Word) (s : State) :
    ChargeKept s (examine mid c w s).1 := by
  unfold examine
  split
  case h_1 => exact .of_ena rfl
  case h_2 k _ => exact examineCell_chargeKept mid c k s

theorem orderTurn_chargeKept (late : List LateWrite) (c : OrderChannel) (t : State × Bool) :
    ChargeKept t.1 (orderTurn late c t).1 := by
  unfold orderTurn
  dsimp only
  split
  case isTrue => exact .of_ena rfl
  case isFalse =>
    have hearly : ChargeKept t.1 (vcWrites (lateAt late c.number .early) t.1) := .of_ena rfl
    exact (hearly.trans (examine_chargeKept _ c _ _)).trans (.of_ena (by rw [clearPending_ena, vcWrites_ena]))

theorem orderTurns_chargeKept (late : List LateWrite) (cs : List OrderChannel) (t : State × Bool) :
    ChargeKept t.1 (orderTurns late cs t).1 := by
  induction cs generalizing t with
  | nil => exact .refl t.1
  | cons c cs ih => exact (orderTurn_chargeKept late c t).trans (ih _)

theorem intakeSweep_chargeKept (late : List LateWrite) (s : State) : ChargeKept s (intakeSweep late s) :=
  (orderTurns_chargeKept late OrderChannel.all (s, false)).trans (.of_ena (by
    unfold intakeSweep
    simp only [askOrderResult_ena, countSweep_ena, rewrites_ena, releaseHolds_ena]))

/-! ## The resets -/

/-- A keep power-up starts from half the default capacity (R19). -/
theorem endOfKeepPowerUp_fits (s : State) : (endOfKeepPowerUp s).ena.ChargeFits := by
  have hreset : Ena.reset.ChargeFits := by unfold Ena.ChargeFits; decide
  have hraised (u : State) : (rewriteStatus (resetRaisings (retainedLost u))).ena = u.ena :=
    ena_of_rest ((rewriteStatus_rest _).trans ((resetRaisings_rest _).trans (retainedLost_rest u)))
  unfold endOfKeepPowerUp
  rw [hraised]
  exact hreset

theorem endOfKeptReset_chargeKept (kind : ResetCause) (s : State) : ChargeKept s (endOfKeptReset kind s) := by
  have hestablished : ChargeKept s (establish kind s) := .of_same rfl rfl
  exact hestablished.trans (.of_ena (ena_of_rest (endOfKeptReset_rest kind s)))

theorem endOfReset_chargeKept (kind : ResetCause) (s : State) : ChargeKept s (endOfReset kind s) := by
  cases kind
  case keepPowerUp => exact fun _ => endOfKeepPowerUp_fits s
  case mainPowerUp => exact endOfKeptReset_chargeKept .mainPowerUp s
  case pin => exact endOfKeptReset_chargeKept .pin s

theorem powerUp_chargeKept (kind : ResetCause) (vkeep : Bool) (s : State) : ChargeKept s (powerUp kind vkeep s) := by
  unfold powerUp
  dsimp only
  exact .ite (fun _ => .of_ena rfl) fun _ h => endOfReset_chargeKept kind _ h

theorem releaseReset_chargeKept (s : State) : ChargeKept s (releaseReset s) := by
  unfold releaseReset
  dsimp only
  exact .ite (fun _ h => endOfReset_chargeKept _ _ h) fun _ => .of_ena rfl

/-! ## Every command -/

theorem whileRunning_chargeKept {f : State → State} (h : ∀ s, ChargeKept s (f s)) (s : State) :
    ChargeKept s (whileRunning f s) := .ite (fun _ => h s) fun _ => .refl s

theorem whileRunning_enaSame {f : State → State} (h : ∀ s, (f s).ena = s.ena) (s : State) :
    ChargeKept s (whileRunning f s) := whileRunning_chargeKept (fun u => .of_ena (h u)) s

/-- An event of a field message: a discarded one changes nothing (R22). -/
theorem whileRunning_frame_chargeKept {f : State → State} (ok : Bool) (h : ∀ s, ChargeKept s (f s)) (s : State) :
    ChargeKept s (whileRunning (fun t => if ok then f t else t) s) :=
  whileRunning_chargeKept (fun t => .ite (fun _ => h t) fun _ => .refl t) s

theorem exec_chargeKept {c : Instr} {s t : State} (h : exec c s = .next t) : ChargeKept s t := by
  cases c <;> cases h
  case keepPowerUp => exact powerUp_chargeKept _ _ s
  case mainPowerUp => exact powerUp_chargeKept _ _ s
  case pinReset => exact releaseReset_chargeKept s
  case resetAsserted => exact .of_ena rfl
  case mainSupplyLoss => exact .of_ena rfl
  case keepSupplyLoss => exact .of_ena rfl
  case registerWriteIgnored => exact .of_ena (vcWritesPowered_ena _ s)
  case intakeSweep writes late =>
    have hwrites : ChargeKept s (vcWritesPowered writes s) := .of_ena (vcWritesPowered_ena _ s)
    exact hwrites.trans (.ite (fun _ => intakeSweep_chargeKept late _) fun _ => .of_ena (vcWritesPowered_ena _ _))
  case reportFrame writes late =>
    have hwrites : ChargeKept s (vcWritesPowered writes s) := .of_ena (vcWritesPowered_ena _ s)
    exact hwrites.trans (.ite (fun _ => .of_ena (reportFrame_ena late _)) fun _ => .of_ena (vcWritesPowered_ena _ _))
  case splitFrame => exact whileRunning_enaSame splitFrame_ena s
  case outputStep => exact whileRunning_enaSame (outputStep_ena _) s
  case blendFrame => exact whileRunning_enaSame blendFrame_ena s
  case cplFrame => exact whileRunning_enaSame cplFrame_ena s
  case dsvSecondTimer => exact whileRunning_enaSame dsvSecond_ena s
  case cplSecondTimer => exact whileRunning_enaSame cplSecond_ena s
  case enaSecondTimer => exact whileRunning_chargeKept enaSecond_chargeKept s
  case prechargeTimeout => exact whileRunning_enaSame prechargeExpiry_ena s
  case settleTimerExpiry => exact whileRunning_enaSame settleExpiry_ena s
  case cooldownTimerExpiry => exact whileRunning_enaSame cooldownExpiry_ena s
  case powerDownTimerExpiry => exact whileRunning_enaSame powerDownExpiry_ena s
  case safeStopTimerExpiry => exact whileRunning_enaSame safeStopExpiry_ena s
  case linkMonitorExpiry => exact whileRunning_chargeKept (monitorExpiry_chargeKept _) s
  case inverterStatus =>
    exact whileRunning_frame_chargeKept _ (fun u => .of_ena (inverterArrival_ena _ _ _ _ u)) s
  case engineStatus => exact whileRunning_frame_chargeKept _ (fun u => .of_ena (engineArrival_ena _ _ _ u)) s
  case brakeStatus => exact whileRunning_frame_chargeKept _ (fun u => .of_ena (brakeArrival_ena _ _ u)) s
  case packSample => exact whileRunning_frame_chargeKept _ (packArrival_chargeKept _ _ _ _ _ _) s
  case wheelEdge => exact whileRunning_enaSame (edge_ena _ _) s
  case wheelTimerWrap => exact whileRunning_enaSame (fun u => updateWheel_ena _ _ u) s
  case silenceTimerExpiry => exact whileRunning_enaSame (silenceExpiry_ena _) s
  case attnWrite v => exact whileRunning_enaSame (f := attnWrite v) (fun _ => rfl) s
  case attnEnWrite v => exact whileRunning_enaSame (f := attnEnWrite v) (fun _ => rfl) s
  case logTakeWrite => exact whileRunning_enaSame logTake_ena s

/-- Settles O59, by the three rules that move the charge content and a case for each command. -/
theorem stepKeepsChargeInv : Obligations.StepKeepsChargeInv := by
  intro s t h hstep
  unfold step at hstep
  split at hstep
  case h_1 => cases hstep; exact h
  case h_2 c rest _ => exact exec_chargeKept hstep h

end Sys2Proof.Machine
end

section
/-! PROOF. ENA's second timer (R46, R54). -/

namespace Sys2Proof.Machine

open Sys2Proof

/-- The state after the rest timer's second (R46). -/
def restCounted (s : State) : State := s.withEna (restSecond s.sns.packLink.up s.ena)

/-- The second is hot: the pack link is UP, the latest maximum cell temperature at or above the hot threshold (R54). -/
def HotSecond (s : State) : Prop := s.sns.packLink.up = true ∧ (s.dsv.limits.packHot : Int) ≤ s.ena.maxTemp

theorem restSecond_eq (up : Bool) (e : Ena) :
    restSecond up e = { e with restTimer := if up then min (e.restTimer + 1) 65535 else e.restTimer } := by
  cases up <;> rfl

section
variable {s : State}

/-- The test of R54, made after the rest timer's second. -/
theorem hotTest_iff :
    ((restCounted s).sns.packLink.up &&
      decide (((restCounted s).dsv.limits.packHot : Int) ≤ (restCounted s).ena.maxTemp)) = true ↔ HotSecond s := by
  have htemp : (restCounted s).ena.maxTemp = s.ena.maxTemp := by
    unfold restCounted
    rw [withEna_ena, restSecond_eq]
  rw [Bool.and_eq_true, decide_eq_true_iff, htemp]
  rfl

theorem enaSecond_hot (h : HotSecond s) : enaSecond s = wearIncrement false w9 (restCounted s) :=
  if_pos (hotTest_iff.2 h)

theorem enaSecond_cool (h : ¬HotSecond s) : enaSecond s = restCounted s := if_neg (mt hotTest_iff.1 h)

/-- What a second leaves, hot or not: ENA's records with the rest timer moved, and every counter but W9 (R46, R54). -/
theorem enaSecond_leaves (s : State) :
    (enaSecond s).rest = (restCounted s).rest ∧ (enaSecond s).dsv = s.dsv ∧ (enaSecond s).faults = s.faults ∧
      (enaSecond s).exc = s.exc ∧ ∀ c : Counter, c ≠ w9 → (enaSecond s).counter c = s.counter c := by
  by_cases h : HotSecond s
  · rw [enaSecond_hot h]
    exact ⟨wearIncrement_rest _ _ _, wearIncrement_dsv _ _ _, wearIncrement_faults _ _ _, wearIncrement_exc _ _ _,
      fun c hc => wearIncrement_counter_other false _ hc⟩
  · rw [enaSecond_cool h]
    exact ⟨rfl, rfl, rfl, rfl, fun _ _ => rfl⟩

end

/-- Settles O32, by the hot and the cool second. -/
theorem enaSecondCountsRestAndHotTime : Obligations.EnaSecondCountsRestAndHotTime := by
  intro s hrun hlog
  obtain ⟨hrest, hdsv, hfaults, hexc, hother⟩ := enaSecond_leaves s
  have hena : (enaSecond s).ena = restSecond s.sns.packLink.up s.ena := congrArg Rest.ena hrest
  refine ⟨enaSecond s, congrArg Host.Outcome.next (whileRunning_runs _ hrun), hena.trans (restSecond_eq _ _), ?frame,
    hother, fun hhot => ?hot, fun hcool => ?cool, (enaSecond_kept s).frame hlog⟩
  case frame =>
    refine State.eq_of_fields (hrest.trans ?_) hdsv hfaults rfl rfl hexc rfl
    exact congrArg (fun e : Ena => ({ s.rest with ena := e } : Rest)) hena.symm
  case hot =>
    rw [enaSecond_hot hhot, wearIncrement_value]
    rfl
  case cool =>
    rw [enaSecond_cool hcool]
    exact ⟨rfl, rfl, rfl⟩

end Sys2Proof.Machine
end

section
/-! PROOF. The answers to WEAR_SET and ACCEPTANCE (R49, R50, R130, R133 to R137). -/

namespace Sys2Proof.Machine

open Sys2Proof

/-! ## A threshold check of a record whose warned level was set to none -/

/-- The record after its threshold check in s, its warned level none before (R130). -/
def checkedRecord (s : State) (r : WearRecord) : WearRecord :=
  if r.warranted = .none then r
  else { r with warned := r.warranted, stampOdometer := s.sns.odometer, stampSeconds := s.dsv.operatingSeconds }

/-- The log after that check (R131). -/
def checkedLog (s : State) (c : Counter) (r : WearRecord) (l : LogRing) : LogRing :=
  match r.warranted with
  | .urgent => l.afterAppend (entryNow s .wearUrgent (some c) (some (r.value : Int)) (some r.urgent))
  | .advise => l.afterAppend (entryNow s .wearAdvise (some c) (some (r.value : Int)) (some r.advise))
  | .none => l

theorem checkedRecord_congr {s t : State} (hsns : t.sns = s.sns) (hdsv : t.dsv = s.dsv) (r : WearRecord) :
    checkedRecord t r = checkedRecord s r := by
  unfold checkedRecord
  rw [hsns, hdsv]

theorem due_of_unwarned {r : WearRecord} (h : r.warned = .none) :
    r.due = if r.warranted = .none then none else some r.warranted := by
  unfold WearRecord.due WearRecord.warranted
  rw [h]
  by_cases hu : r.urgent ≠ 0 ∧ r.urgent ≤ r.value
  · simp [hu]
  · by_cases ha : r.advise ≠ 0 ∧ r.advise ≤ r.value
    · rw [if_neg fun hd => hu ⟨hd.1, hd.2.1⟩, if_pos ⟨ha.1, ha.2, rfl⟩, if_neg hu, if_pos ha]
      rfl
    · rw [if_neg fun hd => hu ⟨hd.1, hd.2.1⟩, if_neg fun hd => ha ⟨hd.1, hd.2.1⟩, if_neg hu, if_neg ha]
      rfl

section
variable (q : Bool) {c : Counter} {s : State} {r : WearRecord}

theorem thresholdCheck_counter_unwarned (hc : s.counter c = r) (hr : r.warned = .none) :
    (thresholdCheck q c s).counter c = checkedRecord s r := by
  rw [thresholdCheck_counter_same, hc, due_of_unwarned hr]
  unfold checkedRecord
  split_ifs <;> rfl

theorem thresholdCheck_log_unwarned (hc : s.counter c = r) (hr : r.warned = .none) :
    (thresholdCheck q c s).log = checkedLog s c r s.log := by
  rw [thresholdCheck_log, hc, due_of_unwarned hr]
  unfold checkedLog
  cases r.warranted <;> rfl

end

/-! ## One counter's treatment -/

section
variable (c : Counter) (s : State)

/-- The record that SET_THRESHOLDS checks (R135). -/
def thresholdsGiven (advise urgent : Nat) : WearRecord :=
  { s.counter c with advise := advise, urgent := urgent, thresholdsSet := true, warned := .none }

/-- The record that RESEED checks (R136). -/
def valueGiven (value : Nat) : WearRecord := { s.counter c with value := value, warned := .none }

theorem setThresholds_counter (advise urgent : Nat) :
    (setThresholds c advise urgent s).counter c = checkedRecord s (thresholdsGiven c s advise urgent) :=
  thresholdCheck_counter_unwarned false (setCounter_counter_same c _ s) rfl

theorem setThresholds_log (advise urgent : Nat) :
    (setThresholds c advise urgent s).log = checkedLog s c (thresholdsGiven c s advise urgent) s.log :=
  thresholdCheck_log_unwarned false (setCounter_counter_same c _ s) rfl

theorem reseedCounter_counter (value : Nat) :
    (reseedCounter c value s).counter c = checkedRecord s (valueGiven c s value) :=
  thresholdCheck_counter_unwarned false (setCounter_counter_same c _ s) rfl

theorem reseedCounter_log (value : Nat) :
    (reseedCounter c value s).log =
      checkedLog s c (valueGiven c s value)
        (s.log.afterAppend (entryNow s .reseed (some c) (some (value : Int)) none)) :=
  thresholdCheck_log_unwarned false (setCounter_counter_same c _ s) rfl

/-- The state that CLEAR checks: the entry stands, the value is 0 and the remainder is cleared (R137). -/
def clearedUnchecked : State :=
  clearRemainder c (setCounter c (valueGiven c s 0) (logNow .serviceClear (some c) (some ((s.counter c).value : Int)) s))

theorem clearCounter_eq : clearCounter c s = thresholdCheck false c (clearedUnchecked c s) := rfl

end

theorem clearRemainder_wear (c : Counter) (s : State) : (clearRemainder c s).wear = s.wear := by
  unfold clearRemainder; split <;> rfl

theorem clearRemainder_log (c : Counter) (s : State) : (clearRemainder c s).log = s.log := by
  unfold clearRemainder; split <;> rfl

theorem clearRemainder_faults (c : Counter) (s : State) : (clearRemainder c s).faults = s.faults := by
  unfold clearRemainder; split <;> rfl

theorem clearRemainder_exc (c : Counter) (s : State) : (clearRemainder c s).exc = s.exc := by
  unfold clearRemainder; split <;> rfl

theorem clearRemainder_counter (c d : Counter) (s : State) : (clearRemainder c s).counter d = s.counter d := by
  unfold State.counter
  rw [clearRemainder_wear]

section
variable (c : Counter) (s : State)

theorem clearedUnchecked_counter : (clearedUnchecked c s).counter c = valueGiven c s 0 := by
  unfold clearedUnchecked
  rw [clearRemainder_counter]
  exact setCounter_counter_same c _ _

/-- A value of 0 reaches no threshold (R129). -/
theorem valueGiven_zero_warranted : (valueGiven c s 0).warranted = .none := by
  have hn (n : Nat) : ¬(n ≠ 0 ∧ n ≤ 0) := by omega
  exact (if_neg (hn _)).trans (if_neg (hn _))

theorem clearCounter_counter : (clearCounter c s).counter c = valueGiven c s 0 := by
  rw [clearCounter_eq, thresholdCheck_counter_unwarned false (clearedUnchecked_counter c s) rfl]
  exact if_pos (valueGiven_zero_warranted c s)

theorem clearCounter_log :
    (clearCounter c s).log =
      s.log.afterAppend (entryNow s .serviceClear (some c) (some ((s.counter c).value : Int)) none) := by
  rw [clearCounter_eq, thresholdCheck_log_unwarned false (clearedUnchecked_counter c s) rfl]
  unfold checkedLog
  rw [valueGiven_zero_warranted]
  exact clearRemainder_log c _

end

/-- The remainders of the counters that are cleared set to 0 (R137, R103, R117, R55). -/
def clearedRest (cleared : Counter → Bool) (r : Rest) : Rest :=
  { r with
    bbl := { r.bbl with
      remainder1 := if cleared w0 then 0 else r.bbl.remainder1,
      remainder2 := if cleared w1 then 0 else r.bbl.remainder2,
      remainder3 := if cleared w2 then 0 else r.bbl.remainder3 },
    cpl := { r.cpl with slipRemainder := if cleared w3 then 0 else r.cpl.slipRemainder },
    ena := { r.ena with
      dischargeRemainder := if cleared w5 then 0 else r.ena.dischargeRemainder,
      chargeRemainder := if cleared w6 then 0 else r.ena.chargeRemainder } }

theorem clearRemainder_rest (c : Counter) (s : State) :
    (clearRemainder c s).rest = clearedRest (fun d => decide (d = c)) s.rest := by
  match c with
  | 0 | 1 | 2 | 3 | 4 | 5 | 6 | 7 | 8 | 9 => rfl

theorem clearCounter_rest (c : Counter) (s : State) :
    (clearCounter c s).rest = clearedRest (fun d => decide (d = c)) s.rest := by
  rw [clearCounter_eq, thresholdCheck_rest]
  exact clearRemainder_rest c _

theorem clearedRest_clearedRest (f g : Counter → Bool) (r : Rest) :
    clearedRest f (clearedRest g r) = clearedRest (fun d => g d || f d) r := by
  have hzero (a b : Bool) (n : Nat) : (if a then 0 else if b then 0 else n) = if b || a then 0 else n := by
    cases a <;> cases b <;> rfl
  simp only [clearedRest, hzero]

/-! ## The selected counters, one after the other -/

/-- The records that Rest lists replaced. -/
def State.withRest (r : Rest) (s : State) : State :=
  { s with
    supply := r.supply, sns := r.sns, ena := r.ena, spl := r.spl, tqa := r.tqa, cpl := r.cpl, bbl := r.bbl, sent := r.sent,
    pending := r.pending }

theorem mem_selectedCounters (p : List Word) (c : Counter) :
    c ∈ selectedCounters p ↔ (p.getD 1 0).getLsbD c.val = true := by
  have hall : ∀ c : Counter, c ∈ allCounters := by decide
  unfold selectedCounters
  rw [List.mem_filter]
  exact and_iff_right (hall c)

theorem selectedCounters_nodup (p : List Word) : (selectedCounters p).Nodup := by
  have hall : allCounters.Nodup := by decide
  exact hall.filter _

/-- A mask with one position set selects that counter alone. -/
theorem selectedCounters_one {p : List Word} {c : Counter} (h : p.getD 1 0 = BitVec.ofNat 16 (2 ^ c.val)) :
    selectedCounters p = [c] := by
  have hone : ∀ c : Counter,
      (allCounters.filter fun d => (BitVec.ofNat 16 (2 ^ c.val)).getLsbD d.val) = [c] := by decide
  unfold selectedCounters
  rw [h]
  exact hone c

theorem selectedCounters_none {p : List Word} (h : word p 1 = 0) : selectedCounters p = [] := by
  have hzero : p.getD 1 0 = 0 := BitVec.eq_of_toNat_eq h
  unfold selectedCounters
  rw [hzero]
  rfl

/-- A treatment of one counter at a time (R134): it replaces the counter's own record by one that rests on that record, the
odometer and the operating seconds alone, and leaves the other counters, SNS, DSV, the faults, EXC and the reseed window. -/
structure Treats (f : Counter → State → State) (g : State → Counter → WearRecord) : Prop where
  own : ∀ c s, (f c s).counter c = g s c
  other : ∀ {c d : Counter} (s : State), d ≠ c → (f c s).counter d = s.counter d
  congr : ∀ {s t : State} {c : Counter}, t.sns = s.sns → t.dsv = s.dsv → t.counter c = s.counter c → g t c = g s c
  sns : ∀ c s, (f c s).sns = s.sns
  dsv : ∀ c s, (f c s).dsv = s.dsv
  faults : ∀ c s, (f c s).faults = s.faults
  exc : ∀ c s, (f c s).exc = s.exc
  window : ∀ c s, (f c s).wear.windowOpen = s.wear.windowOpen

section
variable {f : Counter → State → State} {g : State → Counter → WearRecord}

theorem Treats.eachCounter_counter (h : Treats f g) {cs : List Counter} (hn : cs.Nodup) (s : State) (d : Counter) :
    (eachCounter f cs s).counter d = if d ∈ cs then g s d else s.counter d := by
  induction cs generalizing s with
  | nil => exact (if_neg List.not_mem_nil).symm
  | cons c cs ih =>
    obtain ⟨hc, hcs⟩ := List.nodup_cons.1 hn
    rw [eachCounter, ih hcs]
    by_cases hd : d = c
    · subst hd
      rw [if_neg hc, if_pos List.mem_cons_self, h.own]
    · rw [h.congr (h.sns c s) (h.dsv c s) (h.other s hd), h.other s hd]
      exact if_congr (by rw [List.mem_cons]; exact (or_iff_right hd).symm) rfl rfl

/-- Beside the counters, the log and the exchange RAM the treatments change at most records that Rest lists. -/
theorem Treats.eachCounter_eq (h : Treats f g) (cs : List Counter) (s : State) {r : Rest}
    (hr : (eachCounter f cs s).rest = r) :
    eachCounter f cs s =
      State.withRest r { s with
        wear := { s.wear with counters := (eachCounter f cs s).wear.counters }, log := (eachCounter f cs s).log,
        port := (eachCounter f cs s).port } := by
  have hwindow := eachCounter_same (fun u : State => u.wear.windowOpen) h.window cs s
  refine State.eq_of_fields hr (eachCounter_same State.dsv h.dsv cs s) (eachCounter_same State.faults h.faults cs s) ?_ rfl
    (eachCounter_same State.exc h.exc cs s) rfl
  exact congrArg (fun b => ({ (eachCounter f cs s).wear with windowOpen := b } : Wear)) hwindow

/-- What a take with these treatments does to the counters, and with one counter selected to the log (R134). -/
theorem Treats.taken (h : Treats f g) (p : List Word) (s : State) {l : Counter → LogRing} (hl : ∀ c, (f c s).log = l c) :
    (∀ c : Counter, (eachCounter f (selectedCounters p) s).counter c =
      if (p.getD 1 0).getLsbD c.val then g s c else s.counter c) ∧
    ∀ c : Counter, p.getD 1 0 = BitVec.ofNat 16 (2 ^ c.val) → (eachCounter f (selectedCounters p) s).log = l c := by
  refine ⟨fun c => ?_, fun c hc => ?_⟩
  · rw [h.eachCounter_counter (selectedCounters_nodup p)]
    exact if_congr (mem_selectedCounters p c) rfl rfl
  · rw [selectedCounters_one hc]
    exact hl c

end

/-! ## The three treatments -/

theorem setThresholds_treats (advise urgent : Counter → Nat) :
    Treats (fun c s => setThresholds c (advise c) (urgent c) s)
      fun s c => checkedRecord s (thresholdsGiven c s (advise c) (urgent c)) where
  own c s := setThresholds_counter c s _ _
  other s hd := (thresholdCheck_counter_other false _ hd).trans (setCounter_counter_other _ s hd)
  congr hsns hdsv hc := by rw [checkedRecord_congr hsns hdsv, thresholdsGiven, hc, thresholdsGiven]
  sns c s := setThresholds_sns c _ _ s
  dsv c s := setThresholds_dsv c _ _ s
  faults c s := setThresholds_faults c _ _ s
  exc c s := setThresholds_exc c _ _ s
  window c s := thresholdCheck_window false c _

theorem reseedCounter_treats (value : Counter → Nat) :
    Treats (fun c s => reseedCounter c (value c) s) fun s c => checkedRecord s (valueGiven c s (value c)) where
  own c s := reseedCounter_counter c s _
  other s hd := (thresholdCheck_counter_other false _ hd).trans (setCounter_counter_other _ s hd)
  congr hsns hdsv hc := by rw [checkedRecord_congr hsns hdsv, valueGiven, hc, valueGiven]
  sns c s := reseedCounter_sns c _ s
  dsv c s := reseedCounter_dsv c _ s
  faults c s := reseedCounter_faults c _ s
  exc c s := reseedCounter_exc c _ s
  window c s := thresholdCheck_window false c _

theorem clearCounter_treats : Treats clearCounter fun s c => valueGiven c s 0 where
  own c s := clearCounter_counter c s
  other {c d} s hd := by
    rw [clearCounter_eq, thresholdCheck_counter_other false _ hd]
    exact (clearRemainder_counter c d _).trans (setCounter_counter_other _ _ hd)
  congr _ _ hc := by rw [valueGiven, hc, valueGiven]
  sns c s := (congrArg Rest.sns (clearCounter_rest c s)).trans rfl
  dsv c s := clearCounter_dsv c s
  faults c s := by
    rw [clearCounter_eq, thresholdCheck_faults]
    exact clearRemainder_faults c _
  exc c s := by
    rw [clearCounter_eq, thresholdCheck_exc]
    exact clearRemainder_exc c _
  window c s := by
    rw [clearCounter_eq, thresholdCheck_window]
    exact (congrArg Wear.windowOpen (clearRemainder_wear c _)).trans rfl

theorem eachCounter_clearCounter_rest (cs : List Counter) (s : State) :
    (eachCounter clearCounter cs s).rest = clearedRest (fun d => decide (d ∈ cs)) s.rest := by
  induction cs generalizing s with
  | nil => rfl
  | cons c cs ih =>
    rw [eachCounter, ih, clearCounter_rest, clearedRest_clearedRest]
    simp only [List.mem_cons, Bool.decide_or]

/-- The remainders of the selected counters (R137). -/
theorem clearSelected_rest (p : List Word) (s : State) :
    (eachCounter clearCounter (selectedCounters p) s).rest =
      clearedRest (fun d => (p.getD 1 0).getLsbD d.val) s.rest := by
  rw [eachCounter_clearCounter_rest]
  simp only [mem_selectedCounters, Bool.decide_eq_true]

/-! ## The answer to WEAR_SET -/

/-- A selected counter's thresholds cross (R133). -/
theorem anyCross_iff (p : List Word) :
    (selectedCounters p).any (thresholdsCross p) = true ↔
      ∃ c : Counter, (p.getD 1 0).getLsbD c.val = true ∧ adviseOf p c ≠ 0 ∧ urgentOf p c ≠ 0 ∧
        urgentOf p c < adviseOf p c := by
  simp only [List.any_eq_true, mem_selectedCounters, thresholdsCross, decide_eq_true_iff]

section
variable {p : List Word} {s : State}

theorem WearOp.ofWord_none {w : Word} (h : 2 < w.toNat) : WearOp.ofWord w = none := by
  unfold WearOp.ofWord
  split
  case h_4 => rfl
  all_goals omega

theorem checkWearSet_refused (h : 2 < word p 0 ∨ 1024 ≤ word p 1) : checkWearSet p s = .refused .range := by
  unfold checkWearSet
  split
  · rfl
  · rename_i op hop
    rcases h with h | h
    · rw [WearOp.ofWord_none h] at hop
      cases hop
    · exact if_pos h

theorem checkWearSet_thresholds (hop : word p 0 = 0) (hmask : word p 1 < 1024) :
    checkWearSet p s =
      if (selectedCounters p).any (thresholdsCross p) then .refused .range
      else .taken DetailFlags.none
        (eachCounter (fun c t => setThresholds c (adviseOf p c) (urgentOf p c) t) (selectedCounters p) s) := by
  have h : WearOp.ofWord (p.getD 0 0) = some .setThresholds := by
    unfold WearOp.ofWord
    rw [show (p.getD 0 0).toNat = 0 from hop]
    rfl
  unfold checkWearSet
  rw [h]
  exact if_neg (Nat.not_le.2 hmask)

theorem checkWearSet_reseed (hop : word p 0 = 1) (hmask : word p 1 < 1024) :
    checkWearSet p s =
      if s.wear.windowOpen then
        .taken DetailFlags.none (eachCounter (fun c t => reseedCounter c (reseedOf p c) t) (selectedCounters p) s)
      else .refused .windowClosed := by
  have h : WearOp.ofWord (p.getD 0 0) = some .reseed := by
    unfold WearOp.ofWord
    rw [show (p.getD 0 0).toNat = 1 from hop]
    rfl
  unfold checkWearSet
  rw [h]
  exact if_neg (Nat.not_le.2 hmask)

theorem checkWearSet_clear (hop : word p 0 = 2) (hmask : word p 1 < 1024) :
    checkWearSet p s =
      if s.dsv.serviceMode then .taken DetailFlags.none (eachCounter clearCounter (selectedCounters p) s)
      else .refused .notInService := by
  have h : WearOp.ofWord (p.getD 0 0) = some .clear := by
    unfold WearOp.ofWord
    rw [show (p.getD 0 0).toNat = 2 from hop]
    rfl
  unfold checkWearSet
  rw [h]
  exact if_neg (Nat.not_le.2 hmask)

end

/-! ## The answer to ACCEPTANCE -/

/-- The content check of R50, edge by edge and entry by entry. -/
theorem acceptanceInRange_iff (p : List Word) :
    acceptanceInRange p = true ↔
      (∀ i, i < 4 → -40 ≤ signedWord p i ∧ signedWord p i ≤ 125) ∧ (∀ i, i < 3 → word p (4 + i) ≤ 10000) ∧
      (∀ i, i < 3 → signedWord p i < signedWord p (i + 1)) ∧ (∀ i, i < 2 → word p (4 + i) < word p (5 + i)) ∧
      ∀ i, i < 40 → word p (7 + i) ≤ 800 := by
  have hentries : ((List.range 40).all fun i => decide (word p (7 + i) ≤ 800)) = true ↔
      ∀ i, i < 40 → word p (7 + i) ≤ 800 := by
    simp only [List.all_eq_true, List.mem_range, decide_eq_true_iff]
  unfold acceptanceInRange
  rw [Bool.and_eq_true, Bool.and_eq_true, decide_eq_true_iff, decide_eq_true_iff, hentries]
  generalize (∀ i, i < 40 → word p (7 + i) ≤ 800) = entries
  simp only [Nat.forall_lt_succ_right, Nat.not_lt_zero, false_imp_iff, implies_true, true_and, Nat.reduceAdd]
  by_cases h : entries
  · simp only [h, and_true]
    omega
  · simp only [h, and_false]

/-- Settles O50, by the check of each operation, the treatment of each selected counter, and the content check of R50. -/
theorem wearSetAndAcceptanceChecks : Obligations.WearSetAndAcceptanceChecks := by
  intro p s
  refine ⟨checkWearSet_refused, fun hmask hop hservice => ?service, fun hmask hop hwindow => ?window,
    fun hop hmask hcross => ?crossed, fun hmask hop => ?empty, fun hop hmask hcross => ?thresholds,
    fun hop hmask hwindow => ?reseed, fun hop hmask hservice => ?clear, fun hn => if_neg (mt (acceptanceInRange_iff p).1 hn),
    fun hf => if_pos ((acceptanceInRange_iff p).2 hf)⟩
  case service => rw [checkWearSet_clear hop hmask, hservice]; rfl
  case window => rw [checkWearSet_reseed hop hmask, hwindow]; rfl
  case crossed => rw [checkWearSet_thresholds hop hmask, if_pos ((anyCross_iff p).2 hcross)]
  case empty => rw [checkWearSet_thresholds hop (by omega), selectedCounters_none hmask]; rfl
  case thresholds =>
    have hfree : ¬(selectedCounters p).any (thresholdsCross p) = true := by
      rw [anyCross_iff]
      rintro ⟨c, hsel, hadvise, hurgent, hlt⟩
      have := hcross c hsel
      omega
    have htreats := setThresholds_treats (adviseOf p) (urgentOf p)
    have hrest := eachCounter_same State.rest (fun c u => setThresholds_rest c (adviseOf p c) (urgentOf p c) u)
      (selectedCounters p) s
    exact ⟨_, (checkWearSet_thresholds hop hmask).trans (if_neg hfree),
      htreats.taken p s fun c => setThresholds_log c s _ _, htreats.eachCounter_eq _ s hrest⟩
  case reseed =>
    have htreats := reseedCounter_treats (reseedOf p)
    have hrest := eachCounter_same State.rest (fun c u => reseedCounter_rest c (reseedOf p c) u) (selectedCounters p) s
    exact ⟨_, (checkWearSet_reseed hop hmask).trans (if_pos hwindow),
      htreats.taken p s fun c => reseedCounter_log c s _, htreats.eachCounter_eq _ s hrest⟩
  case clear =>
    exact ⟨_, (checkWearSet_clear hop hmask).trans (if_pos hservice),
      clearCounter_treats.taken p s fun c => clearCounter_log c s,
      clearCounter_treats.eachCounter_eq _ s (clearSelected_rest p s)⟩

end Sys2Proof.Machine
end

section
/-! PROOF. The torque under a slip hold (R77 to R80). -/

namespace Sys2Proof.Machine

open Sys2Proof

theorem availClamp_nonneg (s : State) {x : Int} (h : 0 ≤ x) : 0 ≤ availClamp s x := by
  unfold availClamp clamp
  omega

theorem le_availClamp_of_nonpos (s : State) {x : Int} (h : x ≤ 0) : x ≤ availClamp s x := by
  unfold availClamp clamp
  omega

/-- The target under a slip hold is not below zero (R77). -/
theorem chooseTarget_slipHold {s : State} (h : s.bbl.slipHold = true) : 0 ≤ (chooseTarget s).1 := by
  rw [chooseTarget_eq, h]
  exact le_max_right _ _

/-- A move of a negative torque under a slip hold leads toward zero and does not cross it (R79). -/
theorem moveTorque_slipHold {i t : Int} (step : Nat) (hi : i < 0) (ht : 0 ≤ t) :
    i ≤ moveTorque true i t step ∧ moveTorque true i t step ≤ 0 := by
  have hlimit : moveLimit true i t step = 8 * (step : Int) := by
    rw [moveLimit_eq, if_pos ⟨rfl, hi⟩]
  unfold moveTorque clamp
  rw [hlimit]
  dsimp only
  split_ifs with hcross <;> omega

theorem outputTorque_slipHold {s : State} (hhold : s.bbl.slipHold = true) (hneg : s.tqa.issued < 0) :
    s.tqa.issued ≤ (outputTorque s).issued := by
  cases hflows : s.dsv.state.torqueFlows with
  | false =>
    rw [outputTorque_stopped hflows]
    exact hneg.le
  | true =>
    have htarget : 0 ≤ availClamp s (chooseTarget s).1 := availClamp_nonneg s (chooseTarget_slipHold hhold)
    obtain ⟨hrises, hnonpos⟩ := moveTorque_slipHold s.dsv.limits.torqueStep hneg htarget
    rw [outputTorque_flows hflows, hhold]
    exact hrises.trans (le_availClamp_of_nonpos s hnonpos)

/-- Settles O39, by the torque that the step fixes before anything else; a step that does not run changes nothing. -/
theorem slipHoldNeverDeepensTorque : Obligations.SlipHoldNeverDeepensTorque := by
  intro blendFirst s t hhold hneg hexec
  cases hrun : s.running with
  | false =>
    rw [exec_idle rfl hrun] at hexec
    exact (congrArg (fun u : State => u.tqa.issued) (Host.Outcome.next.inj hexec)).le
  | true =>
    rw [exec_outputStep blendFirst hrun] at hexec
    obtain rfl := Host.Outcome.next.inj hexec
    exact outputTorque_slipHold hhold hneg

end Sys2Proof.Machine
end

section
/-! PROOF. The split frame: the snapshot that its age test leaves, the availability and the demanded torque, the shares, and the
staleness ramp (R62 to R74). -/

namespace Sys2Proof.Machine

open Sys2Proof

/-! ## DSV's settings and the records beside DSV under the age test -/

theorem safeStopReaction_settings (k : FaultKind) (became : Bool) (s : State) :
    (safeStopReaction k became s).dsv.mode = s.dsv.mode ∧ (safeStopReaction k became s).dsv.limits = s.dsv.limits := by
  unfold safeStopReaction
  cases s.dsv.state <;> dsimp only
  case precharge =>
    split
    · rw [abortPrecharge_dsv]; exact ⟨rfl, rfl⟩
    · exact ⟨rfl, rfl⟩
  case standby => exact ⟨rfl, rfl⟩
  case faulted => exact ⟨rfl, rfl⟩
  all_goals split <;> exact ⟨rfl, rfl⟩

theorem shutdownReaction_settings (k : FaultKind) (became : Bool) (s : State) :
    (shutdownReaction k became s).dsv.mode = s.dsv.mode ∧ (shutdownReaction k became s).dsv.limits = s.dsv.limits := by
  have hreact : (if became then shutdown k s else s).dsv.mode = s.dsv.mode ∧
      (if became then shutdown k s else s).dsv.limits = s.dsv.limits := by
    split
    · rw [shutdown_dsv]; exact ⟨rfl, rfl⟩
    · exact ⟨rfl, rfl⟩
  unfold shutdownReaction
  cases s.dsv.state
  case standby => exact ⟨rfl, rfl⟩
  case faulted => exact ⟨rfl, rfl⟩
  all_goals exact hreact

theorem dsvOnRaise_settings (k : FaultKind) (became : Bool) (s : State) :
    (dsvOnRaise k became s).dsv.mode = s.dsv.mode ∧ (dsvOnRaise k became s).dsv.limits = s.dsv.limits := by
  have settled {u : State} (h : u.dsv.mode = s.dsv.mode ∧ u.dsv.limits = s.dsv.limits) :
      (dsvSettle u).dsv.mode = s.dsv.mode ∧ (dsvSettle u).dsv.limits = s.dsv.limits := by
    obtain ⟨hmode, hlimits⟩ := h
    obtain ⟨hmode', -, hlimits'⟩ := dsvSettle_settings u
    exact ⟨hmode'.trans hmode, hlimits'.trans hlimits⟩
  unfold dsvOnRaise
  cases k.reactionClass
  case shutdown => exact settled (shutdownReaction_settings k became s)
  case safeStop => exact settled (safeStopReaction_settings k became s)
  all_goals exact settled ⟨rfl, rfl⟩

theorem raiseFault_settings (k : FaultKind) (s : State) :
    (raiseFault k s).dsv.mode = s.dsv.mode ∧ (raiseFault k s).dsv.limits = s.dsv.limits :=
  dsvOnRaise_settings k _ (raisedFault k s)

theorem staleTested_settings (s : State) :
    (staleTested s).dsv.mode = s.dsv.mode ∧ (staleTested s).dsv.limits = s.dsv.limits := by
  unfold staleTested
  split
  · exact raiseFault_settings .demandStale s
  · exact ⟨rfl, rfl⟩

theorem lostTested_settings (s : State) :
    (lostTested s).dsv.mode = s.dsv.mode ∧ (lostTested s).dsv.limits = s.dsv.limits := by
  unfold lostTested
  split
  · exact raiseFault_settings .demandLost s
  · exact ⟨rfl, rfl⟩

theorem lostTested_rest (s : State) : (lostTested s).rest = s.rest := by
  unfold lostTested
  split
  · exact raiseFault_rest _ s
  · rfl

theorem ageTest_cases (s : State) :
    ageTest s = lostTested (staleTested (demandAged s)) ∨ ageTest s = demandAged s := by
  by_cases h : s.dsv.state = .drive ∨ s.dsv.state = .limp
  · exact .inl (ageTest_driving h)
  · obtain ⟨hdrive, hlimp⟩ := not_or.1 h
    exact .inr (ageTest_resting hdrive hlimp)

theorem ageTest_settings (s : State) :
    (ageTest s).dsv.mode = s.dsv.mode ∧ (ageTest s).dsv.limits = s.dsv.limits := by
  rcases ageTest_cases s with h | h <;> rw [h]
  · obtain ⟨hmode, hlimits⟩ := staleTested_settings (demandAged s)
    obtain ⟨hmode', hlimits'⟩ := lostTested_settings (staleTested (demandAged s))
    exact ⟨hmode'.trans hmode, hlimits'.trans hlimits⟩
  · exact ⟨rfl, rfl⟩

theorem ageTest_rest (s : State) : (ageTest s).rest = (demandAged s).rest := by
  rcases ageTest_cases s with h | h <;> rw [h]
  exact (lostTested_rest _).trans (staleTested_rest _)

/-! ## The snapshot -/

/-- What the split frame computes from: the records before it, the age counted, and the driveline state that the age test has
left (R64, log 18). -/
def splitSnapshot (s : State) : State :=
  { demandAged s with dsv := { s.dsv with state := (ageTest s).dsv.state } }

theorem splitCompute_ageTest (s : State) : splitCompute (ageTest s) = splitCompute (splitSnapshot s) := by
  obtain ⟨hmode, hlimits⟩ := ageTest_settings s
  have hrest := ageTest_rest s
  have hspl : (ageTest s).spl = (demandAged s).spl := congrArg Rest.spl hrest
  have hsns : (ageTest s).sns = s.sns := congrArg Rest.sns hrest
  have hcpl : (ageTest s).cpl = s.cpl := congrArg Rest.cpl hrest
  unfold splitCompute State.shaftMagnitude
  rw [hmode, hlimits, hspl, hsns, hcpl, ageTest_ena]
  rfl

/-- A request of a frame after the staleness ramp: what the computation gave, and the request of the previous frame (R63). -/
def rampedRequest (stale : Bool) (previous computed : Int) (step : Nat) : Int :=
  if stale then betweenZeroAnd computed (towardZero previous step) else computed

/-- SPL's records after a split frame (R62 to R72). -/
theorem splitFrame_spl (s : State) :
    (splitFrame s).spl =
      { splitCompute (splitSnapshot s) with
        propulsionRequest :=
          rampedRequest ((splitFrame s).faults.isActive .demandStale) s.spl.propulsionRequest
            (splitCompute (splitSnapshot s)).propulsionRequest s.dsv.limits.torqueStep,
        engineRequest :=
          rampedRequest ((splitFrame s).faults.isActive .demandStale) s.spl.engineRequest
            (splitCompute (splitSnapshot s)).engineRequest s.dsv.limits.torqueStep } := by
  obtain ⟨-, hlimits⟩ := ageTest_settings s
  have hspl : (ageTest s).spl = (demandAged s).spl := congrArg Rest.spl (ageTest_rest s)
  rw [splitFrame_faults]
  unfold splitFrame
  dsimp only
  rw [splitCompute_ageTest, hlimits, hspl]
  cases (ageTest s).faults.isActive .demandStale with
  | false => rfl
  | true => rfl

/-- A split frame changes SPL's records alone of those outside DSV, the fault table, the wear monitor and the log. -/
theorem splitFrame_rest (s : State) : (splitFrame s).rest = { s.rest with spl := (splitFrame s).spl } := by
  show ({ (ageTest s).rest with spl := (splitFrame s).spl } : Rest) = _
  rw [ageTest_rest]
  rfl

/-! ## The demanded torque (R66) -/

theorem tDemOf_eq (d : DemandImage) (l : Limits) (st : DrivelineState) (roadSpeed tMax : Nat) :
    tDemOf d l st roadSpeed tMax =
      (if d.doorsOpen = true ∨ d.direction = .neutral ∨ (st ≠ .drive ∧ st ≠ .limp) ∨ l.maxRoadSpeed ≤ roadSpeed then 0
      else
        let asked := d.accelerator * tMax / 1000
        let capped := if st = .limp then min asked (tMax * l.limpFraction / 1000) else asked
        if d.direction = .reverse then -((min capped (tMax * 300 / 1000) : Nat) : Int) else (capped : Int)) := by
  unfold tDemOf
  simp only [drives_eq, Bool.or_eq_true, decide_eq_true_eq, Bool.not_eq_true', decide_eq_false_iff_not, not_or, or_assoc]

/-- Settles O35, by the snapshot that the age test has left. -/
theorem splitFrameFormsAvailability : Obligations.SplitFrameFormsAvailability := by
  intro s hrun hlog n neff l
  have hexec := exec_splitFrame hrun
  have hspl := splitFrame_spl s
  refine ⟨_, hexec, ?age, ?tMax, ?motoring, ?generating, ?demanded, ?n, ?roadSpeed, ?soc, ?pDis, ?pChg, ?image, ?moving,
    ?sequence, ?points, ?valid, State.eq_of_fields (splitFrame_rest s) rfl rfl rfl rfl rfl rfl,
    event_frame rfl (fun v => Instr.noConfusion) hlog hexec⟩
  case demanded =>
    rw [hspl]
    exact tDemOf_eq _ _ _ _ _
  all_goals rw [hspl]; rfl

/-! ## The engine map (R74) -/

section
variable {n : Nat} {p : MapPoint}

theorem mapLookup_low (points : List MapPoint) (h : n ≤ p.speed) :
    mapLookup (p :: points) n = ((p.tOpt : Int), (p.tMax : Int)) := by
  cases points with
  | nil => rfl
  | cons q qs => exact if_pos h

/-- Above the first point's speed the lookup interpolates to the second, or goes on from it. -/
theorem mapLookup_above {q : MapPoint} (points : List MapPoint) (h : p.speed < n) :
    mapLookup (p :: q :: points) n =
      if n < q.speed then (interpolate p.tOpt q.tOpt p.speed q.speed n, interpolate p.tMax q.tMax p.speed q.speed n)
      else mapLookup (q :: points) n := if_neg (Nat.not_le.2 h)

theorem mapLookup_last {points : List MapPoint} (hlast : points.getLast? = some p)
    (hbelow : ∀ r ∈ points.dropLast, r.speed < n) (h : p.speed ≤ n) :
    mapLookup points n = ((p.tOpt : Int), (p.tMax : Int)) := by
  induction points with
  | nil => cases hlast
  | cons r rs ih =>
    cases rs with
    | nil =>
      obtain rfl : r = p := Option.some.inj hlast
      rfl
    | cons q qs =>
      have hlast' : (q :: qs).getLast? = some p := hlast
      have hbelow' : ∀ r ∈ (q :: qs).dropLast, r.speed < n := fun v hv => hbelow v (List.mem_cons_of_mem r hv)
      have hq : ¬n < q.speed := by
        cases qs with
        | nil =>
          obtain rfl : q = p := Option.some.inj hlast'
          exact Nat.not_lt.2 h
        | cons v vs => exact Nat.not_lt.2 (hbelow' q List.mem_cons_self).le
      rw [mapLookup_above qs (hbelow r List.mem_cons_self), if_neg hq]
      exact ih hlast' hbelow'

theorem interpolate_start (v0 v1 s1 : Nat) : interpolate v0 v1 n s1 n = v0 := by
  simp [interpolate]

theorem mapLookup_between {points : List MapPoint} {i : Nat} {q : MapPoint} (hp : points[i]? = some p)
    (hq : points[i + 1]? = some q) (hbelow : ∀ r ∈ points.take i, r.speed < n) (hlow : p.speed ≤ n) (hhigh : n < q.speed) :
    mapLookup points n =
      (interpolate p.tOpt q.tOpt p.speed q.speed n, interpolate p.tMax q.tMax p.speed q.speed n) := by
  induction i generalizing points with
  | zero =>
    obtain _ | ⟨a, _ | ⟨b, rest⟩⟩ := points
    · cases hp
    · cases hq
    obtain rfl : a = p := Option.some.inj hp
    obtain rfl : b = q := Option.some.inj hq
    rcases hlow.eq_or_lt with rfl | hlt
    · rw [mapLookup_low _ le_rfl, interpolate_start, interpolate_start]
    · rw [mapLookup_above rest hlt, if_pos hhigh]
  | succ j ih =>
    obtain _ | ⟨a, _ | ⟨b, rest⟩⟩ := points
    · cases hp
    · cases hp
    have hb : ¬n < b.speed := by
      cases j with
      | zero =>
        obtain rfl : b = p := Option.some.inj hp
        exact Nat.not_lt.2 hlow
      | succ m => exact Nat.not_lt.2 (hbelow b (List.mem_cons_of_mem a List.mem_cons_self)).le
    rw [mapLookup_above rest (hbelow a List.mem_cons_self), if_neg hb]
    exact ih hp hq fun r hr => hbelow r (List.mem_cons_of_mem a hr)

end

/-- The lookup by its three cases: at the first point, at the last one, and between two. -/
theorem mapLookup_gives (points : List MapPoint) (n : Nat) :
    MapGives points n (mapLookup points n).1 (mapLookup points n).2 := by
  refine ⟨fun p hp hn => ?_, fun p hp hbelow hn => ?_, fun i p q hp hq hbelow hlow hhigh => ?_⟩
  · cases points with
    | nil => cases hp
    | cons a rest =>
      obtain rfl : a = p := Option.some.inj hp
      rw [mapLookup_low rest hn]
      exact ⟨rfl, rfl⟩
  · rw [mapLookup_last hp hbelow hn]
    exact ⟨rfl, rfl⟩
  · rw [mapLookup_between hp hq hbelow hlow hhigh]
    exact ⟨rfl, rfl⟩

/-! ## Mode and shares (R68 to R70) -/

theorem splitModeOf_eq (c : CouplingState) (d : Direction) (st : DrivelineState) :
    splitModeOf c d st = if c = .coupled ∧ d = .forward ∧ (st = .drive ∨ st = .limp) then .hybrid else .electric := by
  unfold splitModeOf
  simp only [drives_eq, decide_eq_true_eq]

/-- The shares in HYBRID: the map's best torque corrected by the SOC, the motor's rest within its availability, and the engine
taking up or cut back to what the motor leaves (R69). -/
theorem hybridShare_cases (tDem tOpt tEmax : Int) (kSoc soc socTarget tMot tGen : Nat) :
    let bias : Int := ((kSoc : Int) * ((soc : Int) - socTarget)).tdiv 100
    let share : Int := max 0 (min (tOpt - bias) tEmax)
    let rest : Int := tDem - share
    let given := hybridShare tDem tOpt tEmax kSoc soc socTarget tMot tGen
    ((tMot : Int) < rest → given.1 = tMot ∧ given.2 = min (tDem - tMot) tEmax) ∧
    (rest ≤ tMot → rest < -(tGen : Int) → given.1 = -(tGen : Int) ∧ given.2 = min (tDem - -(tGen : Int)) tEmax) ∧
    (rest ≤ tMot → -(tGen : Int) ≤ rest → given.1 = rest ∧ given.2 = share) := by
  intro bias share rest given
  have hgiven : given =
      if (tMot : Int) < rest then ((tMot : Int), min (tDem - tMot) tEmax)
      else if rest < -(tGen : Int) then (-(tGen : Int), min (tDem + tGen) tEmax) else (rest, share) := rfl
  rw [hgiven]
  refine ⟨fun hmore => ?_, fun hle hless => ?_, fun hle hge => ?_⟩
  · rw [if_pos hmore]
    exact ⟨rfl, rfl⟩
  · rw [if_neg hle.not_gt, if_pos hless, sub_neg_eq_add]
    exact ⟨rfl, rfl⟩
  · rw [if_neg hle.not_gt, if_neg hge.not_gt]
    exact ⟨rfl, rfl⟩

section
variable {s : State}

theorem splitCompute_hybrid (h : splitModeOf s.cpl.coupling s.spl.demand.direction s.dsv.state = .hybrid) :
    ((splitCompute s).propulsionRequest, (splitCompute s).engineRequest) =
      hybridShare (splitCompute s).tDem (mapLookup s.spl.mapPoints s.shaftMagnitude).1
        (mapLookup s.spl.mapPoints s.shaftMagnitude).2 s.dsv.limits.kSoc s.ena.soc s.dsv.mode.socTarget
        (splitCompute s).tMotAvail (splitCompute s).tGenAvail := by
  unfold splitCompute
  dsimp only
  rw [h]

theorem splitCompute_electric (h : splitModeOf s.cpl.coupling s.spl.demand.direction s.dsv.state = .electric) :
    (splitCompute s).propulsionRequest =
        electricShare s.spl.demand.direction (splitCompute s).tDem (splitCompute s).tMotAvail ∧
      (splitCompute s).engineRequest = 0 := by
  unfold splitCompute
  dsimp only
  rw [h]
  exact ⟨rfl, rfl⟩

end

/-! ## The staleness ramp (R63) -/

/-- While the demand is stale a request falls by at least the torque step, or is 0. -/
theorem rampedRequest_stale_natAbs (previous computed : Int) (step : Nat) :
    (rampedRequest true previous computed step).natAbs ≤ previous.natAbs - step := by
  rw [rampedRequest, if_pos rfl]
  unfold betweenZeroAnd towardZero clamp
  split_ifs <;> omega

theorem rampedRequest_of_zero (stale : Bool) (previous : Int) (step : Nat) : rampedRequest stale previous 0 step = 0 := by
  unfold rampedRequest betweenZeroAnd clamp
  split_ifs <;> omega

/-! ## The frame -/

theorem splitFrame_mode (s : State) :
    (splitFrame s).spl.mode =
      if s.cpl.coupling = .coupled ∧ s.spl.demand.direction = .forward ∧
          ((splitFrame s).dsv.state = .drive ∨ (splitFrame s).dsv.state = .limp) then .hybrid
      else .electric := by
  rw [splitFrame_spl]
  exact splitModeOf_eq _ _ _

theorem splitFrame_shared (s : State) : SplitShared s (splitFrame s) := by
  have hspl := splitFrame_spl s
  have hmode := splitModeOf_eq s.cpl.coupling s.spl.demand.direction (splitFrame s).dsv.state
  refine ⟨(splitCompute (splitSnapshot s)).propulsionRequest, (splitCompute (splitSnapshot s)).engineRequest,
    splitFrame_mode s, fun hhybrid => ?hybrid, fun helectric => ?electric, ?shortfall, ?run, ?propulsion, ?engine⟩
  case hybrid =>
    rw [if_pos hhybrid] at hmode
    obtain ⟨hmotor, hengine⟩ := Prod.mk.inj (splitCompute_hybrid (s := splitSnapshot s) hmode)
    refine ⟨_, _, mapLookup_gives s.spl.mapPoints s.sns.shaftSpeed.natAbs, ?_⟩
    rw [hspl, hmotor, hengine]
    exact hybridShare_cases _ _ _ _ _ _ _ _
  case electric =>
    rw [if_neg helectric] at hmode
    obtain ⟨hmotor, hengine⟩ := splitCompute_electric (s := splitSnapshot s) hmode
    rw [hspl, hmotor]
    exact ⟨hengine, rfl⟩
  all_goals rw [hspl]; rfl

/-- Settles O37, by the shares of the snapshot and the ramp after them. -/
theorem splitSharesAndStaleness : Obligations.SplitSharesAndStaleness := by
  intro s hrun
  have hspl := splitFrame_spl s
  refine ⟨_, exec_splitFrame hrun, splitFrame_shared s, fun hapart => ?apart, fun hstale => ?stale⟩
  case apart =>
    have hnot : ¬(s.cpl.coupling = .coupled ∧ s.spl.demand.direction = .forward ∧
        ((splitFrame s).dsv.state = .drive ∨ (splitFrame s).dsv.state = .limp)) := by
      tauto
    have hmode := splitModeOf_eq s.cpl.coupling s.spl.demand.direction (splitFrame s).dsv.state
    rw [if_neg hnot] at hmode
    obtain ⟨-, hengine⟩ := splitCompute_electric (s := splitSnapshot s) hmode
    refine ⟨(splitFrame_mode s).trans (if_neg hnot), ?_⟩
    rw [hspl]
    dsimp only
    rw [hengine, rampedRequest_of_zero]
  case stale =>
    rw [hspl, hstale]
    exact ⟨rampedRequest_stale_natAbs _ _ _, rampedRequest_stale_natAbs _ _ _⟩

end Sys2Proof.Machine
end

section
/-! PROOF. EXC leaves every record but its own, and no event of another block changes CPL's records. -/

namespace Sys2Proof.Machine

open Sys2Proof

/-! ## EXC changes its own records, the exchange RAM and the detail cursor -/

theorem vcWritesPowered_rest (ws : List VcWrite) (s : State) : (vcWritesPowered ws s).rest = s.rest := by
  unfold vcWritesPowered
  split <;> rfl

theorem takeCell_rest (c : OrderChannel) (k : CellIndex) (code : OutcomeCode) (s : State) :
    (takeCell c k code s).rest = s.rest := by
  have hprevious (o : Option CellIndex) (u : State) : (returnPrevious o u).rest = u.rest := by
    cases o <;> rfl
  simp [takeCell, hprevious]

theorem refuseOrder_rest (c : OrderChannel) (k : CellIndex) (h : CellHeader) (code : OutcomeCode) (f : DetailFlags)
    (s : State) : (refuseOrder c k h code f s).1.rest = s.rest := by
  unfold refuseOrder refuseCell
  split <;> rfl

theorem rewriteChannel_rest (c : OrderChannel) (k : CellIndex) (s : State) : (rewriteChannel c k s).rest = s.rest := by
  unfold rewriteChannel
  split <;> rfl

theorem clearPending_rest (c : OrderChannel) (w : Word) (s : State) : (clearPending c w s).rest = s.rest := by
  unfold clearPending
  split <;> rfl

theorem releaseHold_rest (i : Fin 8) (s : State) : (releaseHold i s).rest = s.rest := by
  unfold releaseHold
  split
  · rfl
  · split <;> rfl

theorem releaseHolds_rest (is : List (Fin 8)) (s : State) : (releaseHolds is s).rest = s.rest := by
  induction is generalizing s with
  | nil => rfl
  | cons i is ih => rw [releaseHolds, ih, releaseHold_rest]

theorem rewrites_rest (s : State) : (rewrites s).rest = s.rest := by
  unfold rewrites
  rw [rewriteStatus_rest]
  rfl

theorem askOrderResult_rest (written : Bool) (s : State) : (askOrderResult written s).rest = s.rest := by
  cases written <;> rfl

theorem countSweep_rest (s : State) : (countSweep s).rest = s.rest := rfl

/-- Steps 2 to 4 of a sweep, and the publication request after them (R169, R174). -/
theorem sweepEnd_rest (written : Bool) (s : State) :
    (askOrderResult written (countSweep (rewrites (releaseHolds allReportRows s)))).rest = s.rest := by
  rw [askOrderResult_rest, countSweep_rest, rewrites_rest, releaseHolds_rest]

theorem outgoing_rest (c : ReportChannel) (prev : Option CellIndex) (s : State) : (outgoing c prev s).rest = s.rest := by
  unfold outgoing
  split
  · rfl
  · split
    · split <;> rfl
    · rfl

theorem fill_rest (late : List VcWrite) (c : ReportChannel) (k : CellIndex) (s : State) :
    (fill late c k s).rest = s.rest := by
  have hdone (u : State) : (orderDone c u).rest = u.rest := by cases c <;> rfl
  have hcursor (u : State) : (moveCursor c u).rest = u.rest := by cases c <;> rfl
  have hheader (n : Nat) (u : State) : (writeHeader c k n u).rest = u.rest := by simp [writeHeader]
  have hpayload (u : State) : (writePayload c k u).rest = u.rest := rfl
  have hstart (u : State) : (startFilling c u).rest = u.rest := rfl
  unfold fill
  rw [hdone, outgoing_rest, hheader, vcWrites_rest, hpayload, hcursor, hstart]

theorem publish_rest (late : List VcWrite) (c : ReportChannel) (s : State) : (publish late c s).rest = s.rest := by
  unfold publish
  dsimp only
  split
  · exact fill_rest late c _ _
  · exact vcWrites_rest late _

theorem reportTurn_rest (late : List LateWrite) (c : ReportChannel) (s : State) : (reportTurn late c s).rest = s.rest := by
  unfold reportTurn
  split
  · exact publish_rest _ _ _
  · rfl

theorem reportTurns_rest (late : List LateWrite) (cs : List ReportChannel) (s : State) :
    (reportTurns late cs s).rest = s.rest := by
  induction cs generalizing s with
  | nil => rfl
  | cons c cs ih => rw [reportTurns, ih, reportTurn_rest]

theorem reportFrame_rest (late : List LateWrite) (s : State) : (reportFrame late s).rest = s.rest :=
  reportTurns_rest late _ _

/-! ## The events of the other blocks leave CPL's records -/

theorem cpl_of_rest {s t : State} (h : t.rest = s.rest) : t.cpl = s.cpl := congrArg Rest.cpl h

theorem linkArrival_cpl (i : LinkId) (s : State) : (linkArrival i s).cpl = s.cpl :=
  (cpl_of_rest (linkArrival_rest i s)).trans rfl

theorem monitorExpiry_cpl (i : LinkId) (s : State) : (monitorExpiry i s).cpl = s.cpl := by
  unfold monitorExpiry
  split
  · rw [raiseFault_cpl]
    cases i <;> rfl
  · rfl

theorem inverterArrival_cpl (speed voltage motor generator : Int) (s : State) :
    (inverterArrival speed voltage motor generator s).cpl = s.cpl := by
  have htaken := congrArg Rest.cpl (inverterTaken_rest speed voltage motor generator s)
  unfold inverterArrival
  rw [dsvSettle_cpl, voltageTest_cpl]
  exact htaken

theorem engineArrival_cpl (speed torque : Int) (run : Bool) (s : State) : (engineArrival speed torque run s).cpl = s.cpl :=
  linkArrival_cpl .engine s

theorem brakeArrival_cpl (available abs : Bool) (s : State) : (brakeArrival available abs s).cpl = s.cpl :=
  linkArrival_cpl .brake s

theorem updateWheel_cpl (i : Fin 6) (x : Wheel) (s : State) : (updateWheel i x s).cpl = s.cpl :=
  congrArg Rest.cpl (updateWheel_tested i x s).rest

theorem wheelChanged_cpl (i : Fin 6) (x : Wheel) (s : State) : (wheelChanged i x s).cpl = s.cpl :=
  congrArg Rest.cpl (wheelChanged_tested i x s).rest

theorem silenceExpiry_cpl (i : Fin 6) (s : State) : (silenceExpiry i s).cpl = s.cpl := by
  unfold silenceExpiry
  split
  · rfl
  · exact congrArg Rest.cpl (sensorTest_tested i _).rest

theorem packArrival_cpl (count : Byte) (current voltage lo hi : Int) (elapsed : Nat) (s : State) :
    (packArrival count current voltage lo hi elapsed s).cpl = s.cpl := by
  have htaken : (packTaken count current voltage lo hi s).cpl = s.cpl :=
    congrArg Rest.cpl (packTaken_rest count current voltage lo hi s)
  have hsample (k : SampleKind) (b : Bool) :
      (packTests b (enaSample k count (packTaken count current voltage lo hi s))).cpl = s.cpl :=
    (cpl_of_rest (packTests_rest b _)).trans
      ((congrArg Rest.cpl (enaSample_rest k count _)).trans htaken)
  unfold packArrival
  dsimp only
  split
  case h_1 =>
    rw [dsvSettle_cpl, voltageTest_cpl]
    exact htaken
  case h_2 outage _ => exact hsample (.resynchronising outage) _
  case h_3 n _ => exact hsample (.integrating n) _

theorem enaSecond_cpl (s : State) : (enaSecond s).cpl = s.cpl := by
  unfold enaSecond
  dsimp only
  split
  · exact wearIncrement_cpl _ _ _
  · rfl

theorem prechargeExpiry_cpl (s : State) : (prechargeExpiry s).cpl = s.cpl := by
  unfold prechargeExpiry
  split <;> simp

theorem powerDownExpiry_cpl (s : State) : (powerDownExpiry s).cpl = s.cpl := by
  unfold powerDownExpiry
  split <;> simp

theorem settleExpiry_cpl (s : State) : (settleExpiry s).cpl = s.cpl := by
  unfold settleExpiry
  split <;> simp

theorem cooldownExpiry_cpl (s : State) : (cooldownExpiry s).cpl = s.cpl := by
  unfold cooldownExpiry
  split <;> simp

theorem safeStopExpiry_cpl (s : State) : (safeStopExpiry s).cpl = s.cpl := by
  unfold safeStopExpiry
  split <;> simp

theorem dsvSecond_cpl (s : State) : (dsvSecond s).cpl = s.cpl := by
  unfold dsvSecond
  split <;> rfl

theorem logTake_cpl (s : State) : (logTake s).cpl = s.cpl := by
  unfold logTake
  dsimp only
  split <;> rfl

theorem whileRunning_cpl {f : State → State} (h : ∀ u, (f u).cpl = u.cpl) (s : State) : (whileRunning f s).cpl = s.cpl := by
  unfold whileRunning
  split
  · exact h s
  · rfl

/-- An event of a field message: a discarded one changes nothing (R22). -/
theorem whileRunning_frame_cpl {f : State → State} (ok : Bool) (h : ∀ u, (f u).cpl = u.cpl) (s : State) :
    (whileRunning (fun t => if ok then f t else t) s).cpl = s.cpl := by
  refine whileRunning_cpl (fun u => ?_) s
  split
  · exact h u
  · rfl

/-- CPL's records change at no event but CPL's own frame and second timer. -/
theorem event_cpl {c : Instr} {s t : State} (hc : c.needsRunning = true) (hframe : c ≠ .cplFrame)
    (hsecond : c ≠ .cplSecondTimer) (h : exec c s = .next t) : t.cpl = s.cpl := by
  cases c <;> cases hc <;> cases h
  case cplFrame => exact absurd rfl hframe
  case cplSecondTimer => exact absurd rfl hsecond
  case splitFrame => exact whileRunning_cpl (fun u => congrArg Rest.cpl (splitFrame_rest u)) s
  case outputStep b => exact whileRunning_cpl (f := outputStep b) (fun u => congrArg Rest.cpl (stepBase_rest b u)) s
  case blendFrame => exact whileRunning_cpl (fun u => congrArg Rest.cpl (blendFrame_rest u)) s
  case dsvSecondTimer => exact whileRunning_cpl dsvSecond_cpl s
  case enaSecondTimer => exact whileRunning_cpl enaSecond_cpl s
  case prechargeTimeout => exact whileRunning_cpl prechargeExpiry_cpl s
  case settleTimerExpiry => exact whileRunning_cpl settleExpiry_cpl s
  case cooldownTimerExpiry => exact whileRunning_cpl cooldownExpiry_cpl s
  case powerDownTimerExpiry => exact whileRunning_cpl powerDownExpiry_cpl s
  case safeStopTimerExpiry => exact whileRunning_cpl safeStopExpiry_cpl s
  case linkMonitorExpiry i => exact whileRunning_cpl (monitorExpiry_cpl i) s
  case inverterStatus => exact whileRunning_frame_cpl _ (inverterArrival_cpl _ _ _ _) s
  case engineStatus => exact whileRunning_frame_cpl _ (engineArrival_cpl _ _ _) s
  case brakeStatus => exact whileRunning_frame_cpl _ (brakeArrival_cpl _ _) s
  case packSample => exact whileRunning_frame_cpl _ (packArrival_cpl _ _ _ _ _ _) s
  case wheelEdge => exact whileRunning_cpl (fun u => wheelChanged_cpl _ _ u) s
  case wheelTimerWrap => exact whileRunning_cpl (fun u => updateWheel_cpl _ _ u) s
  case silenceTimerExpiry => exact whileRunning_cpl (silenceExpiry_cpl _) s
  case attnWrite v => exact whileRunning_cpl (f := attnWrite v) (fun _ => rfl) s
  case attnEnWrite v => exact whileRunning_cpl (f := attnEnWrite v) (fun _ => rfl) s
  case logTakeWrite => exact whileRunning_cpl logTake_cpl s

end Sys2Proof.Machine
end

section
/-! PROOF. A rule that speaks of CPL's records alone, and that CPL's own operations keep, is kept by every step. -/

namespace Sys2Proof.Machine

open Sys2Proof

theorem takeLimits_cpl (l : Limits) (s : State) : (takeLimits l s).cpl = s.cpl := by
  rw [takeLimits_eq]
  exact congrArg Rest.cpl (limitsTested_rest l s)

/-- A rule of CPL's records that each operation on them keeps: a reset, the frame, the second timer, a key OFF, the
slip remainder cleared, and the clutch released by RESET (R19, R82, R83, R86, R90, R137). -/
structure CplRule (P : Cpl → Prop) : Prop where
  reset : P Cpl.reset
  frame : ∀ s : State, P s.cpl → P (cplFrame s).cpl
  countdown : ∀ (c : Cpl) (n : Nat), P c → P { c with countdown := n }
  keyOff : ∀ c : Cpl, P c → P (keyOffCpl c)
  slip : ∀ (c : Cpl) (n : Nat), P c → P { c with slipRemainder := n }
  released : ∀ c : Cpl, P c → P { c with position := 0 }

section
variable {P : Cpl → Prop} {s : State}

theorem cplRule_of_cpl {t : State} (h : P s.cpl) (ht : t.cpl = s.cpl) : P t.cpl := ht ▸ h

theorem cplRule_of_rest {t : State} (h : P s.cpl) (ht : t.rest = s.rest) : P t.cpl := cplRule_of_cpl h (cpl_of_rest ht)

variable (rule : CplRule P)
include rule

/-! ## The takes of the owners -/

/-- What an owner's acceptance keeps, whatever the channel. -/
theorem CplRule.answer {c : OrderChannel} {p : List Word} {n : Word} {t : State} {f : DetailFlags}
    (ht : c.answer p n s = .taken f t) (h : P s.cpl) : P t.cpl := by
  cases c <;> dsimp only [OrderChannel.answer] at ht
  case demand =>
    unfold checkDemand at ht
    split at ht <;> cases ht
    exact cplRule_of_cpl h (congrArg Rest.cpl (takeDemand_rest p n _ s))
  case mode =>
    unfold checkMode at ht
    split at ht <;> cases ht
    rw [takeMode_cpl]
    split
    · exact h
    · exact rule.keyOff _ h
  case limits =>
    unfold checkLimits at ht
    split at ht <;> (try split at ht) <;> cases ht
    exact cplRule_of_cpl h (takeLimits_cpl _ s)
  case acceptance =>
    unfold checkAcceptance at ht
    split at ht <;> cases ht
    exact h
  case engineMap =>
    unfold checkEngineMap at ht
    split at ht <;> (try split at ht) <;> cases ht
    exact h
  case wearSet =>
    unfold checkWearSet at ht
    split at ht <;> (try split at ht) <;> (try split at ht) <;> (try split at ht) <;> cases ht
    · exact cplRule_of_cpl h (eachCounter_same State.cpl (fun c u => setThresholds_cpl c _ _ u) _ s)
    · exact cplRule_of_cpl h (eachCounter_same State.cpl (fun c u => reseedCounter_cpl c _ u) _ s)
    · have hcleared : (eachCounter clearCounter (selectedCounters p) s).cpl = _ := congrArg Rest.cpl (clearSelected_rest p s)
      rw [hcleared]
      exact rule.slip s.cpl _ h
  case compensation =>
    unfold checkCompensation at ht
    split at ht <;> (try split at ht) <;> (try split at ht) <;> (try split at ht) <;> (try split at ht) <;> cases ht
    · exact h
    · exact cplRule_of_cpl h (clearFault_cpl _ _)
  case logFilter =>
    unfold checkLogFilter at ht
    split at ht <;> cases ht
    exact h

/-! ## The sweep -/

theorem CplRule.handToOwner (c : OrderChannel) (k : CellIndex) (hd : CellHeader) (f : DetailFlags) (n : Nat)
    (h : P s.cpl) : P (handToOwner c k hd f n s).1.cpl := by
  unfold Sys2Proof.Machine.handToOwner
  split
  case h_1 => exact cplRule_of_rest h (refuseOrder_rest _ _ _ _ _ _)
  case h_2 added t ht => exact cplRule_of_rest (rule.answer ht h) (takeCell_rest c k _ t)

theorem CplRule.examineCell (mid : List VcWrite) (c : OrderChannel) (k : CellIndex) (h : P s.cpl) :
    P (examineCell mid c k s).1.cpl := by
  have hread : P (vcWrites mid (rewriteChannel c k s)).cpl :=
    cplRule_of_rest h ((vcWrites_rest mid _).trans (rewriteChannel_rest c k s))
  unfold Sys2Proof.Machine.examineCell
  dsimp only
  split
  case h_1 => exact cplRule_of_rest h (refuseOrder_rest _ _ _ _ _ _)
  case h_2 =>
    split
    case h_1 => exact cplRule_of_rest hread (refuseOrder_rest _ _ _ _ _ _)
    case h_2 => exact rule.handToOwner _ _ _ _ _ hread

theorem CplRule.examine (mid : List VcWrite) (c : OrderChannel) (w : Word) (h : P s.cpl) :
    P (examine mid c w s).1.cpl := by
  unfold Sys2Proof.Machine.examine
  split
  case h_1 => exact h
  case h_2 k _ => exact rule.examineCell mid c k h

theorem CplRule.orderTurn (late : List LateWrite) (c : OrderChannel) {t : State × Bool} (h : P t.1.cpl) :
    P (orderTurn late c t).1.cpl := by
  unfold Sys2Proof.Machine.orderTurn
  dsimp only
  split
  case isTrue => exact h
  case isFalse =>
    have hexamined := rule.examine (s := vcWrites (lateAt late c.number .early) t.1) (lateAt late c.number .mid) c
      (t.1.port.wordAt (dirAddr c.number 1)) h
    exact cplRule_of_rest hexamined ((clearPending_rest c _ _).trans (vcWrites_rest _ _))

theorem CplRule.orderTurns (late : List LateWrite) (cs : List OrderChannel) {t : State × Bool} (h : P t.1.cpl) :
    P (orderTurns late cs t).1.cpl := by
  induction cs generalizing t with
  | nil => exact h
  | cons c cs ih => exact ih (rule.orderTurn late c h)

theorem CplRule.intakeSweep (late : List LateWrite) (h : P s.cpl) : P (intakeSweep late s).cpl :=
  cplRule_of_rest (rule.orderTurns late OrderChannel.all (t := (s, false)) h) (sweepEnd_rest _ _)

/-! ## The resets -/

theorem CplRule.endOfReset (kind : ResetCause) (s : State) : P (endOfReset kind s).cpl := by
  have hreset (n : Nat) : P { Cpl.reset with slipRemainder := n } := rule.slip _ n rule.reset
  cases kind
  case keepPowerUp =>
    have hraised (u : State) : (rewriteStatus (resetRaisings (retainedLost u))).rest = u.rest :=
      (rewriteStatus_rest _).trans ((resetRaisings_rest _).trans (retainedLost_rest u))
    exact cplRule_of_rest (s := establish .keepPowerUp (initialiseRetained s)) (hreset 0) (hraised _)
  case mainPowerUp => exact cplRule_of_rest (s := establish .mainPowerUp s) (hreset _) (endOfKeptReset_rest .mainPowerUp s)
  case pin => exact cplRule_of_rest (s := establish .pin s) (hreset _) (endOfKeptReset_rest .pin s)

theorem CplRule.powerUp (kind : ResetCause) (vkeep : Bool) (h : P s.cpl) : P (powerUp kind vkeep s).cpl := by
  unfold Sys2Proof.Machine.powerUp
  dsimp only
  split
  · exact h
  · exact rule.endOfReset kind _

theorem CplRule.releaseReset (h : P s.cpl) : P (releaseReset s).cpl := by
  unfold Sys2Proof.Machine.releaseReset
  dsimp only
  split
  · exact rule.endOfReset _ _
  · exact h

/-! ## Every command -/

theorem CplRule.cplSecond (h : P s.cpl) : P (cplSecond s).cpl := by
  unfold Sys2Proof.Machine.cplSecond
  split
  · exact rule.countdown s.cpl _ h
  · exact h

theorem CplRule.exec {c : Instr} {t : State} (ht : exec c s = .next t) (h : P s.cpl) : P t.cpl := by
  have hwritten (ws : List VcWrite) : P (vcWritesPowered ws s).cpl := cplRule_of_rest h (vcWritesPowered_rest ws s)
  cases c
  case keepPowerUp => cases ht; exact rule.powerUp _ _ h
  case mainPowerUp => cases ht; exact rule.powerUp _ _ h
  case pinReset => cases ht; exact rule.releaseReset h
  case resetAsserted => cases ht; exact rule.released s.cpl h
  case mainSupplyLoss => cases ht; exact h
  case keepSupplyLoss => cases ht; exact h
  case registerWriteIgnored => cases ht; exact hwritten _
  case intakeSweep writes late =>
    unfold Sys2Proof.Machine.exec execIntakeSweep at ht
    cases ht
    split
    · exact rule.intakeSweep late (hwritten writes)
    · exact cplRule_of_rest (hwritten writes) (vcWritesPowered_rest _ _)
  case reportFrame writes late =>
    unfold Sys2Proof.Machine.exec execReportFrame at ht
    cases ht
    split
    · exact cplRule_of_rest (hwritten writes) (reportFrame_rest late _)
    · exact cplRule_of_rest (hwritten writes) (vcWritesPowered_rest _ _)
  case cplFrame =>
    cases ht
    unfold whileRunning
    split
    · exact rule.frame s h
    · exact h
  case cplSecondTimer =>
    cases ht
    unfold whileRunning
    split
    · exact rule.cplSecond h
    · exact h
  all_goals exact cplRule_of_cpl h (event_cpl rfl Instr.noConfusion Instr.noConfusion ht)

theorem CplRule.step {t : State} (hstep : step s = .next t) (h : P s.cpl) : P t.cpl := by
  unfold Sys2Proof.Machine.step at hstep
  split at hstep
  case h_1 => cases hstep; exact h
  case h_2 c queue _ => exact rule.exec (s := s.withPending queue) hstep h

end

end Sys2Proof.Machine
end

section
/-! PROOF. Step 9 of the CPL frame by engine state: the crank attempts, the lock-out and the stop (R87 to R92). -/

namespace Sys2Proof.Machine

open Sys2Proof

/-! ## Step 9 by engine state -/

section
variable {w : State}

theorem moveEngine_off (h : w.cpl.engine = .off) : moveEngine w = stepOff w := by
  unfold moveEngine
  rw [h]

theorem moveEngine_cranking (h : w.cpl.engine = .cranking) : moveEngine w = stepCranking w := by
  unfold moveEngine
  rw [h]

theorem moveEngine_stopping (h : w.cpl.engine = .stopping) : moveEngine w = stepStopping w := by
  unfold moveEngine
  rw [h]

theorem moveEngine_lockedOut (h : w.cpl.engine = .lockedOut) : moveEngine w = w := by
  unfold moveEngine
  rw [h]

/-- An engine OFF is cranked: it is wanted, its link is UP and no delay runs (R87). -/
def crankBegins (w : State) : Bool :=
  w.cpl.wantOn && w.sns.engineLink.up && decide (w.cpl.failureWait = 0) && decide (w.cpl.stallBlock = 0)

theorem crankBegins_iff :
    crankBegins w = true ↔
      w.cpl.wantOn = true ∧ w.sns.engineLink.up = true ∧ w.cpl.failureWait = 0 ∧ w.cpl.stallBlock = 0 := by
  unfold crankBegins
  simp only [Bool.and_eq_true, decide_eq_true_iff, and_assoc]

theorem stepOff_begins (h : crankBegins w = true) :
    stepOff w = wearIncrement false w4 (w.withCpl { w.cpl with engine := .cranking, crankTimer := 0 }) := if_pos h

theorem stepOff_stays (h : crankBegins w = false) : stepOff w = w := if_neg (Bool.eq_false_iff.1 h)

/-- A crank attempt is still wanted, with the engine link UP (R89). -/
def crankHeld (w : State) : Bool := w.cpl.wantOn && w.sns.engineLink.up

/-- CPL's records with the crank timer counted (R88). -/
def crankTimed (w : State) : Cpl := { w.cpl with crankTimer := min (w.cpl.crankTimer + 1) 150 }

theorem stepCranking_abandons (h : crankHeld w = false) :
    stepCranking w = w.withCpl { crankTimed w with engine := .off } := by
  refine if_pos ?_
  rw [← Bool.not_and]
  exact congrArg not h

theorem stepCranking_held (h : crankHeld w = true) :
    stepCranking w =
      if 500 ≤ w.sns.engineSpeed then w.withCpl { crankTimed w with engine := .running }
      else if (crankTimed w).crankTimer = 150 then
        (if w.cpl.crankCount + 1 < 3 then
          w.withCpl { crankTimed w with engine := .off, crankCount := w.cpl.crankCount + 1, failureWait := 200 }
        else
          logNow .startFailed none (some 3)
            (raiseFault .engineStartFailed (w.withCpl { crankTimed w with engine := .lockedOut, crankCount := 3 })))
      else w.withCpl (crankTimed w) := by
  refine if_neg ?_
  rw [← Bool.not_and]
  exact fun hn => Bool.noConfusion (h.symm.trans (Bool.not_eq_true' _ ▸ hn))

section
variable (h : crankHeld w = true)
include h

theorem stepCranking_succeeds (hfast : 500 ≤ w.sns.engineSpeed) :
    stepCranking w = w.withCpl { crankTimed w with engine := .running } := by
  rw [stepCranking_held h, if_pos hfast]

variable (hslow : w.sns.engineSpeed < 500)
include hslow

theorem stepCranking_goesOn (ht : (crankTimed w).crankTimer < 150) : stepCranking w = w.withCpl (crankTimed w) := by
  rw [stepCranking_held h, if_neg (Nat.not_le.2 hslow), if_neg (Nat.ne_of_lt ht)]

theorem stepCranking_fails (ht : (crankTimed w).crankTimer = 150) (hcount : w.cpl.crankCount + 1 < 3) :
    stepCranking w =
      w.withCpl { crankTimed w with engine := .off, crankCount := w.cpl.crankCount + 1, failureWait := 200 } := by
  rw [stepCranking_held h, if_neg (Nat.not_le.2 hslow), if_pos ht, if_pos hcount]

theorem stepCranking_locksOut (ht : (crankTimed w).crankTimer = 150) (hcount : 3 ≤ w.cpl.crankCount + 1) :
    stepCranking w =
      logNow .startFailed none (some 3)
        (raiseFault .engineStartFailed (w.withCpl { crankTimed w with engine := .lockedOut, crankCount := 3 })) := by
  rw [stepCranking_held h, if_neg (Nat.not_le.2 hslow), if_pos ht, if_neg (Nat.not_lt.2 hcount)]

end

/-- What a frame of a crank attempt does: CPL's records alone, or with them ENGINE_START_FAILED; the failed attempts stay, or
are counted up to three (R88, R89). -/
theorem stepCranking_outcome (w : State) :
    ∃ c : Cpl, (c.crankCount = w.cpl.crankCount ∨ c.crankCount ≤ 3) ∧
      (stepCranking w = w.withCpl c ∨
        stepCranking w = logNow .startFailed none (some 3) (raiseFault .engineStartFailed (w.withCpl c))) := by
  cases h : crankHeld w
  case false => exact ⟨{ crankTimed w with engine := .off }, .inl rfl, .inl (stepCranking_abandons h)⟩
  case true =>
    rw [stepCranking_held h]
    split
    · exact ⟨{ crankTimed w with engine := .running }, .inl rfl, .inl rfl⟩
    · split
      · split
        case isTrue hcount => exact ⟨_, .inr (Nat.le_of_lt hcount), .inl rfl⟩
        case isFalse => exact ⟨_, .inr (Nat.le_refl 3), .inr rfl⟩
      · exact ⟨crankTimed w, .inl rfl, .inl rfl⟩

/-- A crank attempt under way counts in no wear counter (R87, R154). -/
theorem stepCranking_counters (w : State) : (stepCranking w).wear.counters = w.wear.counters := by
  obtain ⟨c, -, h | h⟩ := stepCranking_outcome w
  · rw [h, withCpl_wear]
  · rw [h, logNow_wear, raiseFault_info_counters _ rfl, withCpl_wear]

theorem stepCranking_crankCount {w : State} (hw : w.cpl.crankCount ≤ 3) : (stepCranking w).cpl.crankCount ≤ 3 := by
  obtain ⟨c, hcount, h⟩ := stepCranking_outcome w
  have hcpl : (stepCranking w).cpl = c := by
    rcases h with h | h <;> rw [h]
    · rfl
    · rw [logNow_cpl, raiseFault_cpl, withCpl_cpl]
  rw [hcpl]
  rcases hcount with hsame | hthree
  · exact hsame.trans_le hw
  · exact hthree

/-- The record and the log of a lock-out (R88, R154). -/
theorem startFailed_reports (w : State) (c : Cpl) :
    let t := logNow .startFailed none (some 3) (raiseFault .engineStartFailed (w.withCpl c))
    t.faults.record .engineStartFailed = (w.faults.record .engineStartFailed).raise w.dsv.operatingSeconds ∧
      t.log = w.log.afterAppend (entryNow w .startFailed none (some 3) none) := by
  dsimp only
  refine ⟨?_, ?_⟩
  · rw [logNow_faults, raiseFault_record_same]
    rfl
  · have hframe : (raiseFault .engineStartFailed (w.withCpl c)).exc.frameNumber = w.exc.frameNumber := by
      rw [raiseFault_infoClass _ rfl, dsvSettle_exc]
      rfl
    rw [logNow_log, raiseFault_info_log _ rfl]
    refine congrArg w.log.afterAppend (entryNow_congr ?_ ?_ hframe _ _ _ _)
    · rw [raiseFault_sns, withCpl_sns]
    · exact (raiseFault_dsvKept _ _).seconds

theorem stepStopping_cpl (w : State) :
    (stepStopping w).cpl =
      { w.cpl with
        stopTimer := min (w.cpl.stopTimer + 1) 300,
        engine :=
          if (w.sns.engineLink.up = true ∧ w.sns.engineRunning = false) ∨ min (w.cpl.stopTimer + 1) 300 = 300 then .off
          else w.cpl.engine } := by
  have hstopped :
      ((w.sns.engineLink.up && !w.sns.engineRunning) || decide (min (w.cpl.stopTimer + 1) 300 = 300)) = true ↔
        (w.sns.engineLink.up = true ∧ w.sns.engineRunning = false) ∨ min (w.cpl.stopTimer + 1) 300 = 300 := by
    simp only [Bool.or_eq_true, Bool.and_eq_true, Bool.not_eq_true', decide_eq_true_iff]
  unfold stepStopping
  dsimp only
  split <;> rename_i h
  · rw [if_pos (hstopped.1 h)]
    rfl
  · rw [if_neg (mt hstopped.2 h)]
    rfl

end

end Sys2Proof.Machine
end

section
/-! PROOF. The rules of the clutch position command and of the failed crank attempts, kept by each step of the CPL frame (R87
to R101). -/

namespace Sys2Proof.Machine

open Sys2Proof

section
variable (s : State)

/-! ## The records that the steps before and after step 9 leave -/

/-- Step 5 leaves CPL's records as they are, or those of a stall (R91, R100). -/
theorem stallTest_cpl_cases :
    (stallTest s).cpl = s.cpl ∨
      (stallTest s).cpl = { openAtOnce s.cpl with engine := .off, stallBlock := 500 } := by
  by_cases h : stalls s
  · rw [stallTest_stalls s h, logNow_cpl, momentaryFault_cpl, withCpl_cpl]
    exact .inr rfl
  · rw [stallTest_idle s h]
    exact .inl rfl

theorem stallTest_crankCount : (stallTest s).cpl.crankCount = s.cpl.crankCount := by
  rcases stallTest_cpl_cases s with h | h <;> rw [h]
  rfl

theorem cplFrameWant_crankCount : (cplFrameWant s).cpl.crankCount = s.cpl.crankCount := by
  rw [cplFrameWant_eq, withCpl_cpl, wantedCpl_eq, overspeedTest_eq]
  dsimp only
  rw [stallTest_crankCount, slipCounted_cpl]
  rfl

end

/-! ## The clutch position command (R101) -/

/-- The clutch position command of CPL's records is as R101 has it, and away from OPEN the engine is RUNNING. -/
def Cpl.ClutchRight (c : Cpl) : Prop :=
  c.position ≤ 1000 ∧ (0 < c.position → c.coupling.pressed = true) ∧ (c.coupling ≠ .opened → c.engine = .running)

theorem clutchInv_iff (s : State) : ClutchInv s ↔ s.cpl.ClutchRight := Iff.rfl

section
variable {c d : Cpl}

/-- The rule speaks of the position, the coupling state and the engine state only. -/
theorem Cpl.ClutchRight.of_same (h : c.ClutchRight) (hposition : d.position = c.position)
    (hcoupling : d.coupling = c.coupling) (hengine : d.engine = c.engine) : d.ClutchRight := by
  unfold Cpl.ClutchRight at h ⊢
  rw [hposition, hcoupling, hengine]
  exact h

/-- With the plates apart the position is 0 (R101). -/
theorem Cpl.ClutchRight.position_zero (h : c.ClutchRight) (hapart : c.coupling.pressed = false) : c.position = 0 := by
  obtain ⟨-, hpressed, -⟩ := h
  rw [hapart] at hpressed
  exact Nat.eq_zero_of_not_pos fun hpos => Bool.noConfusion (hpressed hpos)

theorem clutchRight_opened (hcoupling : c.coupling = .opened) (hposition : c.position = 0) : c.ClutchRight :=
  ⟨by omega, fun hpos => by omega, fun hclosed => absurd hcoupling hclosed⟩

theorem CouplingIs.clutchRight {st : CouplingState} {m : SyncMode} {position delay : Nat}
    (h : CouplingIs c st m position delay) (hengine : c.engine = .running) (hle : position ≤ 1000)
    (hpressed : 0 < position → st.pressed = true) : c.ClutchRight := by
  obtain ⟨hcoupling, -, hposition, -⟩ := h
  unfold Cpl.ClutchRight
  rw [hcoupling, hposition]
  exact ⟨hle, hpressed, fun _ => hengine⟩

theorem Closes.clutchRight {w : State} (h : Closes w c) (hengine : c.engine = .running) : c.ClutchRight := by
  obtain ⟨-, h⟩ := h
  split at h
  · exact h.clutchRight hengine (Nat.le_refl _) fun _ => rfl
  · exact h.clutchRight hengine (by omega) fun _ => rfl

theorem Opens.clutchRight {w : State} {delay : Nat} (h : Opens w c delay) (hle : w.cpl.position ≤ 1000)
    (hengine : c.engine = .running) : c.ClutchRight := by
  unfold Opens at h
  split at h
  · exact h.clutchRight hengine (Nat.zero_le _) fun hpos => absurd hpos (Nat.lt_irrefl 0)
  · exact h.clutchRight hengine (by omega) fun _ => rfl

/-- A speed match moves no plate: from position 0 it leaves 0 (R94, R95, R101). -/
theorem Syncs.clutchRight {m : SyncMode × Nat} {timer delay acquire track : Nat}
    (h : Syncs m timer 0 delay acquire track c) (hengine : c.engine = .running) : c.ClutchRight := by
  obtain ⟨-, -, -, hout, hon⟩ := h
  have hzero (st : CouplingState) : 0 < 0 → st.pressed = true := fun hpos => absurd hpos (Nat.lt_irrefl 0)
  by_cases ht : timer = 200 ∧ m.1 ≠ .locked
  · exact (hout ht).clutchRight hengine (Nat.zero_le _) (hzero _)
  · exact (hon ht).clutchRight hengine (Nat.zero_le _) (hzero _)

end

theorem couplingWanted_running {w : State} {c : Cpl} (h : couplingWanted w c = true) : c.engine = .running := by
  by_contra hn
  unfold couplingWanted at h
  rw [decide_eq_false hn] at h
  simp only [Bool.false_and] at h
  exact Bool.noConfusion h

section
variable {w : State} (h : w.cpl.ClutchRight)
include h

theorem overspeedTest_clutchRight (n : Nat) : (overspeedTest n w.cpl).ClutchRight := by
  unfold overspeedTest
  split
  · exact clutchRight_opened rfl rfl
  · exact h

theorem stallTest_clutchRight : (stallTest w).cpl.ClutchRight := by
  rcases stallTest_cpl_cases w with hcpl | hcpl <;> rw [hcpl]
  · exact h
  · exact clutchRight_opened rfl rfl

theorem cplFrameWant_clutchRight : (cplFrameWant w).cpl.ClutchRight := by
  have hslip : (slipCounted w).cpl.ClutchRight := by
    rw [slipCounted_cpl]
    exact h.of_same rfl rfl rfl
  rw [cplFrameWant_eq, withCpl_cpl, wantedCpl_eq]
  exact (overspeedTest_clutchRight (stallTest_clutchRight hslip) _).of_same rfl rfl rfl

/-- Step 8 of an engine that is RUNNING, from each coupling state (R93 to R99). -/
theorem moveCoupling_clutchRight_running (hrun : w.cpl.engine = .running) : (moveCoupling w).cpl.ClutchRight := by
  have hengine : (moveCoupling w).cpl.engine = .running := by
    rw [moveCoupling_moved]
    exact hrun
  obtain ⟨hle, -, -⟩ := id h
  cases hst : w.cpl.coupling
  case opened =>
    cases hr : couplingWanted w w.cpl with
    | false =>
      rw [moveCoupling_stays_open hst hr]
      exact h
    | true =>
      obtain ⟨his, -⟩ := moveCoupling_requests hst hr
      rw [h.position_zero (by rw [hst]; rfl)] at his
      exact his.clutchRight hengine (Nat.zero_le _) fun hpos => absurd hpos (Nat.lt_irrefl 0)
  case syncing =>
    have hzero : w.cpl.position = 0 := h.position_zero (by rw [hst]; rfl)
    cases hd : decouple w w.cpl with
    | true =>
      have his := moveCoupling_syncing_apart hst hd
      rw [hzero] at his
      exact his.clutchRight hengine (Nat.zero_le _) fun hpos => absurd hpos (Nat.lt_irrefl 0)
    | false =>
      by_cases hheld : w.cpl.sync = .locked ∧ w.speedError.natAbs ≤ 60
      · exact (moveCoupling_syncing_held hst hd hheld).clutchRight hengine
      · have hsyncs := moveCoupling_syncs hst hd hheld
        rw [hzero] at hsyncs
        exact hsyncs.clutchRight hengine
  case closing =>
    rcases Nat.lt_or_ge 200 w.speedError.natAbs with he | he
    · exact (moveCoupling_closing_lost hst he).clutchRight hle hengine
    · cases hd : decouple w w.cpl with
      | true => exact (moveCoupling_closing_apart hst he hd).clutchRight hle hengine
      | false => exact (moveCoupling_closing_on hst he hd).clutchRight hengine
  case coupled =>
    cases hd : decouple w w.cpl with
    | true => exact (moveCoupling_coupled_apart hst hd).clutchRight hle hengine
    | false =>
      rw [moveCoupling_stays_coupled hst hd]
      exact h
  case opening => exact (moveCoupling_opening hst).clutchRight hle hengine

/-- An engine that is not RUNNING finds the clutch OPEN and asks for no coupling (R93, R101). -/
theorem moveCoupling_clutchRight : (moveCoupling w).cpl.ClutchRight := by
  by_cases hrun : w.cpl.engine = .running
  case pos => exact moveCoupling_clutchRight_running h hrun
  case neg =>
    obtain ⟨-, -, hcoupled⟩ := id h
    have hopen : w.cpl.coupling = .opened := not_not.1 (mt hcoupled hrun)
    have hnone : couplingWanted w w.cpl = false := Bool.eq_false_iff.2 (mt couplingWanted_running hrun)
    rw [moveCoupling_stays_open hopen hnone]
    exact h

/-- The engine leaves RUNNING with the clutch OPEN alone (R92). -/
theorem moveEngine_clutchRight : (moveEngine w).cpl.ClutchRight := by
  obtain ⟨-, -, hcoupled⟩ := id h
  by_cases hopen : w.cpl.coupling = .opened
  case pos =>
    rw [moveEngine_moved]
    exact clutchRight_opened hopen (h.position_zero (by rw [hopen]; rfl))
  case neg =>
    rw [moveEngine_running w (hcoupled hopen), if_neg fun hstop => hopen hstop.2]
    exact h

theorem cplFrame_clutchRight : (cplFrame w).cpl.ClutchRight := by
  have hmoved : (cplMoved w).cpl.ClutchRight :=
    moveEngine_clutchRight (moveCoupling_clutchRight (cplFrameWant_clutchRight h))
  rw [cplFrame_cpl]
  exact hmoved.of_same rfl rfl rfl

end

/-- A key OFF ends a lock-out, with which the clutch is OPEN (R90, R101). -/
theorem keyOffCpl_clutchRight {c : Cpl} (h : c.ClutchRight) : (keyOffCpl c).ClutchRight := by
  obtain ⟨hle, hpressed, hcoupled⟩ := h
  refine ⟨hle, hpressed, fun hclosed => ?_⟩
  have hrun : c.engine = .running := hcoupled hclosed
  unfold keyOffCpl
  rw [hrun]
  rfl

theorem clutchRight_rule : CplRule Cpl.ClutchRight where
  reset := clutchRight_opened rfl rfl
  frame _ h := cplFrame_clutchRight h
  countdown _ _ h := h.of_same rfl rfl rfl
  keyOff _ h := keyOffCpl_clutchRight h
  slip _ _ h := h.of_same rfl rfl rfl
  released := fun _ ⟨_, _, hcoupled⟩ => ⟨Nat.zero_le _, fun hpos => absurd hpos (Nat.lt_irrefl 0), hcoupled⟩

/-! ## The failed crank attempts (R88) -/

/-- No step of the engine state but that of a crank attempt counts a failure (R88). -/
theorem moveEngine_crankCount {w : State} (h : w.cpl.crankCount ≤ 3) : (moveEngine w).cpl.crankCount ≤ 3 := by
  cases hst : w.cpl.engine
  case off =>
    rw [moveEngine_off hst]
    cases hcrank : crankBegins w
    · rw [stepOff_stays hcrank]
      exact h
    · rw [stepOff_begins hcrank, wearIncrement_cpl]
      exact h
  case cranking =>
    rw [moveEngine_cranking hst]
    exact stepCranking_crankCount h
  case running =>
    rw [moveEngine_running w hst]
    split <;> exact h
  case stopping =>
    rw [moveEngine_stopping hst, stepStopping_cpl]
    exact h
  case lockedOut =>
    rw [moveEngine_lockedOut hst]
    exact h

theorem cplFrame_crankCount {s : State} (h : s.cpl.crankCount ≤ 3) : (cplFrame s).cpl.crankCount ≤ 3 := by
  rw [cplFrame_cpl]
  refine moveEngine_crankCount ?_
  rw [moveCoupling_moved, cplFrameWant_crankCount]
  exact h

theorem crankCount_rule : CplRule fun c => c.crankCount ≤ 3 where
  reset := Nat.zero_le 3
  frame _ h := cplFrame_crankCount h
  countdown _ _ h := h
  keyOff _ _ := Nat.zero_le 3
  slip _ _ h := h
  released _ h := h

/-- Settles O58, by two rules of CPL's records that each of CPL's operations keeps. -/
theorem stepKeepsClutchAndCrankInv : Obligations.StepKeepsClutchAndCrankInv :=
  ⟨fun s t h hstep => (clutchInv_iff t).2 (clutchRight_rule.step hstep ((clutchInv_iff s).1 h)),
    fun _ _ h hstep => crankCount_rule.step hstep h⟩

end Sys2Proof.Machine
end

section
/-! PROOF. The engine want of a CPL frame, with the countdown and the surplus run that it reads, and the second timer (R84 to
R86). -/

namespace Sys2Proof.Machine

open Sys2Proof

/-! ## The records that step 7 forms -/

section
variable (s : State) (c : Cpl)

/-- CPL's records with the countdown and the surplus run that step 7 forms, before the want (R84, R86). -/
def wantCounted : Cpl :=
  { holdCountdown s.dsv.limits.idleStop s.sns.roadSpeed c with
    surplusRun := surplusOf s (holdCountdown s.dsv.limits.idleStop s.sns.roadSpeed c).surplusRun }

theorem wantCounted_eq :
    wantCounted s c =
      { c with
        countdown :=
          if c.engine ≠ .running ∨ 10 ≤ s.sns.roadSpeed ∨ s.dsv.limits.idleStop = 255 then s.dsv.limits.idleStop
          else c.countdown,
        surplusRun := surplusOf s c.surplusRun } := by
  unfold wantCounted holdCountdown
  split <;> rfl

/-- A want set OFF for one reason, ON for another, else left as it was. -/
theorem wantSet_eq (d : Cpl) (off on : Bool) :
    (if off then { d with wantOn := false } else if on then { d with wantOn := true } else d) =
      { d with wantOn := if off then false else if on then true else d.wantOn } := by
  cases off <;> cases on <;> rfl

/-- Step 7 forms the countdown, the surplus run and, from them, the want (R84 to R86). -/
theorem formWant_counted :
    formWant s c =
      { wantCounted s c with
        wantOn := if wantOff s (wantCounted s c) then false else if wantOn s then true else (wantCounted s c).wantOn } :=
  wantSet_eq _ _ _

theorem wantOff_congr {c d : Cpl} (hrun : d.surplusRun = c.surplusRun) (hcountdown : d.countdown = c.countdown)
    (hengine : d.engine = c.engine) : wantOff s d = wantOff s c := by
  unfold wantOff
  rw [hrun, hcountdown, hengine]

/-- The want follows the reasons for OFF, then those for ON, by the records that step 7 left (R84, R85). -/
theorem formWant_wantOn :
    (formWant s c).wantOn = if wantOff s (formWant s c) then false else if wantOn s then true else c.wantOn := by
  have hoff : wantOff s (formWant s c) = wantOff s (wantCounted s c) := by
    rw [formWant_counted]
    exact wantOff_congr s rfl rfl rfl
  have hwas : (wantCounted s c).wantOn = c.wantOn := by rw [wantCounted_eq]
  rw [hoff, ← hwas, formWant_counted]

end

/-! ## The reasons for OFF and for ON -/

theorem engineBarred_iff (d : DrivelineState) : d.engineBarred = true ↔ d ≠ .ready ∧ ¬(d = .drive ∨ d = .limp) := by
  cases d <;> decide

/-- The reasons for OFF (R84). -/
theorem wantOff_iff (s : State) (c : Cpl) :
    wantOff s c = true ↔
      s.dsv.mode.permission = .quiet ∨ (s.dsv.state ≠ .ready ∧ ¬(s.dsv.state = .drive ∨ s.dsv.state = .limp)) ∨
        (s.dsv.mode.permission = .allowed ∧ c.surplusRun = 1000) ∨
        (c.countdown = 0 ∧ c.engine = .running ∧ s.sns.roadSpeed < 10 ∧ s.dsv.mode.permission ≠ .forceRun ∧
          s.dsv.limits.sMin + 300 ≤ s.ena.soc) := by
  unfold wantOff
  simp only [Bool.or_eq_true, Bool.and_eq_true, Bool.not_eq_true', Bool.or_eq_false_iff, decide_eq_true_iff,
    decide_eq_false_iff_not, engineBarred_iff, Nat.not_lt, or_assoc, and_assoc]

/-- The reasons for ON (R85). -/
theorem wantOn_iff (s : State) :
    wantOn s = true ↔
      (s.dsv.mode.permission = .allowed ∧ s.spl.mapValid = true ∧ s.spl.demand.direction = .forward ∧
        (s.dsv.state = .drive ∨ s.dsv.state = .limp) ∧ 700 ≤ s.sns.shaftSpeed.natAbs ∧ s.sns.engineLink.up = true ∧
        (s.ena.soc + 300 ≤ s.dsv.mode.socTarget ∨ 20 ≤ s.spl.shortfallRun)) ∨
        (s.dsv.mode.permission = .forceRun ∧
          (s.dsv.state = .ready ∨ s.dsv.state = .drive ∨ s.dsv.state = .limp)) := by
  unfold wantOn State.shaftMagnitude
  simp only [Bool.or_eq_true, Bool.and_eq_true, decide_eq_true_iff, drives_eq, and_assoc]

/-! ## The frame -/

section
variable {s : State}

theorem slipCounted_stalls : stalls (slipCounted s) ↔ stalls s := by
  unfold stalls
  rw [(slipCounted_rest s).sns, slipCounted_cpl]
  rfl

theorem cplFrameWant_unstalled (h : ¬stalls s) : cplFrameWant s = (slipCounted s).withCpl (wantedCpl (slipCounted s)) := by
  rw [cplFrameWant_eq, stallTest_idle _ (mt slipCounted_stalls.1 h)]

theorem not_stalls (h : s.cpl.engine ≠ .running ∨ s.sns.engineLink.up = false ∨ 400 ≤ s.sns.engineSpeed) : ¬stalls s := by
  rintro ⟨hrun, hup, hslow⟩
  rcases h with h | h | h
  · exact h hrun
  · rw [h] at hup
    cases hup
  · omega

theorem CplRest.ena {s t : State} (h : CplRest s t) : t.ena = s.ena := congrArg Rest.ena h

theorem slipCounted_dsv (s : State) : (slipCounted s).dsv = s.dsv := countSlip_dsv _

/-- The records that step 7 finds: the engine state, the countdown, the surplus run and the want of the frame before. -/
theorem overspeedTest_slipCounted (n : Nat) :
    (overspeedTest n (slipCounted s).cpl).engine = s.cpl.engine ∧
      (overspeedTest n (slipCounted s).cpl).countdown = s.cpl.countdown ∧
      (overspeedTest n (slipCounted s).cpl).surplusRun = s.cpl.surplusRun ∧
      (overspeedTest n (slipCounted s).cpl).wantOn = s.cpl.wantOn := by
  rw [overspeedTest_eq, slipCounted_cpl]
  exact ⟨rfl, rfl, rfl, rfl⟩

/-- Steps 8 to 11 leave the countdown, the surplus run and the want that step 7 formed (R83). -/
theorem cplFrame_formedWant (h : ¬stalls s) :
    let c := formWant (slipCounted s) (overspeedTest (slipCounted s).shaftMagnitude (slipCounted s).cpl)
    (cplFrame s).cpl.countdown = c.countdown ∧ (cplFrame s).cpl.surplusRun = c.surplusRun ∧
      (cplFrame s).cpl.wantOn = c.wantOn := by
  rw [cplFrame_cpl]
  unfold cplMoved
  rw [moveEngine_moved, moveCoupling_moved, cplFrameWant_unstalled h]
  exact ⟨rfl, rfl, rfl⟩

/-- The want, the countdown and the surplus run follow their conditions (R84 to R86). -/
theorem cplFrame_engineWant (h : ¬stalls s) : EngineWant s (cplFrame s) := by
  obtain ⟨hcountdown, hsurplus, hwant⟩ := cplFrame_formedWant h
  obtain ⟨hengine, hwasCountdown, hwasSurplus, hwasWant⟩ :=
    overspeedTest_slipCounted (s := s) (slipCounted s).shaftMagnitude
  have hrest := slipCounted_rest s
  generalize overspeedTest (slipCounted s).shaftMagnitude (slipCounted s).cpl = c at *
  have hformedEngine : (formWant (slipCounted s) c).engine = s.cpl.engine := by
    rw [formWant_eq]
    exact hengine
  have hoffIff := wantOff_iff (slipCounted s) (formWant (slipCounted s) c)
  have honIff := wantOn_iff (slipCounted s)
  rw [← hcountdown, ← hsurplus, hformedEngine, slipCounted_dsv, hrest.sns, hrest.ena] at hoffIff
  rw [slipCounted_dsv, hrest.sns, hrest.ena, hrest.spl] at honIff
  rw [formWant_wantOn, hwasWant] at hwant
  rw [formWant_counted, wantCounted_eq, hengine, hwasCountdown, hrest.sns, slipCounted_dsv] at hcountdown
  rw [formWant_counted, wantCounted_eq, hwasSurplus] at hsurplus
  unfold surplusOf at hsurplus
  rw [slipCounted_dsv, hrest.ena, hrest.spl] at hsurplus
  refine ⟨hcountdown, hsurplus, fun hoff => ?off, fun hoff hon => ?on, fun hoff hon => ?kept⟩
  case off => rw [hwant, if_pos (hoffIff.2 hoff)]
  case on => rw [hwant, if_neg (mt hoffIff.1 hoff), if_pos (honIff.2 hon)]
  case kept => rw [hwant, if_neg (mt hoffIff.1 hoff), if_neg (mt honIff.1 hon)]

end

/-! ## The second timer -/

theorem cplSecond_eq (s : State) :
    cplSecond s =
      { s with
        cpl := { s.cpl with
          countdown :=
            if s.cpl.engine = .running ∧ s.sns.roadSpeed < 10 ∧ s.dsv.limits.idleStop ≠ 255 then s.cpl.countdown - 1
            else s.cpl.countdown } } := by
  unfold cplSecond
  split <;> rfl

/-- Settles O43, by the two cases of the second timer. -/
theorem idleStopCountdown : Obligations.IdleStopCountdown := by
  intro s hrun
  rw [← cplSecond_eq]
  exact congrArg Host.Outcome.next (whileRunning_runs cplSecond hrun)

end Sys2Proof.Machine
end

section
/-! PROOF. What steps 10 and 11 of a CPL frame leave of step 9, and what step 9 finds where the clutch is OPEN and the engine
not RUNNING (R83, R93, R102, R104). -/

namespace Sys2Proof.Machine

open Sys2Proof

/-! ## Steps 10 and 11 -/

section
variable {s : State}

theorem cplFrame_lastMode : (cplFrame s).cpl.lastMode = (engineRequestOf (cplMoved s)).1 := by
  rw [cplFrame_cpl]

/-- An engine OFF, STOPPING or locked out is sent STOP (R102). -/
theorem cplFrame_sends_stop
    (h : (cplFrame s).cpl.engine = .off ∨ (cplFrame s).cpl.engine = .stopping ∨ (cplFrame s).cpl.engine = .lockedOut) :
    (cplFrame s).cpl.lastMode = .stop := by
  rw [cplFrame_lastMode, engineRequestOf_cplMoved]
  rcases h with h | h | h <;> rw [h]

theorem cplFrame_sends_start (h : (cplFrame s).cpl.engine = .cranking) : (cplFrame s).cpl.lastMode = .start := by
  rw [cplFrame_lastMode, engineRequestOf_cplMoved, h]

theorem cplFrame_sends_idle (h : (cplFrame s).cpl.engine = .running) (hopen : (cplFrame s).cpl.coupling = .opened) :
    (cplFrame s).cpl.lastMode = .idle := by
  rw [cplFrame_lastMode, engineRequestOf_cplMoved, h, hopen]

/-- What step 9 leaves beside CPL's records stands after the frame. -/
theorem cplFrame_of_cplMoved :
    (cplFrame s).wear = (cplMoved s).wear ∧ (cplFrame s).log = (cplMoved s).log ∧
      (cplFrame s).faults = (cplMoved s).faults := by
  rw [cplFrame_eq, askClutchReport_wear, askClutchReport_log, askClutchReport_faults]
  exact ⟨sendEngineRequest_wear _, sendEngineRequest_log _, sendEngineRequest_faults _⟩

/-- A change of the engine state asks for an ENGINE_CLUTCH report (R104). -/
theorem cplFrame_asksReport (h : (cplFrame s).cpl.engine ≠ s.cpl.engine) :
    ((cplFrame s).reportRow 6).changePending = true := by
  have hengine : (sendEngineRequest (cplMoved s)).cpl.engine = (cplFrame s).cpl.engine := by
    rw [cplFrame_cpl]
    rfl
  have hchanged : clutchChanged s.cpl (sendEngineRequest (cplMoved s)).cpl = true := by
    unfold clutchChanged
    rw [hengine, decide_eq_true h.symm]
    rfl
  rw [cplFrame_eq]
  unfold askClutchReport
  rw [if_pos hchanged, requestReport_row_same]

/-! ## The frame up to step 9 -/

/-- With the plates apart no slip is counted (R103). -/
theorem slipCounted_apart (h : s.cpl.coupling.pressed = false) : slipCounted s = s.withCpl (stepDelays s.cpl) := by
  refine countSlip_idle _ ?_
  unfold slipCounts
  rw [withCpl_cpl, show (stepDelays s.cpl).coupling.pressed = false from h]
  rfl

/-- What step 9 reads in a frame that finds the clutch OPEN and the engine not RUNNING: the records of the frame before, the
delays counted down (R83), and the want of this frame. -/
def StepNineFinds (s : State) (c : Cpl) : Prop :=
  c.engine = s.cpl.engine ∧ c.coupling = .opened ∧ c.crankCount = s.cpl.crankCount ∧ c.crankTimer = s.cpl.crankTimer ∧
    c.failureWait = s.cpl.failureWait - 1 ∧ c.stallBlock = s.cpl.stallBlock - 1 ∧ c.wantOn = (cplFrame s).cpl.wantOn

/-- With the clutch OPEN and the engine not RUNNING, steps 1 to 8 change CPL's records alone (R83, R93). -/
theorem cplMoved_apart (hopen : s.cpl.coupling = .opened) (hrun : s.cpl.engine ≠ .running) :
    ∃ c, StepNineFinds s c ∧ cplMoved s = moveEngine (s.withCpl c) := by
  have hslip := slipCounted_apart (s := s) (by rw [hopen]; rfl)
  have hwant := cplFrameWant_unstalled (not_stalls (.inl hrun))
  have hframe := cplFrame_wantOn s
  have hstill (n : Nat) : overspeedTest n (stepDelays s.cpl) = stepDelays s.cpl := if_neg fun hn => hn.2 hopen
  have hwanted : wantedCpl (s.withCpl (stepDelays s.cpl)) =
      { stepDelays s.cpl with
        countdown := (wantedCpl (s.withCpl (stepDelays s.cpl))).countdown,
        surplusRun := (wantedCpl (s.withCpl (stepDelays s.cpl))).surplusRun,
        wantOn := (wantedCpl (s.withCpl (stepDelays s.cpl))).wantOn,
        frameEngineSpeed := s.sns.engineSpeed, frameSpeedError := s.speedError } := by
    have h := wantedCpl_eq (s.withCpl (stepDelays s.cpl))
    rw [withCpl_cpl, hstill] at h
    exact h
  rw [hslip] at hwant
  generalize wantedCpl (s.withCpl (stepDelays s.cpl)) = c at *
  have hwantC : cplFrameWant s = s.withCpl c := hwant
  have hfinds : StepNineFinds s c := by
    rw [hwantC] at hframe
    refine ⟨?_, ?_, ?_, ?_, ?_, ?_, hframe.symm⟩ <;> rw [hwanted]
    exacts [rfl, hopen, rfl, rfl, rfl, rfl]
  obtain ⟨hengine, hcoupling, -⟩ := id hfinds
  have hnone : couplingWanted (s.withCpl c) (s.withCpl c).cpl = false :=
    Bool.eq_false_iff.2 fun hc => hrun (hengine.symm.trans (couplingWanted_running hc))
  refine ⟨c, hfinds, ?_⟩
  unfold cplMoved
  rw [hwantC, moveCoupling_stays_open hcoupling hnone]

/-- Such a frame leaves the clutch OPEN. -/
theorem cplFrame_stays_open (hopen : s.cpl.coupling = .opened) (hrun : s.cpl.engine ≠ .running) :
    (cplFrame s).cpl.coupling = .opened := by
  obtain ⟨c, ⟨-, hcoupling, -⟩, hmoved⟩ := cplMoved_apart hopen hrun
  rw [cplFrame_cpl, hmoved, moveEngine_moved]
  exact hcoupling

end

end Sys2Proof.Machine
end

section
/-! PROOF. The crank attempts (R84 to R90, R102, R104, R127). -/

namespace Sys2Proof.Machine

open Sys2Proof

section
variable {s : State}

/-! ## An attempt begins -/

/-- An engine OFF that step 9 begins to crank: CPL's records, and one count of W4 (R87, R127). -/
theorem cplFrame_begins {c : Cpl} (hcrank : crankBegins (s.withCpl c) = true)
    (hmoved : cplMoved s = stepOff (s.withCpl c)) :
    (cplFrame s).cpl.engine = .cranking ∧ (cplFrame s).cpl.crankTimer = 0 ∧
      ((cplFrame s).counter w4).value = min ((s.counter w4).value + 1) 4294967295 ∧
      ∀ d : Counter, d ≠ w4 → (cplFrame s).counter d = s.counter d := by
  rw [stepOff_begins hcrank] at hmoved
  refine ⟨?_, ?_, ?_, fun d hd => ?_⟩
  · rw [cplFrame_cpl, hmoved, wearIncrement_cpl]
    rfl
  · rw [cplFrame_cpl, hmoved, wearIncrement_cpl]
    rfl
  · rw [cplFrame_counter, hmoved, wearIncrement_value]
    rfl
  · rw [cplFrame_counter, hmoved, wearIncrement_counter_other _ _ hd]
    rfl

/-- FORCE_RUN wants the engine ON in READY, DRIVE and LIMP (R84, R85). -/
theorem cplFrame_forced (hrun : s.cpl.engine ≠ .running) (hforce : s.dsv.mode.permission = .forceRun)
    (hstate : s.dsv.state = .ready ∨ s.dsv.state = .drive ∨ s.dsv.state = .limp) : (cplFrame s).cpl.wantOn = true := by
  obtain ⟨-, -, -, hon, -⟩ := cplFrame_engineWant (not_stalls (.inl hrun))
  refine hon ?_ (.inr ⟨hforce, hstate⟩)
  rw [hforce]
  rintro (hquiet | ⟨hready, hdrives⟩ | ⟨hallowed, -⟩ | ⟨-, -, -, hnot, -⟩)
  · cases hquiet
  · tauto
  · cases hallowed
  · exact hnot rfl

theorem cplFrame_forceRun (hforce : s.dsv.mode.permission = .forceRun)
    (hstate : s.dsv.state = .ready ∨ s.dsv.state = .drive ∨ s.dsv.state = .limp) (hoff : s.cpl.engine = .off)
    (hopen : s.cpl.coupling = .opened) (hup : s.sns.engineLink.up = true) (hwait : s.cpl.failureWait ≤ 1)
    (hblock : s.cpl.stallBlock ≤ 1) :
    (cplFrame s).cpl.engine = .cranking ∧ (cplFrame s).cpl.crankTimer = 0 ∧ (cplFrame s).cpl.wantOn = true ∧
      (cplFrame s).cpl.lastMode = .start ∧
      ((cplFrame s).counter w4).value = min ((s.counter w4).value + 1) 4294967295 ∧
      (∀ d : Counter, d ≠ w4 → (cplFrame s).counter d = s.counter d) ∧
      ((cplFrame s).reportRow 6).changePending = true := by
  have hrun : s.cpl.engine ≠ .running := by rw [hoff]; exact EngineState.noConfusion
  have hon := cplFrame_forced hrun hforce hstate
  obtain ⟨c, ⟨hengine, -, -, -, hc, hb, hwant⟩, hmoved⟩ := cplMoved_apart hopen hrun
  have hcrank : crankBegins (s.withCpl c) = true :=
    crankBegins_iff.2 ⟨hwant.trans hon, hup, by rw [withCpl_cpl, hc]; omega, by rw [withCpl_cpl, hb]; omega⟩
  rw [moveEngine_off (hengine.trans hoff)] at hmoved
  obtain ⟨hcranking, htimer, hw4, hother⟩ := cplFrame_begins hcrank hmoved
  refine ⟨hcranking, htimer, hon, cplFrame_sends_start hcranking, hw4, hother, cplFrame_asksReport ?_⟩
  rw [hcranking, hoff]
  exact EngineState.noConfusion

/-! ## An engine that stays OFF, or locked out -/

/-- A frame of which step 9 changes nothing: the engine state stays, and no counter moves. -/
theorem cplFrame_idles {c : Cpl} (hengine : c.engine = s.cpl.engine) (hmoved : cplMoved s = s.withCpl c) :
    (cplFrame s).cpl.engine = s.cpl.engine ∧ (cplFrame s).wear = s.wear := by
  obtain ⟨hwear, -, -⟩ := cplFrame_of_cplMoved (s := s)
  refine ⟨?_, ?_⟩
  · rw [cplFrame_cpl, hmoved]
    exact hengine
  · rw [hwear, hmoved]
    rfl

theorem cplFrame_stays_off (hopen : s.cpl.coupling = .opened) (hoff : s.cpl.engine = .off)
    (h : (cplFrame s).cpl.wantOn = false ∨ s.sns.engineLink.up = false ∨ 1 < s.cpl.failureWait ∨ 1 < s.cpl.stallBlock) :
    (cplFrame s).cpl.engine = .off ∧ (cplFrame s).cpl.lastMode = .stop ∧ (cplFrame s).wear = s.wear := by
  have hrun : s.cpl.engine ≠ .running := by rw [hoff]; exact EngineState.noConfusion
  obtain ⟨c, ⟨hengine, -, -, -, hc, hb, hwant⟩, hmoved⟩ := cplMoved_apart hopen hrun
  have hcrank : crankBegins (s.withCpl c) = false := by
    rw [Bool.eq_false_iff, Ne, crankBegins_iff, withCpl_cpl, withCpl_sns, hc, hb, hwant]
    rintro ⟨hon, hup, hwait, hblock⟩
    rw [hon, hup] at h
    rcases h with h | h | h | h
    · cases h
    · cases h
    · omega
    · omega
  rw [moveEngine_off (hengine.trans hoff), stepOff_stays hcrank] at hmoved
  obtain ⟨hstays, hwear⟩ := cplFrame_idles hengine hmoved
  rw [hoff] at hstays
  exact ⟨hstays, cplFrame_sends_stop (.inl hstays), hwear⟩

theorem cplFrame_stays_lockedOut (hopen : s.cpl.coupling = .opened) (hout : s.cpl.engine = .lockedOut) :
    (cplFrame s).cpl.engine = .lockedOut ∧ (cplFrame s).cpl.lastMode = .stop ∧ (cplFrame s).wear = s.wear := by
  have hrun : s.cpl.engine ≠ .running := by rw [hout]; exact EngineState.noConfusion
  obtain ⟨c, ⟨hengine, -⟩, hmoved⟩ := cplMoved_apart hopen hrun
  rw [moveEngine_lockedOut (hengine.trans hout)] at hmoved
  obtain ⟨hstays, hwear⟩ := cplFrame_idles hengine hmoved
  rw [hout] at hstays
  exact ⟨hstays, cplFrame_sends_stop (.inr (.inr hstays)), hwear⟩

/-! ## An attempt under way -/

/-- Engine state, failed attempts and failure wait of CPL's records. -/
def CrankIs (c : Cpl) (e : EngineState) (count wait : Nat) : Prop :=
  c.engine = e ∧ c.crankCount = count ∧ c.failureWait = wait

theorem cplFrame_crankIs {e : EngineState} {count wait : Nat} (h : CrankIs (cplMoved s).cpl e count wait) :
    CrankIs (cplFrame s).cpl e count wait := by
  unfold CrankIs
  rw [cplFrame_cpl]
  exact h

/-- An engine found CRANKING with the clutch OPEN: the attempt is abandoned, succeeds, goes on, fails, or locks the engine
out (R88, R89). -/
theorem cplFrame_cranks (hopen : s.cpl.coupling = .opened) (hcranking : s.cpl.engine = .cranking) :
    CrankMoves s (cplFrame s) := by
  have hrun : s.cpl.engine ≠ .running := by rw [hcranking]; exact EngineState.noConfusion
  obtain ⟨c, ⟨hengine, -, hcount, htimer, hwait, -, hwant⟩, hmoved⟩ := cplMoved_apart hopen hrun
  rw [moveEngine_cranking (hengine.trans hcranking)] at hmoved
  obtain ⟨hwear, hlog, hfaults⟩ := cplFrame_of_cplMoved (s := s)
  have htimed : (crankTimed (s.withCpl c)).crankTimer = min (s.cpl.crankTimer + 1) 150 := by rw [← htimer]; rfl
  have hstaysOpen := cplFrame_stays_open hopen hrun
  unfold CrankMoves
  intro timer goesOn ends count wait
  have hheld : crankHeld (s.withCpl c) = goesOn := by
    show (c.wantOn && s.sns.engineLink.up) = goesOn
    rw [hwant]
  refine ⟨fun hgoes => ?abandoned, fun hgoes hfast => ?succeeds, fun hgoes hslow ht => ?goesOn,
    fun hgoes hslow ht hless => ?fails, fun hgoes hslow ht hmost => ?locksOut, ?counters⟩
  case abandoned =>
    rw [stepCranking_abandons (hheld.trans hgoes)] at hmoved
    obtain ⟨he, hn, hw⟩ := cplFrame_crankIs (by rw [hmoved]; exact ⟨rfl, hcount, hwait⟩)
    exact ⟨he, cplFrame_sends_stop (.inl he), hn, hw⟩
  case succeeds =>
    rw [stepCranking_succeeds (hheld.trans hgoes) hfast] at hmoved
    obtain ⟨he, hn, hw⟩ := cplFrame_crankIs (by rw [hmoved]; exact ⟨rfl, hcount, hwait⟩)
    exact ⟨he, cplFrame_sends_idle he hstaysOpen, hn, hw⟩
  case goesOn =>
    rw [stepCranking_goesOn (hheld.trans hgoes) hslow (htimed.trans_lt ht)] at hmoved
    obtain ⟨he, hn, hw⟩ := cplFrame_crankIs (by rw [hmoved]; exact ⟨hengine.trans hcranking, hcount, hwait⟩)
    refine ⟨⟨he, cplFrame_sends_start he, hn, hw⟩, ?_⟩
    rw [cplFrame_cpl, hmoved]
    exact htimed
  case fails =>
    rw [stepCranking_fails (hheld.trans hgoes) hslow (htimed.trans ht) (by rw [withCpl_cpl, hcount]; exact hless)] at hmoved
    obtain ⟨he, hn, hw⟩ := cplFrame_crankIs (by rw [hmoved]; exact ⟨rfl, congrArg (· + 1) hcount, rfl⟩)
    exact ⟨he, cplFrame_sends_stop (.inl he), hn, hw⟩
  case locksOut =>
    rw [stepCranking_locksOut (hheld.trans hgoes) hslow (htimed.trans ht) (by rw [withCpl_cpl, hcount]; exact hmost)]
      at hmoved
    obtain ⟨he, hn, hw⟩ := cplFrame_crankIs
      (by rw [hmoved, logNow_cpl, raiseFault_cpl]; exact ⟨rfl, rfl, hwait⟩)
    obtain ⟨hrecord, hentry⟩ := startFailed_reports s { crankTimed (s.withCpl c) with engine := .lockedOut, crankCount := 3 }
    rw [hfaults, hlog, hmoved]
    exact ⟨⟨he, cplFrame_sends_stop (.inr (.inr he)), hn, hw⟩, hrecord, hentry⟩
  case counters =>
    rw [hwear, hmoved, stepCranking_counters]
    rfl

end

/-! ## The statement -/

/-- Settles O42, by the want of the frame and by step 9 for each engine state that it finds with the clutch OPEN. -/
theorem crankAttempts : Obligations.CrankAttempts := by
  refine ⟨fun s hrun hforce hstate hoff hopen hup hwait hblock =>
      ⟨_, exec_cplFrame hrun, cplFrame_forceRun hforce hstate hoff hopen hup hwait hblock⟩,
    fun s hrun h => ⟨_, exec_cplFrame hrun, cplFrame_engineWant (not_stalls h)⟩,
    fun s hrun hopen => ⟨_, exec_cplFrame hrun, cplFrame_cranks hopen, cplFrame_stays_off hopen,
      cplFrame_stays_lockedOut hopen⟩⟩

end Sys2Proof.Machine
end

section
/-! PROOF. The stall and the stop of the engine (R91, R92, R100, R102). -/

namespace Sys2Proof.Machine

open Sys2Proof

section
variable {s : State}

/-! ## The stall -/

theorem slipCounted_faults (s : State) : (slipCounted s).faults = s.faults := by
  unfold slipCounted
  cases h : slipCounts (s.withCpl (stepDelays s.cpl))
  · rw [countSlip_idle _ h, withCpl_faults]
  · rw [countSlip_counts _ h, wearIncrements_faults, withCpl_faults, withCpl_faults]

/-- CPL's records of a stalled engine after steps 5 to 9: OFF, the clutch OPEN at 0, the stall block running (R91, R100). -/
def StalledIs (c : Cpl) (count : Nat) : Prop :=
  c.engine = .off ∧ c.coupling = .opened ∧ c.sync = .none ∧ c.position = 0 ∧ c.stallBlock = 500 ∧ c.crankCount = count

theorem cplFrameWant_stalled (h : stalls s) : StalledIs (cplFrameWant s).cpl s.cpl.crankCount := by
  have hcpl : (stallTest (slipCounted s)).cpl =
      { openAtOnce (slipCounted s).cpl with engine := .off, stallBlock := 500 } := by
    rw [stallTest_stalls _ (slipCounted_stalls.2 h), logNow_cpl, momentaryFault_cpl, withCpl_cpl]
  have hopen (n : Nat) (c : Cpl) (hc : c.coupling = .opened) : overspeedTest n c = c := if_neg fun hn => hn.2 hc
  rw [cplFrameWant_eq, withCpl_cpl, wantedCpl_eq, hopen _ _ (by rw [hcpl]; rfl), hcpl, slipCounted_cpl]
  exact ⟨rfl, rfl, rfl, rfl, rfl, rfl⟩

/-- Steps 8 and 9 leave a stalled engine as it is: it asks for no coupling, and the stall block holds the next attempt (R87,
R91, R93). -/
theorem cplMoved_stalled (h : stalls s) : cplMoved s = cplFrameWant s := by
  obtain ⟨hoff, hopen, -, -, hblock, -⟩ := cplFrameWant_stalled h
  have hnone : couplingWanted (cplFrameWant s) (cplFrameWant s).cpl = false :=
    Bool.eq_false_iff.2 fun hc => EngineState.noConfusion (hoff.symm.trans (couplingWanted_running hc))
  have hcrank : crankBegins (cplFrameWant s) = false := by
    rw [Bool.eq_false_iff, Ne, crankBegins_iff, hblock]
    rintro ⟨-, -, -, hzero⟩
    cases hzero
  unfold cplMoved
  rw [moveCoupling_stays_open hopen hnone, moveEngine_off hoff, stepOff_stays hcrank]

/-- The record and the log of a stall, from the state that the slip energy left (R91, R156). -/
theorem cplFrame_stall_reports (h : stalls s) :
    (cplFrame s).faults.record .engineStall =
        { (s.faults.record .engineStall).raise s.dsv.operatingSeconds with state := .latched } ∧
      (s.cpl.coupling.pressed = false →
        (cplFrame s).log = s.log.afterAppend (entryNow s .engineStall none (some (s.sns.engineSpeed : Int)) none)) := by
  obtain ⟨-, hlog, hfaults⟩ := cplFrame_of_cplMoved (s := s)
  rw [hlog, hfaults, cplMoved_stalled h, cplFrameWant_eq, withCpl_faults, withCpl_log,
    stallTest_stalls _ (slipCounted_stalls.2 h)]
  refine ⟨?_, fun hapart => ?_⟩
  · rw [logNow_faults, momentaryFault_faults, setRecord_record_same, withCpl_faults, withCpl_dsv, slipCounted_dsv,
      slipCounted_faults]
  · rw [slipCounted_apart hapart, logNow_log, momentaryFault_log]
    refine congrArg s.log.afterAppend (entryNow_congr ?_ ?_ rfl _ _ _ _)
    · rw [momentaryFault_sns, withCpl_sns, withCpl_sns]
    · rw [momentaryFault_dsv, withCpl_dsv, withCpl_dsv]

theorem cplFrame_stalls (h : stalls s) : StalledIs (cplFrame s).cpl s.cpl.crankCount := by
  have hmoved := cplMoved_stalled h
  have his := cplFrameWant_stalled h
  unfold StalledIs
  rw [cplFrame_cpl, hmoved]
  exact his

/-! ## The stop -/

/-- With the clutch OPEN and the engine RUNNING, an engine wanted OFF is STOPPING after the frame, one wanted ON still
RUNNING (R92). -/
theorem cplFrame_stops (hengine : s.cpl.engine = .running) (hopen : s.cpl.coupling = .opened)
    (hok : s.sns.engineLink.up = false ∨ 400 ≤ s.sns.engineSpeed) :
    ((cplFrame s).cpl.wantOn = false →
      (cplFrame s).cpl.engine = .stopping ∧ (cplFrame s).cpl.stopTimer = 0 ∧ (cplFrame s).cpl.lastMode = .stop) ∧
      ((cplFrame s).cpl.wantOn = true → (cplFrame s).cpl.engine = .running) := by
  obtain ⟨-, hfromOpen, -, -, -, -, hmoves, hstop⟩ := cplFrame_moves hengine hok
  obtain ⟨-, hwaits⟩ := hfromOpen hopen
  refine ⟨fun hoff => ?_, fun hon => ?_⟩
  · obtain ⟨hstays, -⟩ := hwaits (by rw [hoff]; rfl)
    rw [if_pos ⟨hoff, hstays⟩] at hmoves
    exact ⟨hmoves, hstop hmoves⟩
  · rw [hon, if_neg fun hn => Bool.noConfusion hn.1] at hmoves
    exact hmoves

/-- A frame that finds the engine STOPPING counts the stop timer on, and ends the stop at 3 s or where the engine reports
itself stopped (R92). -/
theorem cplFrame_stopping (h : s.cpl.engine = .stopping) :
    (cplFrame s).cpl.stopTimer = min (s.cpl.stopTimer + 1) 300 ∧ (cplFrame s).cpl.lastMode = .stop ∧
      (cplFrame s).cpl.engine =
        (if (s.sns.engineLink.up = true ∧ s.sns.engineRunning = false) ∨ min (s.cpl.stopTimer + 1) 300 = 300 then .off
        else .stopping) := by
  have hrun : s.cpl.engine ≠ .running := by rw [h]; exact EngineState.noConfusion
  have hfinds : (moveCoupling (cplFrameWant s)).cpl.engine = .stopping ∧
      (moveCoupling (cplFrameWant s)).cpl.stopTimer = s.cpl.stopTimer := by
    rw [moveCoupling_moved, cplFrameWant_unstalled (not_stalls (.inl hrun)), withCpl_cpl, wantedCpl_eq, overspeedTest_eq,
      slipCounted_cpl]
    exact ⟨h, rfl⟩
  have hsns : (moveCoupling (cplFrameWant s)).sns = s.sns := ((cplFrameWant_rest s).trans (moveCoupling_rest _)).sns
  obtain ⟨hengine, htimer⟩ := hfinds
  have hcpl := stepStopping_cpl (moveCoupling (cplFrameWant s))
  rw [← moveEngine_stopping hengine, hengine, htimer, hsns] at hcpl
  have hends : (cplFrame s).cpl.engine =
      (if (s.sns.engineLink.up = true ∧ s.sns.engineRunning = false) ∨ min (s.cpl.stopTimer + 1) 300 = 300 then .off
      else .stopping) := by
    rw [cplFrame_cpl]
    exact congrArg Cpl.engine hcpl
  refine ⟨?_, cplFrame_sends_stop ?_, hends⟩
  · rw [cplFrame_cpl]
    exact congrArg Cpl.stopTimer hcpl
  · rw [hends]
    split
    · exact .inl rfl
    · exact .inr (.inl rfl)

end

/-! ## The statement -/

/-- Settles O41, by the frame of a stall and the two frames of a stop. -/
theorem stallAndStop : Obligations.StallAndStop := by
  intro s hrun
  refine ⟨fun hengine hup hslow => ?stall,
    fun hengine hopen hok => ⟨_, exec_cplFrame hrun, cplFrame_stops hengine hopen hok⟩,
    fun hengine => ⟨_, exec_cplFrame hrun, cplFrame_stopping hengine⟩⟩
  have hstalls : stalls s := ⟨hengine, hup, hslow⟩
  obtain ⟨hoff, hopen, hsync, hposition, hblock, hcount⟩ := cplFrame_stalls hstalls
  obtain ⟨hrecord, hlog⟩ := cplFrame_stall_reports hstalls
  refine ⟨_, exec_cplFrame hrun, hoff, hopen, hsync, hposition, hblock, hcount, cplFrame_sends_stop (.inl hoff), hrecord,
    fun hapart => hlog ?_⟩
  rcases hapart with h | h <;> rw [h] <;> rfl

end Sys2Proof.Machine
end

section
/-! PROOF. The blend frame: the friction energy, the axle shares, slip supervision, the permission, the regen availability with
its return ramp, the request and the pressures (R106 to R111, R116, R118 to R120, R122, R123). -/

namespace Sys2Proof.Machine

open Sys2Proof

section
variable {s : State}

/-! ## Friction energy (R116) -/

/-- The friction work of a force over the interval just ended: none with the brake link not up (R116). -/
def frictionWork (s : State) (force : Nat) : Nat := if s.brakeLinkUp then force * s.sns.roadSpeed else 0

theorem frictionWork_up (h : s.brakeLinkUp = true) (force : Nat) : frictionWork s force = force * s.sns.roadSpeed := if_pos h

theorem frictionWork_down (h : s.brakeLinkUp = false) (force : Nat) : frictionWork s force = 0 :=
  if_neg (Bool.eq_false_iff.1 h)

/-- An axle's friction work is on its remainder, and each kJ of it on its counter (R116). -/
def AxleCounted (s t : State) (c : Counter) (remainder after force : Nat) : Prop :=
  remainder < 3600000 → (s.counter c).value ≤ 4294967295 →
    after = (remainder + frictionWork s force) % 3600000 ∧
    (t.counter c).value = min ((s.counter c).value + (remainder + frictionWork s force) / 3600000) 4294967295

theorem countFriction_down (h : s.brakeLinkUp = false) : countFriction s = s := if_neg (Bool.eq_false_iff.1 h)

/-- The three counts of a frame, one axle after the other (R116). -/
theorem countFriction_up (h : s.brakeLinkUp = true) :
    countFriction s =
      countFriction3 (s.bbl.friction3 * s.sns.roadSpeed)
        (countFriction2 (min s.bbl.force2 (1000 * s.dsv.limits.gain2) * s.sns.roadSpeed)
          (countFriction1 (min s.bbl.force1 (1000 * s.dsv.limits.gain1) * s.sns.roadSpeed) s)) := if_pos h

theorem countFriction1_bbl (work : Nat) (s : State) :
    (countFriction1 work s).bbl = { s.bbl with remainder1 := (s.bbl.remainder1 + work) % 3600000 } :=
  wearIncrements_bbl _ _ _

theorem countFriction2_bbl (work : Nat) (s : State) :
    (countFriction2 work s).bbl = { s.bbl with remainder2 := (s.bbl.remainder2 + work) % 3600000 } :=
  wearIncrements_bbl _ _ _

theorem countFriction3_bbl (work : Nat) (s : State) :
    (countFriction3 work s).bbl = { s.bbl with remainder3 := (s.bbl.remainder3 + work) % 3600000 } :=
  wearIncrements_bbl _ _ _

/-- Of BBL's records the friction energy changes the remainders alone (R116). -/
theorem countFriction_bbl (s : State) :
    (countFriction s).bbl =
      { s.bbl with
        remainder1 := (countFriction s).bbl.remainder1, remainder2 := (countFriction s).bbl.remainder2,
        remainder3 := (countFriction s).bbl.remainder3 } := by
  cases h : s.brakeLinkUp
  · rw [countFriction_down h]
  · rw [countFriction_up h, countFriction3_bbl, countFriction2_bbl, countFriction1_bbl]

theorem countFriction1_counter_other {c : Counter} (work : Nat) (s : State) (h : c ≠ w0) :
    (countFriction1 work s).counter c = s.counter c := wearIncrements_counter_other _ _ h

theorem countFriction2_counter_other {c : Counter} (work : Nat) (s : State) (h : c ≠ w1) :
    (countFriction2 work s).counter c = s.counter c := wearIncrements_counter_other _ _ h

theorem countFriction3_counter_other {c : Counter} (work : Nat) (s : State) (h : c ≠ w2) :
    (countFriction3 work s).counter c = s.counter c := wearIncrements_counter_other _ _ h

theorem countFriction1_value (work : Nat) {s : State} (h : (s.counter w0).value ≤ 4294967295) :
    ((countFriction1 work s).counter w0).value =
      min ((s.counter w0).value + (s.bbl.remainder1 + work) / 3600000) 4294967295 := wearIncrements_value _ h

theorem countFriction2_value (work : Nat) {s : State} (h : (s.counter w1).value ≤ 4294967295) :
    ((countFriction2 work s).counter w1).value =
      min ((s.counter w1).value + (s.bbl.remainder2 + work) / 3600000) 4294967295 := wearIncrements_value _ h

theorem countFriction3_value (work : Nat) {s : State} (h : (s.counter w2).value ≤ 4294967295) :
    ((countFriction3 work s).counter w2).value =
      min ((s.counter w2).value + (s.bbl.remainder3 + work) / 3600000) 4294967295 := wearIncrements_value _ h

theorem countFriction_counter_other {c : Counter} (h0 : c ≠ w0) (h1 : c ≠ w1) (h2 : c ≠ w2) :
    (countFriction s).counter c = s.counter c := by
  cases h : s.brakeLinkUp
  · rw [countFriction_down h]
  · rw [countFriction_up h, countFriction3_counter_other _ _ h2, countFriction2_counter_other _ _ h1,
      countFriction1_counter_other _ _ h0]

/-- With the brake link not up an axle is counted as it stands (R116). -/
theorem AxleCounted.down (h : s.brakeLinkUp = false) (c : Counter) (remainder force : Nat) :
    AxleCounted s s c remainder remainder force := by
  intro hremainder hvalue
  rw [frictionWork_down h]
  omega

theorem countFriction_axle1 :
    AxleCounted s (countFriction s) w0 s.bbl.remainder1 (countFriction s).bbl.remainder1
      (min s.bbl.force1 (1000 * s.dsv.limits.gain1)) := by
  cases h : s.brakeLinkUp
  · rw [countFriction_down h]
    exact .down h _ _ _
  · intro _ hvalue
    rw [frictionWork_up h, countFriction_up h, countFriction3_counter_other _ _ (by decide),
      countFriction2_counter_other _ _ (by decide), countFriction1_value _ hvalue, countFriction3_bbl, countFriction2_bbl,
      countFriction1_bbl]
    exact ⟨rfl, rfl⟩

theorem countFriction_axle2 :
    AxleCounted s (countFriction s) w1 s.bbl.remainder2 (countFriction s).bbl.remainder2
      (min s.bbl.force2 (1000 * s.dsv.limits.gain2)) := by
  cases h : s.brakeLinkUp
  · rw [countFriction_down h]
    exact .down h _ _ _
  · intro _ hvalue
    have hfirst (work : Nat) : (countFriction1 work s).counter w1 = s.counter w1 :=
      countFriction1_counter_other _ _ (by decide)
    rw [frictionWork_up h, countFriction_up h, countFriction3_counter_other _ _ (by decide),
      countFriction2_value _ (by rw [hfirst]; exact hvalue), hfirst, countFriction3_bbl, countFriction2_bbl,
      countFriction1_bbl]
    exact ⟨rfl, rfl⟩

theorem countFriction_axle3 :
    AxleCounted s (countFriction s) w2 s.bbl.remainder3 (countFriction s).bbl.remainder3 s.bbl.friction3 := by
  cases h : s.brakeLinkUp
  · rw [countFriction_down h]
    exact .down h _ _ _
  · intro _ hvalue
    have hbefore (work1 work2 : Nat) : (countFriction2 work2 (countFriction1 work1 s)).counter w2 = s.counter w2 := by
      rw [countFriction2_counter_other _ _ (by decide), countFriction1_counter_other _ _ (by decide)]
    rw [frictionWork_up h, countFriction_up h, countFriction3_value _ (by rw [hbefore]; exact hvalue), hbefore,
      countFriction3_bbl, countFriction2_bbl, countFriction1_bbl]
    exact ⟨rfl, rfl⟩

theorem countFriction_faults (s : State) : (countFriction s).faults = s.faults := by
  cases h : s.brakeLinkUp
  · rw [countFriction_down h]
  · rw [countFriction_up h, countFriction3, countFriction2, countFriction1]
    simp

theorem countFriction_exc (s : State) : (countFriction s).exc = s.exc := by
  cases h : s.brakeLinkUp
  · rw [countFriction_down h]
  · rw [countFriction_up h, countFriction3, countFriction2, countFriction1]
    simp

/-! ## Slip supervision (R118 to R120, R122) -/

/-- The state that the entry and release tests find: λ is formed (R118). -/
def slipMeasured (s : State) : State := s.withBbl (formSlip s s.bbl)

/-- The frame starts a slip hold by slip, if none is set (R119). -/
def startsBySlip (s : State) : Bool := entryCounts s && decide (2 ≤ s.bbl.entryRun + 1)

/-- The frame ends a slip hold, if one is set (R122). -/
def endsHold (s : State) : Bool := releaseCounts s && decide (20 ≤ s.bbl.releaseRun + 1)

theorem superviseSlip_held (h : s.bbl.slipHold = true) :
    superviseSlip s = (slipMeasured s).withBbl (slipRelease (slipMeasured s) (slipMeasured s).bbl) := if_pos h

theorem superviseSlip_clear (h : s.bbl.slipHold = false) : superviseSlip s = slipEntry (slipMeasured s) :=
  if_neg (Bool.eq_false_iff.1 h)

/-- The release test by its two answers: the frame counts, and it ends the hold (R122, R123). -/
theorem slipRelease_eq (s : State) :
    slipRelease s s.bbl =
      { s.bbl with
        slipHold := s.bbl.slipHold && !endsHold s
        releaseRun := if releaseCounts s && !endsHold s then s.bbl.releaseRun + 1 else 0
        ramp := if endsHold s then some 0 else s.bbl.ramp } := by
  unfold slipRelease endsHold
  cases releaseCounts s
  · simp
  · by_cases hrun : 20 ≤ s.bbl.releaseRun + 1
    · simp [hrun]
    · simp [hrun]

theorem slipEntry_bySlip (h : startsBySlip s = true) :
    slipEntry s =
      wearIncrement false w8 (logNow .slipHold none (some s.bbl.slip) (s.withBbl (holdStarted s.bbl))) := if_pos h

theorem slipEntry_byAntiLock (h : startsBySlip s = false) (ha : antiLock s = true) :
    slipEntry s = s.withBbl (holdStarted s.bbl) := (if_neg (Bool.eq_false_iff.1 h)).trans (if_pos ha)

theorem slipEntry_stays (h : startsBySlip s = false) (ha : antiLock s = false) :
    slipEntry s = s.withBbl { s.bbl with entryRun := if entryCounts s then s.bbl.entryRun + 1 else 0 } :=
  (if_neg (Bool.eq_false_iff.1 h)).trans (if_neg (Bool.eq_false_iff.1 ha))

theorem slipEntry_bbl (s : State) :
    (slipEntry s).bbl =
      if startsBySlip s || antiLock s then holdStarted s.bbl
      else { s.bbl with entryRun := if entryCounts s then s.bbl.entryRun + 1 else 0 } := by
  cases h : startsBySlip s
  · cases ha : antiLock s
    · rw [slipEntry_stays h ha]
      rfl
    · rw [slipEntry_byAntiLock h ha]
      rfl
  · rw [slipEntry_bySlip h, wearIncrement_bbl, logNow_bbl]
    rfl

/-- Without a hold by slip the entry tests count and log nothing (R119, R120). -/
theorem slipEntry_uncounted (h : startsBySlip s = false) :
    (∀ c : Counter, (slipEntry s).counter c = s.counter c) ∧ (slipEntry s).log = s.log := by
  cases ha : antiLock s
  · rw [slipEntry_stays h ha]
    exact ⟨fun _ => rfl, rfl⟩
  · rw [slipEntry_byAntiLock h ha]
    exact ⟨fun _ => rfl, rfl⟩

theorem slipEntry_counter_other {c : Counter} (hc : c ≠ w8) : (slipEntry s).counter c = s.counter c := by
  cases h : startsBySlip s
  · exact (slipEntry_uncounted h).1 c
  · rw [slipEntry_bySlip h, wearIncrement_counter_other _ _ hc]
    rfl

theorem slipEntry_w8 (h : startsBySlip s = true) :
    ((slipEntry s).counter w8).value = min ((s.counter w8).value + 1) 4294967295 := by
  rw [slipEntry_bySlip h, wearIncrement_value]
  rfl

/-- A hold by slip is logged before its count, which without thresholds logs nothing (R119, R130). -/
theorem slipEntry_log (h : startsBySlip s = true) (hw : (s.counter w8).advise = 0 ∧ (s.counter w8).urgent = 0) :
    (slipEntry s).log = s.log.afterAppend (entryNow s .slipHold none (some s.bbl.slip) none) := by
  rw [slipEntry_bySlip h]
  exact wearIncrement_log_unwarned false hw

theorem slipEntry_faults (s : State) : (slipEntry s).faults = s.faults := by
  unfold slipEntry
  split_ifs <;> simp

theorem slipEntry_exc (s : State) : (slipEntry s).exc = s.exc := by
  unfold slipEntry
  split_ifs <;> simp

/-- Of BBL's records slip supervision changes λ, the hold, its runs and the ramp alone (R118 to R123). -/
theorem superviseSlip_bbl (s : State) :
    (superviseSlip s).bbl =
      { s.bbl with
        slip := slipRatio s.sns.vRef s.sns.v3, slipFormed := slipFormed s.sns.vRef
        slipHold := (superviseSlip s).bbl.slipHold, entryRun := (superviseSlip s).bbl.entryRun
        releaseRun := (superviseSlip s).bbl.releaseRun, ramp := (superviseSlip s).bbl.ramp } := by
  cases h : s.bbl.slipHold
  · rw [superviseSlip_clear h, slipEntry_bbl]
    split <;> rfl
  · rw [superviseSlip_held h, slipRelease_eq]
    rfl

theorem superviseSlip_faults (s : State) : (superviseSlip s).faults = s.faults := by
  cases h : s.bbl.slipHold
  · rw [superviseSlip_clear h, slipEntry_faults]
    rfl
  · rw [superviseSlip_held h]
    rfl

theorem superviseSlip_exc (s : State) : (superviseSlip s).exc = s.exc := by
  cases h : s.bbl.slipHold
  · rw [superviseSlip_clear h, slipEntry_exc]
    rfl
  · rw [superviseSlip_held h]
    rfl

theorem superviseSlip_counter_other {c : Counter} (hc : c ≠ w8) : (superviseSlip s).counter c = s.counter c := by
  cases h : s.bbl.slipHold
  · rw [superviseSlip_clear h, slipEntry_counter_other hc]
    rfl
  · rw [superviseSlip_held h]
    rfl

/-- The ramp starts at 0 where a hold ends and ends where one starts (R119, R120, R123). -/
theorem superviseSlip_ramp (s : State) :
    (superviseSlip s).bbl.ramp =
      if s.bbl.slipHold && !(superviseSlip s).bbl.slipHold then some 0
      else if !s.bbl.slipHold && (superviseSlip s).bbl.slipHold then none
      else s.bbl.ramp := by
  cases h : s.bbl.slipHold
  · rw [superviseSlip_clear h, slipEntry_bbl]
    split
    · rfl
    · simp [slipMeasured, formSlip, h]
  · rw [superviseSlip_held h, slipRelease_eq]
    cases hends : endsHold (slipMeasured s)
    · simp [slipMeasured, formSlip, h]
    · simp

/-- The frame counts toward entry as the statement words it (R119). -/
theorem entryCounts_eq (s : State) :
    entryCounts s =
      (decide (s.spl.demand.direction = .forward) && s.bbl.slipFormed &&
        decide (s.tqa.issued < 0 ∧ (s.dsv.limits.slipLimit : Int) ≤ s.bbl.slip)) := by
  unfold entryCounts
  rw [Bool.decide_and]
  ac_rfl

theorem superviseSlip_measured (s : State) :
    (superviseSlip s).bbl.slip = (slipMeasured s).bbl.slip ∧
      (superviseSlip s).bbl.slipFormed = (slipMeasured s).bbl.slipFormed := by
  rw [superviseSlip_bbl]
  exact ⟨rfl, rfl⟩

/-- A frame that finds the hold set: the release run counts on, or the hold ends (R122). -/
theorem slipSupervised_held (h : s.bbl.slipHold = true) : SlipSupervised s (superviseSlip s) := by
  obtain ⟨hslip, hformed⟩ := superviseSlip_measured s
  have heq := superviseSlip_held h
  rw [slipRelease_eq] at heq
  have hcounter : (superviseSlip s).counter w8 = s.counter w8 := by rw [heq]; rfl
  have hlog : (superviseSlip s).log = s.log := by rw [heq]; rfl
  unfold SlipSupervised
  rw [hslip, hformed, hcounter, hlog]
  intro b forward counts bySlip byAntiLock starts frees ends
  have hfrees : releaseCounts (slipMeasured s) = frees := rfl
  have hb : b.slipHold = true := h
  have hends : endsHold (slipMeasured s) = ends := by
    show _ = (b.slipHold && frees && _)
    rw [hb, Bool.true_and]
    rfl
  have hbySlip : bySlip = false := by simp [bySlip, hb]
  have hstarts : starts = false := by simp [starts, hbySlip, byAntiLock, hb]
  rw [hfrees, hends] at heq
  rw [heq, hb, hbySlip, hstarts]
  refine ⟨?hold, rfl, rfl, rfl, fun _ => rfl, fun hno => Bool.noConfusion hno, fun _ _ => rfl⟩
  show (b.slipHold && !ends) = _
  rw [hb, Bool.or_false]

/-- A frame that finds the hold clear: the entry run counts on, or a hold starts (R119, R120). -/
theorem slipSupervised_clear (h : s.bbl.slipHold = false) : SlipSupervised s (superviseSlip s) := by
  obtain ⟨hslip, hformed⟩ := superviseSlip_measured s
  have heq := superviseSlip_clear h
  have hbbl := congrArg State.bbl heq
  rw [slipEntry_bbl] at hbbl
  unfold SlipSupervised
  rw [hslip, hformed, heq]
  rw [heq] at hbbl
  intro b forward counts bySlip byAntiLock starts frees ends
  have hb : b.slipHold = false := h
  have hcounts : entryCounts (slipMeasured s) = counts := entryCounts_eq _
  have hbySlip : startsBySlip (slipMeasured s) = bySlip := by
    show (entryCounts (slipMeasured s) && _) = (!b.slipHold && counts && _)
    rw [hb, hcounts]
    rfl
  have hbyAntiLock : antiLock (slipMeasured s) = byAntiLock := by
    show _ = (!b.slipHold && forward && _ && _)
    rw [hb]
    rfl
  rw [hbySlip, hbyAntiLock, hcounts] at hbbl
  change (slipEntry (slipMeasured s)).bbl = if starts then _ else _ at hbbl
  rw [hbbl, hb]
  refine ⟨?hold, ?entry, ?release, ?w8, fun hno => ?counter, fun hyes _ hadvise hurgent => ?logged, fun hno _ => ?log⟩
  case hold =>
    cases starts
    · exact hb
    · rfl
  case entry => cases starts <;> rfl
  case release => cases starts <;> rfl
  case w8 =>
    cases hd : bySlip
    · rw [(slipEntry_uncounted (hbySlip.trans hd)).1]
      rfl
    · exact slipEntry_w8 (hbySlip.trans hd)
  case counter => exact (slipEntry_uncounted (hbySlip.trans hno)).1 w8
  case logged => exact slipEntry_log (hbySlip.trans hyes) ⟨hadvise, hurgent⟩
  case log => exact (slipEntry_uncounted (hbySlip.trans hno)).2

theorem superviseSlip_supervised (s : State) : SlipSupervised s (superviseSlip s) := by
  cases h : s.bbl.slipHold
  · exact slipSupervised_clear h
  · exact slipSupervised_held h

/-! ## The return ramp and the regen request (R109, R110, R123) -/

/-- The cap that a frame applies: raised by 10 if the ramp ran before (R123). -/
def rampCap (raised : Bool) (cap : Nat) : Nat := if raised then min (cap + 10) 2000 else cap

theorem applyRamp_free {b : Bbl} (raised : Bool) (faded : Nat) (h : b.ramp = none) :
    applyRamp raised faded b = { b with tRa := faded } := by
  unfold applyRamp
  rw [h]

/-- The cap bounds the availability, and the ramp runs on while the cap is below it (R123). -/
theorem applyRamp_capped {b : Bbl} {cap : Nat} (raised : Bool) (faded : Nat) (h : b.ramp = some cap) :
    applyRamp raised faded b =
      { b with
        tRa := min (rampCap raised cap) faded
        ramp := if rampCap raised cap < faded then some (rampCap raised cap) else none } := by
  unfold applyRamp
  rw [h]
  change (if rampCap raised cap < faded then _ else _) = _
  by_cases hlow : rampCap raised cap < faded
  · rw [if_pos hlow, if_pos hlow, Nat.min_eq_left (Nat.le_of_lt hlow)]
    rfl
  · rw [if_neg hlow, if_neg hlow, Nat.min_eq_right (Nat.le_of_not_lt hlow)]

theorem applyRamp_records (raised : Bool) (faded : Nat) (b : Bbl) :
    applyRamp raised faded b =
      { b with tRa := (applyRamp raised faded b).tRa, ramp := (applyRamp raised faded b).ramp } := by
  cases h : b.ramp with
  | none => rw [applyRamp_free raised faded h]
  | some cap => rw [applyRamp_capped raised faded h]

/-- The request, formed back from a force within the availability, stays within it (R110). -/
theorem request_le_availability (tRa force3 gear radius : Nat) :
    min force3 (tRa * gear / radius) * radius / gear ≤ tRa := by
  calc min force3 (tRa * gear / radius) * radius / gear
      ≤ tRa * gear / radius * radius / gear :=
        Nat.div_le_div_right (Nat.mul_le_mul_right _ (Nat.min_le_right _ _))
    _ ≤ tRa * gear / gear := Nat.div_le_div_right (Nat.div_mul_le_self _ _)
    _ ≤ tRa := Nat.div_le_of_le_mul (Nat.mul_comm _ _).le

theorem regenRequestOf_bounds (l : Limits) (b : Bbl) :
    (regenRequestOf l b).regenRequest ≤ b.tRa ∧ (regenRequestOf l b).regenForce ≤ b.force3 ∧
      ((regenRequestOf l b).recoveryActive = false →
        (regenRequestOf l b).regenRequest = 0 ∧ (regenRequestOf l b).regenForce = 0) := by
  unfold regenRequestOf
  dsimp only
  cases decide (0 < b.aReq) && b.permission
  · exact ⟨Nat.zero_le _, Nat.zero_le _, fun _ => ⟨rfl, rfl⟩⟩
  · refine ⟨?_, Nat.min_le_left _ _, fun h => Bool.noConfusion h⟩
    rw [Nat.mul_assoc b.tRa]
    exact request_le_availability _ _ _ _

/-! ## The frame in its steps -/

/-- The state after steps 2 and 3: the friction energy counted, the axle shares formed (R107, R116). -/
def sharesFormed (s : State) : State :=
  (countFriction s).withBbl (axleShares (countFriction s).spl.demand (countFriction s).dsv.limits (countFriction s).bbl)

/-- The ramp's cap is raised: it ran before, and no hold ends in this frame (R123). -/
def rampRaised (s : State) : Bool :=
  s.bbl.ramp.isSome && !(s.bbl.slipHold && !(superviseSlip (sharesFormed s)).bbl.slipHold)

theorem blendFrame_eq (s : State) :
    blendFrame s =
      (superviseSlip (sharesFormed s)).withBbl (blendResults (rampRaised s) (superviseSlip (sharesFormed s))) := rfl

theorem sharesFormed_rest (s : State) : (sharesFormed s).rest = { s.rest with bbl := (sharesFormed s).bbl } :=
  blendRest_trans (countFriction_rest s) rfl

theorem slipChecked_rest (s : State) :
    (superviseSlip (sharesFormed s)).rest = { s.rest with bbl := (superviseSlip (sharesFormed s)).bbl } :=
  blendRest_trans (sharesFormed_rest s) (superviseSlip_rest _)

theorem sharesFormed_dsv (s : State) : (sharesFormed s).dsv = s.dsv := countFriction_dsv s

theorem slipChecked_dsv (s : State) : (superviseSlip (sharesFormed s)).dsv = s.dsv :=
  (superviseSlip_dsv _).trans (sharesFormed_dsv s)

theorem sharesFormed_bbl (s : State) :
    (sharesFormed s).bbl = axleShares s.spl.demand s.dsv.limits (countFriction s).bbl := by
  have hspl : (countFriction s).spl = s.spl := congrArg Rest.spl (countFriction_rest s)
  unfold sharesFormed
  rw [withBbl_bbl, hspl, countFriction_dsv]

/-- The records of the frame that steps 5 to 8 do not form stand as step 4 left them (R106). -/
theorem blendFrame_bbl (s : State) :
    (blendFrame s).bbl =
      { (superviseSlip (sharesFormed s)).bbl with
        permission := permissionOf (superviseSlip (sharesFormed s))
        tRa := (blendFrame s).bbl.tRa, ramp := (blendFrame s).bbl.ramp
        recoveryActive := (blendFrame s).bbl.recoveryActive, regenForce := (blendFrame s).bbl.regenForce
        regenRequest := (blendFrame s).bbl.regenRequest
        p1 := (blendFrame s).bbl.p1, p2 := (blendFrame s).bbl.p2 } := by
  rw [blendFrame_eq, withBbl_bbl, blendResults, applyRamp_records]
  rfl

/-- λ, the hold and its runs after a frame are those that step 4 left (R118 to R122). -/
theorem blendFrame_slipRecords (s : State) :
    (blendFrame s).bbl.slip = (superviseSlip (sharesFormed s)).bbl.slip ∧
      (blendFrame s).bbl.slipFormed = (superviseSlip (sharesFormed s)).bbl.slipFormed ∧
      (blendFrame s).bbl.slipHold = (superviseSlip (sharesFormed s)).bbl.slipHold ∧
      (blendFrame s).bbl.entryRun = (superviseSlip (sharesFormed s)).bbl.entryRun ∧
      (blendFrame s).bbl.releaseRun = (superviseSlip (sharesFormed s)).bbl.releaseRun := by
  rw [blendFrame_bbl]
  exact ⟨rfl, rfl, rfl, rfl, rfl⟩

/-- BBL's records after a frame: those of steps 3 and 4 spelled out, the complement's as before (R106, R107, R118). -/
theorem blendFrame_records (s : State) :
    (blendFrame s).bbl =
      { axleShares s.spl.demand s.dsv.limits (countFriction s).bbl with
        slip := slipRatio s.sns.vRef s.sns.v3, slipFormed := slipFormed s.sns.vRef
        slipHold := (blendFrame s).bbl.slipHold, entryRun := (blendFrame s).bbl.entryRun
        releaseRun := (blendFrame s).bbl.releaseRun, permission := (blendFrame s).bbl.permission
        tRa := (blendFrame s).bbl.tRa, ramp := (blendFrame s).bbl.ramp
        recoveryActive := (blendFrame s).bbl.recoveryActive, regenForce := (blendFrame s).bbl.regenForce
        regenRequest := (blendFrame s).bbl.regenRequest
        p1 := (blendFrame s).bbl.p1, p2 := (blendFrame s).bbl.p2 } := by
  have hsns : (sharesFormed s).sns = s.sns := congrArg Rest.sns (sharesFormed_rest s)
  rw [blendFrame_bbl, superviseSlip_bbl, sharesFormed_bbl, hsns]

/-- A frame raises and clears no fault (R106). -/
theorem blendFrame_faults (s : State) : (blendFrame s).faults = s.faults :=
  (superviseSlip_faults _).trans (countFriction_faults s)

theorem blendFrame_exc (s : State) : (blendFrame s).exc = s.exc := (superviseSlip_exc _).trans (countFriction_exc s)

/-! ## What the frame does, in the words of the statement -/

theorem blendFrame_counter_friction {c : Counter} (hc : c ≠ w8) : (blendFrame s).counter c = (countFriction s).counter c :=
  superviseSlip_counter_other hc

/-- Steps 3 to 8 leave the remainders that step 2 counted (R116). -/
theorem blendFrame_remainders (s : State) :
    (blendFrame s).bbl.remainder1 = (countFriction s).bbl.remainder1 ∧
      (blendFrame s).bbl.remainder2 = (countFriction s).bbl.remainder2 ∧
      (blendFrame s).bbl.remainder3 = (countFriction s).bbl.remainder3 := by
  rw [blendFrame_records]
  exact ⟨rfl, rfl, rfl⟩

/-- The records of the latest complement stand through a frame (R106, R112). -/
theorem blendFrame_complement (s : State) :
    (blendFrame s).bbl.motorForce = s.bbl.motorForce ∧ (blendFrame s).bbl.friction3 = s.bbl.friction3 ∧
      (blendFrame s).bbl.p3 = s.bbl.p3 ∧ (blendFrame s).bbl.complementTorque = s.bbl.complementTorque := by
  rw [blendFrame_records, countFriction_bbl]
  exact ⟨rfl, rfl, rfl, rfl⟩

theorem AxleCounted.congr {t u : State} {c : Counter} {remainder after after' force : Nat}
    (h : AxleCounted s t c remainder after force) (hcounter : u.counter c = t.counter c) (hafter : after' = after) :
    AxleCounted s u c remainder after' force := by
  unfold AxleCounted
  rw [hcounter, hafter]
  exact h

theorem blendFrame_friction (s : State) : FrictionCounted s (blendFrame s) := by
  obtain ⟨hfirst, hsecond, hthird⟩ := blendFrame_remainders s
  refine ⟨countFriction_axle1.congr (blendFrame_counter_friction (by decide)) hfirst,
    countFriction_axle2.congr (blendFrame_counter_friction (by decide)) hsecond,
    countFriction_axle3.congr (blendFrame_counter_friction (by decide)) hthird, fun c h0 h1 h2 h8 => ?_⟩
  rw [blendFrame_counter_friction h8, countFriction_counter_other h0 h1 h2]

/-- Step 4 finds the slip hold, its runs and its ramp as the frame before left them (R106). -/
theorem sharesFormed_slip (s : State) :
    (sharesFormed s).bbl.slipHold = s.bbl.slipHold ∧ (sharesFormed s).bbl.entryRun = s.bbl.entryRun ∧
      (sharesFormed s).bbl.releaseRun = s.bbl.releaseRun ∧ (sharesFormed s).bbl.ramp = s.bbl.ramp := by
  rw [sharesFormed_bbl, countFriction_bbl]
  exact ⟨rfl, rfl, rfl, rfl⟩

theorem sharesFormed_w8 (s : State) : (sharesFormed s).counter w8 = s.counter w8 :=
  countFriction_counter_other (by decide) (by decide) (by decide)

theorem sharesFormed_log (h : s.brakeLinkUp = false) : (sharesFormed s).log = s.log :=
  (withBbl_log _ _).trans (congrArg State.log (countFriction_down h))

theorem blendFrame_slip (s : State) : SlipSupervised s (blendFrame s) := by
  have hrest := sharesFormed_rest s
  have hspl : (sharesFormed s).spl = s.spl := congrArg Rest.spl hrest
  have hsns : (sharesFormed s).sns = s.sns := congrArg Rest.sns hrest
  have htqa : (sharesFormed s).tqa = s.tqa := congrArg Rest.tqa hrest
  have hup : (sharesFormed s).brakeLinkUp = s.brakeLinkUp := by unfold State.brakeLinkUp; rw [hsns]
  obtain ⟨hhold, hentry, hrelease, -⟩ := sharesFormed_slip s
  obtain ⟨hslip, hformed, hholdAfter, hentryAfter, hreleaseAfter⟩ := blendFrame_slipRecords s
  have h := superviseSlip_supervised (sharesFormed s)
  unfold SlipSupervised at h ⊢
  dsimp only at h ⊢
  rw [hspl, hsns, htqa, sharesFormed_dsv, hhold, hentry, hrelease, sharesFormed_w8, hup] at h
  rw [hslip, hformed, hholdAfter, hentryAfter, hreleaseAfter]
  obtain ⟨hholds, hentries, hreleases, hvalue, hkept, hlogged, hquiet⟩ := h
  refine ⟨hholds, hentries, hreleases, hvalue, hkept, fun hyes hdown hadvise hurgent => ?_,
    fun hno hdown => (hquiet hno hdown).trans (sharesFormed_log hdown)⟩
  have hentryLogged := hlogged hyes hdown hadvise hurgent
  rw [sharesFormed_log hdown, entryNow_congr (congrArg Sns.odometer hsns)
    (congrArg Dsv.operatingSeconds (sharesFormed_dsv s)) (congrArg Exc.frameNumber (countFriction_exc s))] at hentryLogged
  exact hentryLogged

/-- The availability of step 6 is formed from the inputs of the frame (R109). -/
theorem fadedAvailability_slipChecked (s : State) :
    fadedAvailability (superviseSlip (sharesFormed s)) = fadedAvailability s := by
  have hsns : (superviseSlip (sharesFormed s)).sns = s.sns := congrArg Rest.sns (slipChecked_rest s)
  have hena : (superviseSlip (sharesFormed s)).ena = s.ena := congrArg Rest.ena (slipChecked_rest s)
  unfold fadedAvailability State.shaftMagnitude
  rw [hsns, hena, slipChecked_dsv]

theorem blendFrame_ramped (s : State) :
    ∃ b : Bbl, b.ramp = (superviseSlip (sharesFormed s)).bbl.ramp ∧
      (blendFrame s).bbl.tRa = (applyRamp (rampRaised s) (fadedAvailability s) b).tRa ∧
      (blendFrame s).bbl.ramp = (applyRamp (rampRaised s) (fadedAvailability s) b).ramp := by
  rw [← fadedAvailability_slipChecked]
  exact ⟨{ (superviseSlip (sharesFormed s)).bbl with permission := permissionOf (superviseSlip (sharesFormed s)) },
    rfl, rfl, rfl⟩

theorem blendFrame_uncapped (h : (superviseSlip (sharesFormed s)).bbl.ramp = none) :
    (blendFrame s).bbl.tRa = fadedAvailability s ∧ (blendFrame s).bbl.ramp = none := by
  obtain ⟨b, hb, htRa, hramp⟩ := blendFrame_ramped s
  have hnone := hb.trans h
  rw [htRa, hramp, applyRamp_free _ _ hnone]
  exact ⟨rfl, hnone⟩

theorem blendFrame_capped {cap : Nat} (h : (superviseSlip (sharesFormed s)).bbl.ramp = some cap) :
    (blendFrame s).bbl.tRa = min (rampCap (rampRaised s) cap) (fadedAvailability s) ∧
      (blendFrame s).bbl.ramp =
        if rampCap (rampRaised s) cap < fadedAvailability s then some (rampCap (rampRaised s) cap) else none := by
  obtain ⟨b, hb, htRa, hramp⟩ := blendFrame_ramped s
  rw [htRa, hramp, applyRamp_capped _ _ (hb.trans h)]
  exact ⟨rfl, rfl⟩

/-- A ramp starts where a hold ends, ends where one starts, and else runs on with its cap raised (R123). -/
theorem blendFrame_ramp (s : State) : RampApplied s (blendFrame s) := by
  have hramp := superviseSlip_ramp (sharesFormed s)
  obtain ⟨hhold, -, -, hbefore⟩ := sharesFormed_slip s
  obtain ⟨-, -, hafter, -, -⟩ := blendFrame_slipRecords s
  have hraised : rampRaised s = (s.bbl.ramp.isSome && !(s.bbl.slipHold && !(blendFrame s).bbl.slipHold)) := by
    rw [hafter]
    rfl
  rw [hhold, hbefore, ← hafter] at hramp
  unfold RampApplied
  intro n battery fade faded cap
  have hfaded : fadedAvailability s = faded := rfl
  cases hends : s.bbl.slipHold && !(blendFrame s).bbl.slipHold <;> rw [hends] at hramp hraised
  case true =>
    have hcap : cap = some 0 := by simp only [cap, hends]; rfl
    have hzero : rampCap (rampRaised s) 0 = 0 := by rw [hraised, Bool.not_true, Bool.and_false]; rfl
    have hcapped := blendFrame_capped hramp
    rw [hzero] at hcapped
    rw [hcap]
    exact hcapped
  case false =>
    cases hstarts : !s.bbl.slipHold && (blendFrame s).bbl.slipHold <;> rw [hstarts] at hramp
    case true =>
      have hcap : cap = none := by simp only [cap, hends, hstarts]; rfl
      rw [hcap]
      exact blendFrame_uncapped hramp
    case false =>
      have hcap : cap = s.bbl.ramp.map fun c => min (c + 10) 2000 := by simp only [cap, hends, hstarts]; rfl
      rw [hcap]
      change _ = s.bbl.ramp at hramp
      cases hran : s.bbl.ramp with
      | none => exact blendFrame_uncapped (hramp.trans hran)
      | some c =>
        have hcapped := blendFrame_capped (hramp.trans hran)
        rw [hraised, hran] at hcapped
        exact hcapped

/-- The permission is decided from the inputs of the frame and the hold that step 4 left (R108). -/
theorem blendFrame_permission (s : State) :
    (blendFrame s).bbl.permission =
      (decide (s.spl.demand.direction = .forward) &&
        decide (s.dsv.state = .drive ∨ s.dsv.state = .limp ∨ s.dsv.state = .safeStop) && s.sns.brakeLink.up &&
        s.sns.brakeAvailable && !s.sns.absActive && !(blendFrame s).bbl.slipHold && s.sns.vRef.valid && s.sns.v3.valid) := by
  have hspl : (superviseSlip (sharesFormed s)).spl = s.spl := congrArg Rest.spl (slipChecked_rest s)
  have hsns : (superviseSlip (sharesFormed s)).sns = s.sns := congrArg Rest.sns (slipChecked_rest s)
  obtain ⟨-, -, hhold, -, -⟩ := blendFrame_slipRecords s
  have hpermission : (blendFrame s).bbl.permission = permissionOf (superviseSlip (sharesFormed s)) := by rw [blendFrame_bbl]
  rw [hpermission, permissionOf, hspl, slipChecked_dsv, torqueFlows_eq, State.brakeLinkUp, hsns, ← hhold]
  ac_rfl

/-- Steps 7 and 8 come last, on the records that the steps before them left (R106, R110, R111). -/
theorem blendFrame_formed (s : State) :
    ∃ b : Bbl, (blendFrame s).bbl = axlePressures s.dsv.limits (regenRequestOf s.dsv.limits b) := by
  rw [← slipChecked_dsv]
  exact ⟨_, rfl⟩

theorem blendFrame_pressures (s : State) :
    (blendFrame s).bbl.p1 = min 1000 (ceilDiv (blendFrame s).bbl.force1 s.dsv.limits.gain1) ∧
      (blendFrame s).bbl.p2 = min 1000 (ceilDiv (blendFrame s).bbl.force2 s.dsv.limits.gain2) := by
  obtain ⟨b, hb⟩ := blendFrame_formed s
  rw [hb]
  exact ⟨rfl, rfl⟩

theorem blendFrame_regen (s : State) :
    let b := (blendFrame s).bbl
    let l := s.dsv.limits
    b.recoveryActive = (decide (0 < b.aReq) && b.permission) ∧
      b.regenForce = (if b.recoveryActive then min b.force3 (b.tRa * l.ratio100 * 10 / l.wheelRadius) else 0) ∧
      b.regenRequest = (if b.recoveryActive then b.regenForce * l.wheelRadius / (l.ratio100 * 10) else 0) ∧
      b.regenRequest ≤ b.tRa ∧ b.regenForce ≤ b.force3 ∧
      (b.recoveryActive = false → b.regenRequest = 0 ∧ b.regenForce = 0) := by
  intro b l
  obtain ⟨c, hc⟩ := blendFrame_formed s
  obtain ⟨hrequest, hforce, hidle⟩ := regenRequestOf_bounds l c
  have hb : b = axlePressures l (regenRequestOf l c) := hc
  rw [hb]
  refine ⟨rfl, rfl, ?request, hrequest, hforce, hidle⟩
  unfold regenRequestOf axlePressures
  dsimp only
  cases decide (0 < c.aReq) && c.permission <;> rfl

end

/-! ## The statement -/

theorem blendFrame_frame (s : State) :
    blendFrame s =
      { s with
        bbl := (blendFrame s).bbl, wear := (blendFrame s).wear, log := (blendFrame s).log, port := (blendFrame s).port } :=
  State.eq_of_fields (blendFrame_rest s) (blendFrame_dsv s) (blendFrame_faults s) rfl rfl (blendFrame_exc s) rfl

/-- Settles O44, by the friction energy, the axle shares, slip supervision, the permission, the ramp, the request and the
pressures of the frame, a lemma for each. -/
theorem blendFrameFormsShares : Obligations.BlendFrameFormsShares := by
  intro s hrun hlog l f
  have hrecords := blendFrame_records s
  obtain ⟨hp1, hp2⟩ := blendFrame_pressures s
  obtain ⟨hactive, hforce, hrequest, hboundRequest, hboundForce, hidle⟩ := blendFrame_regen s
  have haReq : (blendFrame s).bbl.aReq = s.spl.demand.brake := congrArg Bbl.aReq hrecords
  have hformed : (blendFrame s).bbl.slipFormed = slipFormed s.sns.vRef := congrArg Bbl.slipFormed hrecords
  have hslip : (blendFrame s).bbl.slip = slipRatio s.sns.vRef s.sns.v3 := congrArg Bbl.slip hrecords
  obtain ⟨hmotor, hfriction, hp3, htorque⟩ := blendFrame_complement s
  rw [haReq] at hactive
  refine ⟨_, exec_blendFrame hrun, haReq, congrArg Bbl.force hrecords, congrArg Bbl.force1 hrecords,
    congrArg Bbl.force2 hrecords, congrArg Bbl.force3 hrecords, hp1, hp2, hformed, ?slip, blendFrame_permission s, hactive,
    blendFrame_slip s, blendFrame_ramp s, blendFrame_friction s, hforce, hrequest, hboundRequest, hboundForce, hidle, hmotor,
    hfriction, hp3, htorque, blendFrame_frame s, (blendFrame_kept s).frame hlog⟩
  case slip =>
    rw [hslip, hformed]
    rfl

end Sys2Proof.Machine
end

section
/-! PROOF. EXC leaves the wear counters but for what an owner does at a take, and no step leaves a warned level above the
warranted one (R127, R130). -/

namespace Sys2Proof.Machine

open Sys2Proof

/-! ## EXC leaves the wear monitor -/

theorem vcWritesPowered_wear (ws : List VcWrite) (s : State) : (vcWritesPowered ws s).wear = s.wear := by
  unfold vcWritesPowered
  split <;> rfl

theorem takeCell_wear (c : OrderChannel) (k : CellIndex) (code : OutcomeCode) (s : State) :
    (takeCell c k code s).wear = s.wear := by
  have hprevious (o : Option CellIndex) (u : State) : (returnPrevious o u).wear = u.wear := by
    cases o <;> rfl
  simp [takeCell, hprevious]

theorem refuseOrder_wear (c : OrderChannel) (k : CellIndex) (h : CellHeader) (code : OutcomeCode) (f : DetailFlags)
    (s : State) : (refuseOrder c k h code f s).1.wear = s.wear := by
  unfold refuseOrder refuseCell
  split <;> rfl

theorem rewriteChannel_wear (c : OrderChannel) (k : CellIndex) (s : State) : (rewriteChannel c k s).wear = s.wear := by
  unfold rewriteChannel
  split <;> rfl

theorem clearPending_wear (c : OrderChannel) (w : Word) (s : State) : (clearPending c w s).wear = s.wear := by
  unfold clearPending
  split <;> rfl

theorem releaseHold_wear (i : Fin 8) (s : State) : (releaseHold i s).wear = s.wear := by
  unfold releaseHold
  split
  · rfl
  · split <;> rfl

theorem releaseHolds_wear (is : List (Fin 8)) (s : State) : (releaseHolds is s).wear = s.wear := by
  induction is generalizing s with
  | nil => rfl
  | cons i is ih => rw [releaseHolds, ih, releaseHold_wear]

theorem rewrites_wear (s : State) : (rewrites s).wear = s.wear := by
  unfold rewrites
  rw [rewriteStatus_wear]

/-- Steps 2 to 4 of a sweep, and the publication request after them (R169, R174). -/
theorem sweepEnd_wear (written : Bool) (s : State) :
    (askOrderResult written (countSweep (rewrites (releaseHolds allReportRows s)))).wear = s.wear := by
  have hask (u : State) : (askOrderResult written u).wear = u.wear := by cases written <;> rfl
  have hcount (u : State) : (countSweep u).wear = u.wear := rfl
  rw [hask, hcount, rewrites_wear, releaseHolds_wear]

theorem fill_wear (late : List VcWrite) (c : ReportChannel) (k : CellIndex) (s : State) :
    (fill late c k s).wear = s.wear := by
  have hdone (u : State) : (orderDone c u).wear = u.wear := by cases c <;> rfl
  have hcursor (u : State) : (moveCursor c u).wear = u.wear := by cases c <;> rfl
  have hout (o : Option CellIndex) (u : State) : (outgoing c o u).wear = u.wear := by
    unfold outgoing
    cases o with
    | none => rfl
    | some o => dsimp only; split <;> (try split) <;> rfl
  have hheader (n : Nat) (u : State) : (writeHeader c k n u).wear = u.wear := by simp [writeHeader]
  have hpayload (u : State) : (writePayload c k u).wear = u.wear := rfl
  have hstart (u : State) : (startFilling c u).wear = u.wear := rfl
  unfold fill
  rw [hdone, hout, hheader, vcWrites_wear, hpayload, hcursor, hstart]

theorem publish_wear (late : List VcWrite) (c : ReportChannel) (s : State) : (publish late c s).wear = s.wear := by
  unfold publish
  dsimp only
  split
  · exact fill_wear late c _ _
  · exact vcWrites_wear _ late

theorem reportTurns_wear (late : List LateWrite) (cs : List ReportChannel) (s : State) :
    (reportTurns late cs s).wear = s.wear := by
  have hturn (c : ReportChannel) (u : State) : (reportTurn late c u).wear = u.wear := by
    unfold reportTurn
    split
    · exact publish_wear _ _ _
    · rfl
  induction cs generalizing s with
  | nil => rfl
  | cons c cs ih => rw [reportTurns, ih, hturn]

theorem reportFrame_wear (late : List LateWrite) (s : State) : (reportFrame late s).wear = s.wear :=
  reportTurns_wear late _ _

/-- A report frame, or only the words of one that does not run, leaves the wear monitor (R175; log 10). -/
theorem execReportFrame_wear {ws : List VcWrite} {late : List LateWrite} {s t : State}
    (h : exec (.reportFrame ws late) s = .next t) : t.wear = s.wear := by
  unfold exec execReportFrame at h
  cases h
  split
  · rw [reportFrame_wear, vcWritesPowered_wear]
  · rw [vcWritesPowered_wear, vcWritesPowered_wear]

/-! ## The sweep and the warned levels -/

/-- The rule speaks of the counters alone. -/
theorem WarnedInv.of_wear {s t : State} (h : WarnedInv s) (hwear : t.wear = s.wear) : WarnedInv t := by
  unfold WarnedInv State.counter
  rw [hwear]
  exact h

section
variable {s : State}

theorem handToOwner_warned (c : OrderChannel) (k : CellIndex) (hd : CellHeader) (f : DetailFlags) (n : Nat)
    (h : WarnedInv s) : WarnedInv (handToOwner c k hd f n s).1 := by
  unfold handToOwner
  split
  case h_1 => exact h.of_wear (refuseOrder_wear _ _ _ _ _ _)
  case h_2 added t ht => exact ((answer_kept ht).warned h).of_wear (takeCell_wear c k _ t)

theorem examineCell_warned (mid : List VcWrite) (c : OrderChannel) (k : CellIndex) (h : WarnedInv s) :
    WarnedInv (examineCell mid c k s).1 := by
  have hread : WarnedInv (vcWrites mid (rewriteChannel c k s)) :=
    h.of_wear ((vcWrites_wear _ mid).trans (rewriteChannel_wear c k s))
  unfold examineCell
  dsimp only
  split
  case h_1 => exact h.of_wear (refuseOrder_wear _ _ _ _ _ _)
  case h_2 =>
    split
    case h_1 => exact hread.of_wear (refuseOrder_wear _ _ _ _ _ _)
    case h_2 => exact handToOwner_warned _ _ _ _ _ hread

theorem examine_warned (mid : List VcWrite) (c : OrderChannel) (w : Word) (h : WarnedInv s) :
    WarnedInv (examine mid c w s).1 := by
  unfold examine
  split
  case h_1 => exact h
  case h_2 k _ => exact examineCell_warned mid c k h

theorem orderTurn_warned (late : List LateWrite) (c : OrderChannel) {t : State × Bool} (h : WarnedInv t.1) :
    WarnedInv (orderTurn late c t).1 := by
  unfold orderTurn
  dsimp only
  split
  case isTrue => exact h
  case isFalse =>
    have hexamined := examine_warned (s := vcWrites (lateAt late c.number .early) t.1) (lateAt late c.number .mid) c
      (t.1.port.wordAt (dirAddr c.number 1)) h
    exact hexamined.of_wear (clearPending_wear c _ _)

theorem orderTurns_warned (late : List LateWrite) (cs : List OrderChannel) {t : State × Bool} (h : WarnedInv t.1) :
    WarnedInv (orderTurns late cs t).1 := by
  induction cs generalizing t with
  | nil => exact h
  | cons c cs ih => exact ih (orderTurn_warned late c h)

theorem intakeSweep_warned (late : List LateWrite) (h : WarnedInv s) : WarnedInv (intakeSweep late s) :=
  (orderTurns_warned late OrderChannel.all (t := (s, false)) h).of_wear (sweepEnd_wear _ _)

/-! ## The resets -/

/-- A keep power-up sets every counter to 0, with no thresholds and no warned level (R19). -/
theorem endOfKeepPowerUp_warned (s : State) : WarnedInv (endOfKeepPowerUp s) := by
  have hreset : WarnedInv State.reset := by
    unfold WarnedInv
    decide
  refine hreset.of_wear ?_
  unfold endOfKeepPowerUp
  rw [rewriteStatus_wear, resetRaisings_wear, retainedLost_wear]
  rfl

/-- A reset that keeps the keep store counts at most W7, with its threshold check (R20). -/
theorem endOfKeptReset_warned (kind : ResetCause) (h : WarnedInv s) : WarnedInv (endOfKeptReset kind s) := by
  have hestablished : WarnedInv (establish kind s) := h.of_wear rfl
  exact ((keptResetLogged_quietKept kind s).kept.warned hestablished).of_wear (endOfKeptReset_wear kind s)

theorem endOfReset_warned (kind : ResetCause) (h : WarnedInv s) : WarnedInv (endOfReset kind s) := by
  cases kind
  case keepPowerUp => exact endOfKeepPowerUp_warned s
  case mainPowerUp => exact endOfKeptReset_warned .mainPowerUp h
  case pin => exact endOfKeptReset_warned .pin h

theorem powerUp_warned (kind : ResetCause) (vkeep : Bool) (h : WarnedInv s) : WarnedInv (powerUp kind vkeep s) := by
  cases hreset : s.supply.resetAsserted
  · rw [powerUp_free kind vkeep hreset]
    exact endOfReset_warned kind (h.of_wear rfl)
  · rw [powerUp_held kind vkeep hreset]
    exact h.of_wear rfl

theorem releaseReset_warned (h : WarnedInv s) : WarnedInv (releaseReset s) := by
  unfold releaseReset
  dsimp only
  split
  · exact endOfReset_warned _ (h.of_wear rfl)
  · exact h.of_wear rfl

/-! ## Every command -/

theorem whileRunning_wear {f : State → State} (h : ∀ u, (f u).wear = u.wear) (s : State) :
    (whileRunning f s).wear = s.wear := by
  unfold whileRunning
  split
  · exact h s
  · rfl

theorem exec_warned {c : Instr} {t : State} (ht : exec c s = .next t) (h : WarnedInv s) : WarnedInv t := by
  have hwritten (ws : List VcWrite) : WarnedInv (vcWritesPowered ws s) := h.of_wear (vcWritesPowered_wear ws s)
  cases c
  case keepPowerUp => cases ht; exact powerUp_warned _ _ h
  case mainPowerUp => cases ht; exact powerUp_warned _ _ h
  case pinReset => cases ht; exact releaseReset_warned h
  case resetAsserted => cases ht; exact h
  case mainSupplyLoss => cases ht; exact h
  case keepSupplyLoss => cases ht; exact h
  case registerWriteIgnored => cases ht; exact hwritten _
  case intakeSweep writes late =>
    unfold exec execIntakeSweep at ht
    cases ht
    split
    · exact intakeSweep_warned late (hwritten writes)
    · exact (hwritten writes).of_wear (vcWritesPowered_wear _ _)
  case reportFrame => exact h.of_wear (execReportFrame_wear ht)
  case attnWrite v => cases ht; exact h.of_wear (whileRunning_wear (f := attnWrite v) (fun _ => rfl) s)
  case attnEnWrite v => cases ht; exact h.of_wear (whileRunning_wear (f := attnEnWrite v) (fun _ => rfl) s)
  all_goals exact (event_kept rfl (fun _ => Instr.noConfusion) (fun _ => Instr.noConfusion) ht).warned h

end

/-- Settles O56, by what each shared operation keeps of the warned levels and a case for each command. -/
theorem stepKeepsWarnedInv : Obligations.StepKeepsWarnedInv := by
  intro s t h hstep
  unfold step at hstep
  split at hstep
  case h_1 => cases hstep; exact h
  case h_2 c rest _ => exact exec_warned hstep (h.of_wear (withPending_wear _ rest))

end Sys2Proof.Machine
end

section
/-! PROOF. The threshold check of one counter: the level that is due, with its stamps and its entry (R130, R131). -/

namespace Sys2Proof.Machine

open Sys2Proof

/-! ## The level that is due -/

section
variable {r : WearRecord}

/-- URGENT is due (R130). -/
def WearRecord.UrgentDue (r : WearRecord) : Prop := r.urgent ≠ 0 ∧ r.urgent ≤ r.value ∧ r.warned ≠ .urgent

/-- ADVISE is due where URGENT is not (R130). -/
def WearRecord.AdviseDue (r : WearRecord) : Prop := r.advise ≠ 0 ∧ r.advise ≤ r.value ∧ r.warned = .none

theorem due_urgent (hu : r.UrgentDue) : r.due = some .urgent := if_pos hu

theorem due_advise (hu : ¬r.UrgentDue) (ha : r.AdviseDue) : r.due = some .advise := (if_neg hu).trans (if_pos ha)

theorem due_none (hu : ¬r.UrgentDue) (ha : ¬r.AdviseDue) : r.due = none := (if_neg hu).trans (if_neg ha)

end

/-! ## The check -/

section
variable (q : Bool) {c : Counter} {s : State}

/-- A check that finds a level due raises the warned level to it, stamps the record and hands its entry to the append (R130,
R131). -/
theorem thresholdCheck_given {level : WarnLevel} (h : (s.counter c).due = some level) :
    (thresholdCheck q c s).counter c =
        { s.counter c with warned := level, stampOdometer := s.sns.odometer, stampSeconds := s.dsv.operatingSeconds } ∧
      (thresholdCheck q c s).log =
        s.log.afterAppend
          (entryNow s level.kind (some c) (some ((s.counter c).value : Int)) (some ((s.counter c).thresholdOf level))) := by
  rw [thresholdCheck_counter_same, thresholdCheck_log, h]
  exact ⟨rfl, rfl⟩

/-- A check that finds no level due changes nothing (R130). -/
theorem thresholdCheck_idle (h : (s.counter c).due = none) : thresholdCheck q c s = s := by
  unfold thresholdCheck
  rw [h]

end

/-- Settles O15, by the level that is due. -/
theorem thresholdCheckGivesEachLevelOnce : Obligations.ThresholdCheckGivesEachLevelOnce := by
  intro c s r t
  exact ⟨fun d hd => thresholdCheck_counter_other false s hd, thresholdCheck_value false c s,
    fun hu => thresholdCheck_given false (due_urgent hu), fun hu ha => thresholdCheck_given false (due_advise hu ha),
    fun hu ha => thresholdCheck_idle false (due_none hu ha)⟩

end Sys2Proof.Machine
end

section
/-! PROOF. No event and no reset that keeps the keep store lowers a wear counter (R127). -/

namespace Sys2Proof.Machine

open Sys2Proof

/-! ## Composition -/

/-- On the way from s to t no counter that fits its 32 bits falls, or leaves them (R127). -/
def CountersRise (s t : State) : Prop :=
  ∀ c : Counter, (s.counter c).value ≤ 4294967295 →
    (s.counter c).value ≤ (t.counter c).value ∧ (t.counter c).value ≤ 4294967295

theorem CountersRise.of_counter {s t : State} (h : ∀ c : Counter, t.counter c = s.counter c) : CountersRise s t := by
  intro c hc
  rw [h c]
  exact ⟨Nat.le_refl _, hc⟩

theorem CountersRise.of_counters {s t : State} (h : t.wear.counters = s.wear.counters) : CountersRise s t :=
  .of_counter fun _ => congrArg (fun v : Vector WearRecord 10 => v.get _) h

theorem CountersRise.of_wear {s t : State} (h : t.wear = s.wear) : CountersRise s t := .of_counters (congrArg _ h)

theorem CountersRise.refl (s : State) : CountersRise s s := .of_wear rfl

theorem CountersRise.trans {s t u : State} (h : CountersRise s t) (k : CountersRise t u) : CountersRise s u := by
  intro c hc
  obtain ⟨hst, ht⟩ := h c hc
  obtain ⟨htu, hu⟩ := k c ht
  exact ⟨Nat.le_trans hst htu, hu⟩

/-- The same, the later operation first. -/
theorem CountersRise.after {s t u : State} (k : CountersRise t u) (h : CountersRise s t) : CountersRise s u := h.trans k

theorem CountersRise.ite {s t u : State} {p : Prop} [Decidable p] (h : p → CountersRise s t)
    (k : ¬p → CountersRise s u) : CountersRise s (if p then t else u) := by
  split
  · exact h ‹_›
  · exact k ‹_›

/-! ## Increment requests (R127) -/

theorem wearIncrement_rises (q : Bool) (c : Counter) (s : State) : CountersRise s (wearIncrement q c s) := by
  intro d hd
  by_cases h : d = c
  · subst h
    rw [wearIncrement_value]
    omega
  · rw [wearIncrement_counter_other q s h]
    exact ⟨Nat.le_refl _, hd⟩

theorem wearIncrements_rises (c : Counter) (n : Nat) (s : State) : CountersRise s (wearIncrements c n s) := by
  induction n generalizing s with
  | zero => exact .refl s
  | succ n ih => exact (wearIncrement_rises false c s).trans (ih _)

/-! ## The driveline supervisor and the fault table -/

theorem dsvSettle_rises (s : State) : CountersRise s (dsvSettle s) := .of_counters (dsvSettle_counters s)

/-- A hot opening counts in W7 (R3). -/
theorem judgeOpening_rises (s : State) : CountersRise s (judgeOpening s) :=
  .ite (fun _ => (wearIncrement_rises _ _ _).after (.of_wear rfl)) fun _ => .refl s

theorem openPos_rises (s : State) : CountersRise s (openPos s) :=
  .ite (fun _ => (judgeOpening_rises s).trans (.of_wear rfl)) fun _ => .refl s

theorem openAll_rises (s : State) : CountersRise s (openAll s) := (openPos_rises s).trans (.of_wear rfl)

theorem shutdown_rises (k : FaultKind) (s : State) : CountersRise s (shutdown k s) :=
  (openAll_rises (setStopCause (.fault k) (stopTimers s))).trans (.of_wear rfl)

theorem abortPrecharge_rises (s : State) : CountersRise s (abortPrecharge s) := (openAll_rises s).trans (.of_wear rfl)

theorem completePowerDown_rises (s : State) : CountersRise s (completePowerDown s) :=
  (openPos_rises s).trans (.of_wear (completePowerDown_wear s))

/-- Of the reactions to a SAFE_STOP-class kind, PRECHARGE's alone opens POS (R7 to R11). -/
theorem safeStopReaction_rises (k : FaultKind) (b : Bool) (s : State) : CountersRise s (safeStopReaction k b s) := by
  unfold safeStopReaction
  cases s.dsv.state <;> dsimp only
  case standby => exact .refl s
  case precharge => exact .ite (fun _ => abortPrecharge_rises s) fun _ => .refl s
  case faulted => exact .refl s
  all_goals exact .ite (fun _ => .of_wear rfl) fun _ => .refl s

theorem shutdownReaction_rises (k : FaultKind) (b : Bool) (s : State) : CountersRise s (shutdownReaction k b s) := by
  have h : CountersRise s (if b then shutdown k s else s) := .ite (fun _ => shutdown_rises k s) fun _ => .refl s
  unfold shutdownReaction
  cases s.dsv.state
  case standby => exact .refl s
  case faulted => exact .refl s
  all_goals exact h

theorem dsvOnRaise_rises (k : FaultKind) (b : Bool) (s : State) : CountersRise s (dsvOnRaise k b s) := by
  refine (dsvSettle_rises _).after ?_
  cases k.reactionClass
  case shutdown => exact shutdownReaction_rises k b s
  case safeStop => exact safeStopReaction_rises k b s
  all_goals exact .refl s

theorem raiseFault_rises (k : FaultKind) (s : State) : CountersRise s (raiseFault k s) :=
  (dsvOnRaise_rises k _ _).after (.of_wear rfl)

theorem clearFault_rises (k : FaultKind) (s : State) : CountersRise s (clearFault k s) :=
  .of_counters (clearFault_counters k s)

/-! ## DSV's timers -/

theorem prechargeExpiry_rises (s : State) : CountersRise s (prechargeExpiry s) := by
  refine .ite (fun _ => (dsvSettle_rises _).after ?_) fun _ => .refl s
  refine CountersRise.trans (t := openAll (s.withDsv { s.dsv with prechargeTimer := none }))
    ((openAll_rises _).after (.of_wear rfl)) (.of_wear ?_)
  rw [enterStandby_wear, withDsv_wear, logNow_wear, momentaryFault_wear]

theorem settleExpiry_rises (s : State) : CountersRise s (settleExpiry s) :=
  .ite (fun _ => (dsvSettle_rises _).after (.of_wear rfl)) fun _ => .refl s

theorem cooldownExpiry_rises (s : State) : CountersRise s (cooldownExpiry s) :=
  .ite (fun _ => (dsvSettle_rises _).after (.of_wear rfl)) fun _ => .refl s

theorem powerDownExpiry_rises (s : State) : CountersRise s (powerDownExpiry s) :=
  .ite (fun _ => (completePowerDown_rises _).after (.of_wear rfl)) fun _ => .refl s

theorem safeStopExpiry_rises (s : State) : CountersRise s (safeStopExpiry s) :=
  .ite (fun _ => (dsvSettle_rises _).after (.of_wear rfl)) fun _ => .refl s

theorem dsvSecond_rises (s : State) : CountersRise s (dsvSecond s) := .ite (fun _ => .refl s) fun _ => .of_wear rfl

/-! ## SNS -/

theorem linkArrival_rises (i : LinkId) (s : State) : CountersRise s (linkArrival i s) :=
  .of_counters (linkArrival_counters i s)

theorem monitorExpiry_rises (i : LinkId) (s : State) : CountersRise s (monitorExpiry i s) := by
  refine .ite (fun _ => (raiseFault_rises _ _).after (.of_wear ?_)) fun _ => .refl s
  cases i <;> rfl

theorem inverterArrival_rises (speed voltage motor generator : Int) (s : State) :
    CountersRise s (inverterArrival speed voltage motor generator s) := by
  have hnoted : CountersRise s (noteInverterArrival s) := .ite (fun _ => .of_wear rfl) fun _ => .refl s
  have htaken : CountersRise s (inverterTaken speed voltage motor generator s) :=
    (hnoted.trans (linkArrival_rises .drive _)).trans (.of_wear (inverterTaken_wear _ _ _ _ s))
  rw [inverterArrival_eq]
  exact (dsvSettle_rises _).after (htaken.trans (.of_wear (voltageTest_wear _)))

theorem engineArrival_rises (speed torque : Int) (run : Bool) (s : State) :
    CountersRise s (engineArrival speed torque run s) := (linkArrival_rises .engine s).trans (.of_wear rfl)

theorem brakeArrival_rises (available abs : Bool) (s : State) : CountersRise s (brakeArrival available abs s) :=
  (linkArrival_rises .brake s).trans (.of_wear rfl)

/-- The tests of R35 count in no wear counter. -/
theorem SensorTested.rises {s t : State} (h : SensorTested s t) : CountersRise s t := .of_counters h.counters

theorem updateWheel_rises (i : Fin 6) (x : Wheel) (s : State) : CountersRise s (updateWheel i x s) :=
  (updateWheel_tested i x s).rises.after (.of_wear rfl)

theorem edge_rises (i : Fin 6) (capture : Word) (s : State) : CountersRise s (edge i capture s) := by
  rw [edge_eq]
  exact (wheelChanged_tested i _ s).rises.after (.of_wear rfl)

/-! ## ENA -/

theorem addThroughput_rises (n : Nat) (s : State) : CountersRise s (addThroughput n s) := by
  have hcounted (c : Counter) : CountersRise s (wearIncrement false c (s.withEna (throughputEna n s.ena))) :=
    (wearIncrement_rises _ _ _).after (.of_wear rfl)
  rw [addThroughput_eq]
  exact .ite (fun _ => hcounted w5) fun _ => .ite (fun _ => hcounted w6) fun _ => .of_wear rfl

theorem sampleAccounted_rises (k : SampleKind) (s : State) : CountersRise s (sampleAccounted k s) := by
  cases k with
  | resynchronising outage => exact .of_wear rfl
  | duplicate => exact .of_wear rfl
  | integrating n =>
    rw [sampleAccounted_integrating]
    have hintegrated : CountersRise s ((takeSample s).withEna (integrateCharge (takeSample s).ena n)) := .of_wear rfl
    exact (hintegrated.trans (addThroughput_rises n _)).trans (.of_wear rfl)

theorem overtempTest_rises (s : State) : CountersRise s (overtempTest s) :=
  .ite (fun _ => .ite (fun _ => .refl s) fun _ => raiseFault_rises _ s) fun _ =>
    .ite (fun _ => clearFault_rises _ s) fun _ => .refl s

theorem enaSample_rises (k : SampleKind) (count : Byte) (s : State) : CountersRise s (enaSample k count s) :=
  ((sampleAccounted_rises k s).trans (overtempTest_rises _)).trans (.of_counter (enaSample_counter k count s))

theorem packTests_rises (b : Bool) (s : State) : CountersRise s (packTests b s) := by
  have hended : CountersRise (voltageTest s) (powerDownTest b (voltageTest s)) :=
    .ite (fun _ => completePowerDown_rises _) fun _ => .refl _
  exact (dsvSettle_rises _).after (hended.after (.of_wear (voltageTest_wear s)))

theorem packArrival_rises (count : Byte) (current voltage lo hi : Int) (elapsed : Nat) (s : State) :
    CountersRise s (packArrival count current voltage lo hi elapsed s) := by
  have htaken : CountersRise s (packTaken count current voltage lo hi s) :=
    .of_counter (packTaken_counter count current voltage lo hi s)
  have hsample (k : SampleKind) (b : Bool) :
      CountersRise s (packTests b (enaSample k count (packTaken count current voltage lo hi s))) :=
    (htaken.trans (enaSample_rises k count _)).trans (packTests_rises b _)
  unfold packArrival
  dsimp only
  split
  case h_1 => exact (dsvSettle_rises _).after (htaken.trans (.of_wear (voltageTest_wear _)))
  case h_2 outage _ => exact hsample (.resynchronising outage) _
  case h_3 n _ => exact hsample (.integrating n) _

theorem enaSecond_rises (s : State) : CountersRise s (enaSecond s) := by
  by_cases h : HotSecond s
  · rw [enaSecond_hot h]
    exact (wearIncrement_rises _ _ _).after (.of_wear rfl)
  · rw [enaSecond_cool h]
    exact .of_wear rfl

/-! ## SPL, TQA, CPL, BBL -/

theorem ageTest_rises (s : State) : CountersRise s (ageTest s) := by
  have haged : CountersRise s (demandAged s) := .of_wear rfl
  have hstale (u : State) : CountersRise u (staleTested u) :=
    .ite (fun _ => (raiseFault_rises _ u).trans (.of_wear rfl)) fun _ => .refl u
  have hlost (u : State) : CountersRise u (lostTested u) := .ite (fun _ => raiseFault_rises _ u) fun _ => .refl u
  rcases ageTest_cases s with h | h
  · rw [h]
    exact (haged.trans (hstale _)).trans (hlost _)
  · rw [h]
    exact haged

theorem splitFrame_rises (s : State) : CountersRise s (splitFrame s) := (ageTest_rises s).trans (.of_wear rfl)

theorem slipCounted_rises (s : State) : CountersRise s (slipCounted s) := by
  have hcount (u : State) : CountersRise u (countSlip u) :=
    .ite (fun _ => (wearIncrements_rises _ _ _).after (.of_wear rfl)) fun _ => .refl u
  exact (hcount _).after (.of_wear rfl)

theorem moveEngine_rises (s : State) : CountersRise s (moveEngine s) := by
  obtain ⟨c, -, h | h | h⟩ := moveEngine_cases s
  · rw [h]
    exact .of_wear rfl
  · rw [h]
    exact (wearIncrement_rises _ _ _).after (.of_wear rfl)
  · have hmoved : CountersRise s (s.withCpl c) := .of_wear rfl
    rw [h]
    exact (hmoved.trans (raiseFault_rises _ _)).trans (.of_wear rfl)

theorem cplFrame_rises (s : State) : CountersRise s (cplFrame s) := by
  have hwant : CountersRise s (cplFrameWant s) := (slipCounted_rises s).trans (.of_wear (cplFrameWant_wear s))
  have hmoved : CountersRise s (cplMoved s) :=
    (hwant.trans (.of_wear (moveCoupling_wear _))).trans (moveEngine_rises _)
  exact hmoved.trans (.of_counter (cplFrame_counter s))

theorem cplSecond_rises (s : State) : CountersRise s (cplSecond s) := .ite (fun _ => .of_wear rfl) fun _ => .refl s

theorem countFriction_rises (s : State) : CountersRise s (countFriction s) := by
  cases h : s.brakeLinkUp
  · rw [countFriction_down h]
    exact .refl s
  · have hcount (c : Counter) (n : Nat) (b : Bbl) (u : State) : CountersRise u (wearIncrements c n (u.withBbl b)) :=
      (wearIncrements_rises _ _ _).after (.of_wear rfl)
    rw [countFriction_up h]
    exact ((hcount w0 _ _ s).trans (hcount w1 _ _ _)).trans (hcount w2 _ _ _)

theorem slipEntry_rises (s : State) : CountersRise s (slipEntry s) := by
  cases h : startsBySlip s
  · exact .of_counter (slipEntry_uncounted h).1
  · rw [slipEntry_bySlip h]
    exact (wearIncrement_rises _ _ _).after (.of_wear rfl)

theorem superviseSlip_rises (s : State) : CountersRise s (superviseSlip s) := by
  cases h : s.bbl.slipHold
  · rw [superviseSlip_clear h]
    exact (slipEntry_rises _).after (.of_wear rfl)
  · rw [superviseSlip_held h]
    exact .of_wear rfl

theorem blendFrame_rises (s : State) : CountersRise s (blendFrame s) :=
  ((superviseSlip_rises (sharesFormed s)).after ((countFriction_rises s).trans (.of_wear rfl))).trans (.of_wear rfl)

theorem outputStep_rises (b : Bool) (s : State) : CountersRise s (outputStep b s) := by
  cases b
  · exact .of_wear rfl
  · exact (blendFrame_rises s).trans (.of_wear rfl)

theorem logTake_rises (s : State) : CountersRise s (logTake s) := .ite (fun _ => .refl s) fun _ => .of_wear rfl

/-! ## The resets that keep the keep store -/

/-- A POS-closed flag found set counts in W7 (R20). -/
theorem uncontrolledOpen_rises (s : State) : CountersRise s (uncontrolledOpen s) := by
  have hlogged : CountersRise s (logAppend true (entryNow s .uncontrolledOpen none none none) s) := .of_wear rfl
  exact .ite (fun _ => (hlogged.trans (wearIncrement_rises _ w7 _)).trans (.of_wear rfl)) fun _ => .refl s

theorem endOfKeptReset_rises (kind : ResetCause) (s : State) : CountersRise s (endOfKeptReset kind s) := by
  have hestablished : CountersRise s (establish kind s) := .of_wear rfl
  exact (hestablished.trans (uncontrolledOpen_rises _)).trans (.of_counter (endOfKeptReset_counter kind s))

theorem endOfReset_rises {kind : ResetCause} (hkind : kind ≠ .keepPowerUp) (s : State) :
    CountersRise s (endOfReset kind s) := by
  cases kind
  case keepPowerUp => exact absurd rfl hkind
  case mainPowerUp => exact endOfKeptReset_rises .mainPowerUp s
  case pin => exact endOfKeptReset_rises .pin s

theorem mainPowerUp_rises (vkeep : Bool) (s : State) : CountersRise s (powerUp .mainPowerUp vkeep s) := by
  cases hreset : s.supply.resetAsserted
  · rw [powerUp_free .mainPowerUp vkeep hreset]
    exact (endOfKeptReset_rises .mainPowerUp (poweredUp .mainPowerUp vkeep s)).after (.of_wear rfl)
  · rw [powerUp_held .mainPowerUp vkeep hreset]
    exact .of_wear rfl

/-- A release of RESET that no keep power-up waits for (R19). -/
theorem releaseReset_rises {s : State} (h : s.supply.heldPowerUp ≠ some .keepPowerUp) :
    CountersRise s (releaseReset s) := by
  have hkind : s.supply.heldPowerUp.getD .pin ≠ .keepPowerUp := by
    cases hheld : s.supply.heldPowerUp with
    | none => exact ResetCause.noConfusion
    | some kind => exact fun hk => h (hheld.trans (congrArg some hk))
  exact .ite (fun _ => (endOfReset_rises hkind (released s)).after (.of_wear rfl)) fun _ => .of_wear rfl

/-! ## Every command -/

theorem whileRunning_rises {f : State → State} (h : ∀ u, CountersRise u (f u)) (s : State) :
    CountersRise s (whileRunning f s) := .ite (fun _ => h s) fun _ => .refl s

/-- An event of a field message: a discarded one changes nothing (R22). -/
theorem whileRunning_frame_rises {f : State → State} (ok : Bool) (h : ∀ u, CountersRise u (f u)) (s : State) :
    CountersRise s (whileRunning (fun t => if ok then f t else t) s) :=
  whileRunning_rises (fun t => .ite (fun _ => h t) fun _ => .refl t) s

theorem event_rises {c : Instr} {s t : State} (hc : c.needsRunning = true) (h : exec c s = .next t) :
    CountersRise s t := by
  cases c <;> cases hc <;> cases h
  case splitFrame => exact whileRunning_rises splitFrame_rises s
  case outputStep => exact whileRunning_rises (outputStep_rises _) s
  case blendFrame => exact whileRunning_rises blendFrame_rises s
  case cplFrame => exact whileRunning_rises cplFrame_rises s
  case dsvSecondTimer => exact whileRunning_rises dsvSecond_rises s
  case cplSecondTimer => exact whileRunning_rises cplSecond_rises s
  case enaSecondTimer => exact whileRunning_rises enaSecond_rises s
  case prechargeTimeout => exact whileRunning_rises prechargeExpiry_rises s
  case settleTimerExpiry => exact whileRunning_rises settleExpiry_rises s
  case cooldownTimerExpiry => exact whileRunning_rises cooldownExpiry_rises s
  case powerDownTimerExpiry => exact whileRunning_rises powerDownExpiry_rises s
  case safeStopTimerExpiry => exact whileRunning_rises safeStopExpiry_rises s
  case linkMonitorExpiry => exact whileRunning_rises (monitorExpiry_rises _) s
  case inverterStatus => exact whileRunning_frame_rises _ (inverterArrival_rises _ _ _ _) s
  case engineStatus => exact whileRunning_frame_rises _ (engineArrival_rises _ _ _) s
  case brakeStatus => exact whileRunning_frame_rises _ (brakeArrival_rises _ _) s
  case packSample => exact whileRunning_frame_rises _ (packArrival_rises _ _ _ _ _ _) s
  case wheelEdge => exact whileRunning_rises (edge_rises _ _) s
  case wheelTimerWrap => exact whileRunning_rises (fun u => updateWheel_rises _ _ u) s
  case silenceTimerExpiry => exact whileRunning_rises (fun u => (silenceExpiry_tested _ u).rises) s
  case attnWrite v => exact whileRunning_rises (f := attnWrite v) (fun _ => .of_wear rfl) s
  case attnEnWrite v => exact whileRunning_rises (f := attnEnWrite v) (fun _ => .of_wear rfl) s
  case logTakeWrite => exact whileRunning_rises logTake_rises s

/-- Settles O16, by the increment requests of the events and of the resets that keep the keep store. -/
theorem wearCountersNeverDecrease : Obligations.WearCountersNeverDecrease := by
  intro c s t w ht hvalue hkeep hmarker hheld hsweep
  suffices h : CountersRise s t from (h w hvalue).1
  cases c
  case keepPowerUp v => exact absurd rfl (hkeep v)
  case intakeSweep ws ls => exact absurd rfl (hsweep ws ls)
  case mainPowerUp v =>
    rw [execMainPowerUp_marker v (hmarker v rfl)] at ht
    cases ht
    exact mainPowerUp_rises v s
  case pinReset => cases ht; exact releaseReset_rises (hheld rfl)
  case resetAsserted => cases ht; exact .of_wear rfl
  case mainSupplyLoss => cases ht; exact .of_wear rfl
  case keepSupplyLoss => cases ht; exact .of_wear rfl
  case registerWriteIgnored ws => cases ht; exact .of_wear (vcWritesPowered_wear ws s)
  case reportFrame => exact .of_wear (execReportFrame_wear ht)
  all_goals exact event_rises rfl ht

end Sys2Proof.Machine
end

section
/-! PROOF. EXC changes its own records, the exchange RAM and the registers, and the detail cursor, and every step keeps the ring
records in agreement (R142, R146). -/

namespace Sys2Proof.Machine

open Sys2Proof

/-! ## What EXC changes -/

/-- From s to t only EXC's records, the exchange RAM and the registers, and the detail cursor change. -/
def ExcChange (s t : State) : Prop :=
  ∃ (e : Exc) (p : Port) (c : Fin 28), t = { s with exc := e, port := p, faults := { s.faults with cursor := c } }

theorem ExcChange.refl (s : State) : ExcChange s s := ⟨_, _, _, rfl⟩

theorem ExcChange.trans {s t u : State} (h : ExcChange s t) (k : ExcChange t u) : ExcChange s u := by
  obtain ⟨_, _, _, rfl⟩ := h
  obtain ⟨e, p, c, rfl⟩ := k
  exact ⟨e, p, c, rfl⟩

/-- The same, the later operation first. -/
theorem ExcChange.after {s t u : State} (k : ExcChange t u) (h : ExcChange s t) : ExcChange s u := h.trans k

theorem ExcChange.ite {s t u : State} {p : Prop} [Decidable p] (h : p → ExcChange s t) (k : ¬p → ExcChange s u) :
    ExcChange s (if p then t else u) := by
  split
  · exact h ‹_›
  · exact k ‹_›

theorem ExcChange.log {s t : State} (h : ExcChange s t) : t.log = s.log := by
  obtain ⟨_, _, _, rfl⟩ := h
  rfl

/-- A change of the exchange RAM or the registers alone. -/
theorem ExcChange.of_port (s : State) (p : Port) : ExcChange s { s with port := p } := ⟨_, _, _, rfl⟩

theorem vcWrites_excChange (ws : List VcWrite) (s : State) : ExcChange s (vcWrites ws s) := .of_port s _

theorem vcWritesPowered_excChange (ws : List VcWrite) (s : State) : ExcChange s (vcWritesPowered ws s) :=
  .ite (fun _ => vcWrites_excChange ws s) fun _ => .refl s

theorem lateAll_excChange (late : List LateWrite) (n : Nat) (s : State) : ExcChange s (lateAll late n s) :=
  (vcWrites_excChange _ _).trans ((vcWrites_excChange _ _).trans (vcWrites_excChange _ _))

theorem setRamWord_excChange (a : Nat) (w : Word) (s : State) : ExcChange s (setRamWord a w s) := .of_port s _

theorem setCell_excChange (k : CellIndex) (x y : Nat) (s : State) : ExcChange s (setCell k x y s) := .of_port s _

theorem setOrderRow_excChange (c : OrderChannel) (r : OrderRow) (s : State) : ExcChange s (setOrderRow c r s) :=
  ⟨_, _, _, rfl⟩

theorem setReportRow_excChange (i : Fin 8) (r : ReportRow) (s : State) : ExcChange s (setReportRow i r s) :=
  ⟨_, _, _, rfl⟩

/-! ## The parts of a sweep (R169 to R174, R179) -/

theorem rewriteChannel_excChange (c : OrderChannel) (k : CellIndex) (s : State) : ExcChange s (rewriteChannel c k s) :=
  .ite (fun _ => .of_port s _) fun _ => .refl s

theorem recordOutcome_excChange (c : OrderChannel) (cell : Nat) (sequence : Word) (code : OutcomeCode) (f : DetailFlags)
    (s : State) : ExcChange s (recordOutcome c cell sequence code f s) := ⟨_, _, _, rfl⟩

theorem takeCell_excChange (c : OrderChannel) (k : CellIndex) (code : OutcomeCode) (s : State) :
    ExcChange s (takeCell c k code s) := by
  have hprevious (o : Option CellIndex) (u : State) : ExcChange u (returnPrevious o u) := by
    cases o
    · exact .refl u
    · exact .of_port u _
  unfold takeCell
  exact (setRamWord_excChange _ _ _).after ((hprevious _ _).after ((setRamWord_excChange _ _ _).after
    ((setOrderRow_excChange c _ _).after ((setRamWord_excChange _ _ _).after (setCell_excChange k _ _ s)))))

theorem refuseOrder_excChange (c : OrderChannel) (k : CellIndex) (h : CellHeader) (code : OutcomeCode) (f : DetailFlags)
    (s : State) : ExcChange s (refuseOrder c k h code f s).1 :=
  (recordOutcome_excChange c k.val h.sequence code f _).after (.ite (fun _ => .of_port s _) fun _ => .refl s)

theorem clearPending_excChange (c : OrderChannel) (w : Word) (s : State) : ExcChange s (clearPending c w s) :=
  .ite (fun _ => .of_port s _) fun _ => .refl s

theorem releaseHold_excChange (i : Fin 8) (s : State) : ExcChange s (releaseHold i s) := by
  unfold releaseHold
  split
  · exact .refl s
  · exact .ite (fun _ => .refl s) fun _ => ⟨_, _, _, rfl⟩

theorem releaseHolds_excChange (is : List (Fin 8)) (s : State) : ExcChange s (releaseHolds is s) := by
  induction is generalizing s with
  | nil => exact .refl s
  | cons i is ih => exact (releaseHold_excChange i s).trans (ih _)

/-- Steps 2 to 4 of a sweep, and the publication request after them (R169, R174). -/
theorem sweepEnd_excChange (written : Bool) (s : State) :
    ExcChange s (askOrderResult written (countSweep (rewrites (releaseHolds allReportRows s)))) := by
  have hrewrites (u : State) : ExcChange u (rewrites u) := ⟨_, _, _, rfl⟩
  have hcount (u : State) : ExcChange u (countSweep u) := ⟨_, _, _, rfl⟩
  have hask (u : State) : ExcChange u (askOrderResult written u) := .ite (fun _ => ⟨_, _, _, rfl⟩) fun _ => .refl u
  exact (((releaseHolds_excChange _ s).trans (hrewrites _)).trans (hcount _)).trans (hask _)

/-! ## The report frame (R175 to R178) -/

theorem outgoing_excChange (c : ReportChannel) (prev : Option CellIndex) (s : State) : ExcChange s (outgoing c prev s) := by
  unfold outgoing
  split
  · exact .refl s
  · refine .ite (fun _ => ?_) fun _ => .of_port s _
    dsimp only
    split
    · exact ⟨_, _, _, rfl⟩
    · exact ⟨_, _, _, rfl⟩

theorem writeHeader_excChange (c : ReportChannel) (k : CellIndex) (length : Nat) (s : State) :
    ExcChange s (writeHeader c k length s) := by
  unfold writeHeader
  exact (setRamWord_excChange _ _ _).after ((setReportRow_excChange _ _ _).after ((setCell_excChange k _ _ _).after
    ((setReportRow_excChange _ _ _).after ((setRamWord_excChange _ _ _).after ((setRamWord_excChange _ _ _).after
      (setRamWord_excChange _ _ s))))))

theorem fill_excChange (late : List VcWrite) (c : ReportChannel) (k : CellIndex) (s : State) :
    ExcChange s (fill late c k s) := by
  have hstart (u : State) : ExcChange u (startFilling c u) := ⟨_, _, _, rfl⟩
  have hcursor (u : State) : ExcChange u (moveCursor c u) := by
    cases c
    case faults => exact ⟨_, _, _, rfl⟩
    all_goals exact .refl u
  have hpayload (u : State) : ExcChange u (writePayload c k u) :=
    (setCell_excChange k cellFilling 0 u).trans (.of_port _ _)
  have hdone (u : State) : ExcChange u (orderDone c u) := by
    cases c
    case orderResult => exact .of_port u _
    all_goals exact .refl u
  have hpaid := ((hstart s).trans (hcursor _)).trans ((hpayload _).trans (vcWrites_excChange late _))
  exact ((hpaid.trans (writeHeader_excChange c k _ _)).trans (outgoing_excChange c _ _)).trans (hdone _)

theorem publish_excChange (late : List VcWrite) (c : ReportChannel) (s : State) : ExcChange s (publish late c s) := by
  have hskip (u : State) : ExcChange u (skip c u) := ⟨_, _, _, rfl⟩
  unfold publish
  dsimp only
  split
  · exact (fill_excChange late c _ _).after (.of_port s _)
  · exact ((ExcChange.of_port s _).trans (hskip _)).trans (vcWrites_excChange late _)

theorem reportTurn_excChange (late : List LateWrite) (c : ReportChannel) (s : State) :
    ExcChange s (reportTurn late c s) :=
  .ite
    (fun _ => ((vcWrites_excChange _ s).trans (publish_excChange _ c _)).trans (vcWrites_excChange _ _))
    fun _ => lateAll_excChange late _ s

theorem reportTurns_excChange (late : List LateWrite) (cs : List ReportChannel) (s : State) :
    ExcChange s (reportTurns late cs s) := by
  induction cs generalizing s with
  | nil => exact .refl s
  | cons c cs ih => exact (reportTurn_excChange late c s).trans (ih _)

theorem reportFrame_excChange (late : List LateWrite) (s : State) : ExcChange s (reportFrame late s) := by
  have hcount : ExcChange s (countFrame s) := ⟨_, _, _, rfl⟩
  exact hcount.trans (reportTurns_excChange late _ _)

/-- A report frame, or only the words of one that does not run (R175; log 10). -/
theorem execReportFrame_excChange {ws : List VcWrite} {late : List LateWrite} {s t : State}
    (h : exec (.reportFrame ws late) s = .next t) : ExcChange s t := by
  unfold exec execReportFrame at h
  cases h
  exact (ExcChange.ite (fun _ => reportFrame_excChange late _) fun _ => vcWritesPowered_excChange _ _).after
    (vcWritesPowered_excChange ws s)

/-! ## The sweep and the ring records -/

/-- The rule speaks of the log alone. -/
theorem LogInv.of_log {s t : State} (h : LogInv s) (hlog : t.log = s.log) : LogInv t := by
  unfold LogInv
  rw [hlog]
  exact h

theorem LogInv.of_exc {s t : State} (h : LogInv s) (hexc : ExcChange s t) : LogInv t := h.of_log hexc.log

section
variable {s : State}

theorem handToOwner_logInv (c : OrderChannel) (k : CellIndex) (hd : CellHeader) (f : DetailFlags) (n : Nat)
    (h : LogInv s) : LogInv (handToOwner c k hd f n s).1 := by
  unfold handToOwner
  split
  case h_1 => exact h.of_exc (refuseOrder_excChange _ _ _ _ _ s)
  case h_2 added t ht =>
    exact ((answer_kept ht).log h).of_exc ((takeCell_excChange c k _ t).trans (recordOutcome_excChange _ _ _ _ _ _))

theorem examineCell_logInv (mid : List VcWrite) (c : OrderChannel) (k : CellIndex) (h : LogInv s) :
    LogInv (examineCell mid c k s).1 := by
  have hread : LogInv (vcWrites mid (rewriteChannel c k s)) :=
    h.of_exc ((rewriteChannel_excChange c k s).trans (vcWrites_excChange mid _))
  unfold examineCell
  dsimp only
  split
  case h_1 => exact h.of_exc ((vcWrites_excChange mid s).trans (refuseOrder_excChange _ _ _ _ _ _))
  case h_2 =>
    split
    case h_1 => exact hread.of_exc (refuseOrder_excChange _ _ _ _ _ _)
    case h_2 => exact handToOwner_logInv _ _ _ _ _ hread

theorem examine_logInv (mid : List VcWrite) (c : OrderChannel) (w : Word) (h : LogInv s) :
    LogInv (examine mid c w s).1 := by
  unfold examine
  split
  case h_1 => exact h.of_exc ((vcWrites_excChange mid s).trans (recordOutcome_excChange _ _ _ _ _ _))
  case h_2 k _ => exact examineCell_logInv mid c k h

theorem orderTurn_logInv (late : List LateWrite) (c : OrderChannel) {t : State × Bool} (h : LogInv t.1) :
    LogInv (orderTurn late c t).1 := by
  unfold orderTurn
  dsimp only
  split
  case isTrue => exact h.of_exc (lateAll_excChange late _ t.1)
  case isFalse =>
    have hexamined := examine_logInv (lateAt late c.number .mid) c (t.1.port.wordAt (dirAddr c.number 1))
      (h.of_exc (vcWrites_excChange (lateAt late c.number .early) t.1))
    exact hexamined.of_exc ((vcWrites_excChange _ _).trans (clearPending_excChange c _ _))

theorem orderTurns_logInv (late : List LateWrite) (cs : List OrderChannel) {t : State × Bool} (h : LogInv t.1) :
    LogInv (orderTurns late cs t).1 := by
  induction cs generalizing t with
  | nil => exact h
  | cons c cs ih => exact ih (orderTurn_logInv late c h)

theorem intakeSweep_logInv (late : List LateWrite) (h : LogInv s) : LogInv (intakeSweep late s) :=
  (orderTurns_logInv late OrderChannel.all (t := (s, false)) h).of_exc (sweepEnd_excChange _ _)

/-! ## The resets -/

/-- Every reset empties the log and appends its entries to it (R142). -/
theorem endOfReset_logInv (kind : ResetCause) (s : State) : LogInv (endOfReset kind s) := by
  have hend {u : State} (h : LogInv u) : LogInv (rewriteStatus (resetRaisings u)) :=
    h.of_log ((rewriteStatus_log _).trans (resetRaisings_log u))
  have hkept (k : ResetCause) : LogInv (endOfKeptReset k s) :=
    hend ((keptResetLogged_quietKept k s).kept.log (establish_logInv k s))
  have hlost (u : State) : Kept u (retainedLost u) := (logAppend_kept true _ _).after (setCause_kept .retainedLost u)
  cases kind
  case keepPowerUp => exact hend ((hlost _).log (establish_logInv .keepPowerUp (initialiseRetained s)))
  case mainPowerUp => exact hkept .mainPowerUp
  case pin => exact hkept .pin

theorem powerUp_logInv (kind : ResetCause) (vkeep : Bool) (h : LogInv s) : LogInv (powerUp kind vkeep s) := by
  cases hreset : s.supply.resetAsserted
  · rw [powerUp_free kind vkeep hreset]
    exact endOfReset_logInv kind _
  · rw [powerUp_held kind vkeep hreset]
    exact h.of_log rfl

theorem releaseReset_logInv (h : LogInv s) : LogInv (releaseReset s) := by
  unfold releaseReset
  dsimp only
  split
  · exact endOfReset_logInv _ _
  · exact h.of_log rfl

/-! ## Every command -/

theorem exec_logInv {c : Instr} {t : State} (ht : exec c s = .next t) (h : LogInv s) : LogInv t := by
  have hwritten (ws : List VcWrite) : LogInv (vcWritesPowered ws s) := h.of_exc (vcWritesPowered_excChange ws s)
  cases c
  case keepPowerUp => cases ht; exact powerUp_logInv _ _ h
  case mainPowerUp => cases ht; exact powerUp_logInv _ _ h
  case pinReset => cases ht; exact releaseReset_logInv h
  case resetAsserted => cases ht; exact h.of_log rfl
  case mainSupplyLoss => cases ht; exact h.of_log rfl
  case keepSupplyLoss => cases ht; exact h.of_log rfl
  case registerWriteIgnored => cases ht; exact hwritten _
  case intakeSweep writes late =>
    unfold exec execIntakeSweep at ht
    cases ht
    split
    · exact intakeSweep_logInv late (hwritten writes)
    · exact (hwritten writes).of_exc (vcWritesPowered_excChange _ _)
  case reportFrame => exact h.of_exc (execReportFrame_excChange ht)
  case attnWrite v => cases ht; exact h.of_exc (.ite (fun _ => .of_port s _) fun _ => .refl s)
  case attnEnWrite v => cases ht; exact h.of_exc (.ite (fun _ => .of_port s _) fun _ => .refl s)
  all_goals exact (event_kept rfl (fun _ => Instr.noConfusion) (fun _ => Instr.noConfusion) ht).log h

end

/-- Settles O55, by what each shared operation keeps of the ring records and a case for each command. -/
theorem stepKeepsLogInv : Obligations.StepKeepsLogInv := by
  intro s t h hstep
  unfold step at hstep
  split at hstep
  case h_1 => cases hstep; exact h
  case h_2 c rest _ => exact exec_logInv hstep (h.of_log (withPending_log _ rest))

end Sys2Proof.Machine
end

section
/-! PROOF. LOG_TAKE and the append: an unread entry freed, an entry with room, a full log and a filtered entry (R143 to R151). -/

namespace Sys2Proof.Machine

open Sys2Proof

/-! ## The status block's copies of the ring records (R151) -/

section
variable (p : Port) (r : LogRing)

/-- The four copies read as they were written. -/
theorem Port.wordAt_setLogStatus (h : Memory.wf p.ram = true) :
    (p.setLogStatus r).wordAt (statusAddr 7) = natWord r.readPos ∧
      (p.setLogStatus r).wordAt (statusAddr 8) = natWord r.writePos ∧
      (p.setLogStatus r).wordAt (statusAddr 9) = natWord r.occupancy ∧
      (p.setLogStatus r).wordAt (statusAddr 10) = natWord r.drops := by
  have h7 := Port.wf_setStatus p 7 (natWord r.readPos) h
  have h8 := Port.wf_setStatus _ 8 (natWord r.writePos) h7
  have h9 := Port.wf_setStatus _ 9 (natWord r.occupancy) h8
  have hsame (q : Port) {i : Nat} (w : Word) (hi : i < 12) (hq : Memory.wf q.ram = true) :
      (q.setStatus i w).wordAt (statusAddr i) = w :=
    Port.wordAt_setWord_same q w (by unfold statusAddr ramBytes; omega) hq
  have hother (q : Port) {i j : Nat} (w : Word) (hij : j < i) :
      (q.setStatus i w).wordAt (statusAddr j) = q.wordAt (statusAddr j) :=
    Port.wordAt_setWord_other q w (by unfold statusAddr; omega)
  unfold Port.setLogStatus
  refine ⟨?_, ?_, ?_, hsame _ _ (by omega) h9⟩
  · rw [hother _ _ (by omega), hother _ _ (by omega), hother _ _ (by omega), hsame p _ (by omega) h]
  · rw [hother _ _ (by omega), hother _ _ (by omega), hsame _ _ (by omega) h7]
  · rw [hother _ _ (by omega), hsame _ _ (by omega) h8]

/-- No byte outside the four copies changes. -/
theorem Port.byteAt_setLogStatus_outside {a : Nat}
    (h : ∀ i ∈ [7, 8, 9, 10], a ≠ statusAddr i ∧ a ≠ statusAddr i + 1) : (p.setLogStatus r).byteAt a = p.byteAt a := by
  have hother (q : Port) {i : Nat} (w : Word) (hi : i ∈ [7, 8, 9, 10]) : (q.setStatus i w).byteAt a = q.byteAt a :=
    Port.byteAt_setWord_other q w (h i hi).1 (h i hi).2
  unfold Port.setLogStatus
  rw [hother _ _ (by decide), hother _ _ (by decide), hother _ _ (by decide), hother _ _ (by decide)]

end

/-! ## LOG_TAKE (R149) -/

/-- The ring records with the oldest unread entry freed. -/
def LogRing.taken (r : LogRing) : LogRing := { r with readPos := (r.readPos + 1) % 64, occupancy := r.occupancy - 1 }

section
variable {s : State}

theorem logTake_empty (h : s.log.occupancy = 0) : logTake s = s := if_pos h

theorem logTake_unread (h : 0 < s.log.occupancy) :
    logTake s = { s with log := s.log.taken, port := s.port.setLogStatus s.log.taken } := if_neg (by omega)

theorem exec_logTakeWrite (value : Word) (hrun : s.running = true) :
    exec (.logTakeWrite value) s = .next (logTake s) := congrArg Host.Outcome.next (whileRunning_runs logTake hrun)

/-- Occupancy and read position fit a byte each, so neither saturates in LOG_TAKE's word. -/
theorem readRegister_logTake (ho : s.log.occupancy ≤ 64) (hr : s.log.readPos < 64) :
    readRegister s 6 = BitVec.ofNat 16 (s.log.occupancy + 256 * s.log.readPos) := by
  have hread : readRegister s 6 = packBytes s.log.occupancy s.log.readPos := rfl
  rw [hread, packBytes, Nat.min_eq_left (by omega), Nat.min_eq_left (by omega)]

end

/-- Settles O12, by the two cases of LOG_TAKE and the status block's copies. -/
theorem logTakeFreesOldest : Obligations.LogTakeFreesOldest := by
  intro value s hrun
  rw [exec_logTakeWrite value hrun]
  refine ⟨fun hempty => by rw [logTake_empty hempty], fun hunread => ?_, readRegister_logTake⟩
  rw [logTake_unread hunread]
  refine ⟨_, rfl, rfl, rfl, ⟨rfl, rfl, fun a ha => Port.byteAt_setLogStatus_outside _ _ ha⟩, fun hm => ?_⟩
  obtain ⟨hread, -, hoccupancy, -⟩ := Port.wordAt_setLogStatus s.port s.log.taken hm
  exact ⟨hread, hoccupancy⟩

/-! ## The filter (R145) -/

theorem LogEntry.passes_iff (e : LogEntry) (f : LogFilter) :
    e.passes f = true ↔ f.mask.getLsbD e.kind.number = true ∧ f.minimum.code ≤ e.kind.severity.code := by
  unfold LogEntry.passes
  rw [Bool.and_eq_true, decide_eq_true_iff]

/-! ## The append, case by case (R145 to R147) -/

/-- The ring records after the append of an entry with room. -/
def LogRing.appended (r : LogRing) : LogRing :=
  { r with writePos := (r.writePos + 1) % 64, occupancy := r.occupancy + 1, nextSequence := r.nextSequence + 1 }

/-- The ring records after an entry was dropped. -/
def LogRing.dropped (r : LogRing) : LogRing := { r with drops := min (r.drops + 1) 65535 }

section
variable (q : Bool) {e : LogEntry}

section
variable {r : LogRing}

theorem LogRing.afterAppend_room (hp : e.passes r.filter = true) (hroom : r.occupancy < 64) :
    r.afterAppend e = r.appended := (if_pos hp).trans (if_pos hroom)

theorem LogRing.afterAppend_full (hp : e.passes r.filter = true) (hfull : ¬r.occupancy < 64) :
    r.afterAppend e = r.dropped := (if_pos hp).trans (if_neg hfull)

theorem LogRing.afterAppend_filtered (hp : e.passes r.filter = false) : r.afterAppend e = r := if_neg (by simp [hp])

end

variable {s : State}

/-- An entry that does not pass changes nothing. -/
theorem logAppend_filtered (hp : e.passes s.log.filter = false) : logAppend q e s = s := by
  have hport : s.port.afterAppend q s.log e = s.port := if_neg (by simp [hp])
  unfold logAppend
  rw [LogRing.afterAppend_filtered hp, hport]

/-- With room the entry goes into the slot at the write position, and WARNING_ADDED is set. -/
theorem logAppend_room (hp : e.passes s.log.filter = true) (hroom : s.log.occupancy < 64) :
    logAppend false e s =
      setCause .warningAdded { s with
        log := s.log.appended,
        port := (s.port.setWords (slotAddr s.log.writePos) (e.words s.log.nextSequence)).setLogStatus s.log.appended } := by
  have hport : s.port.afterAppend false s.log e =
      ((s.port.setWords (slotAddr s.log.writePos) (e.words s.log.nextSequence)).setLogStatus
        (s.log.afterAppend e)).setCause .warningAdded := (if_pos hp).trans (if_pos hroom)
  unfold logAppend
  rw [hport, LogRing.afterAppend_room hp hroom]
  rfl

/-- With the log full the entry is dropped and counted, and LOG_FULL is set. -/
theorem logAppend_full (hp : e.passes s.log.filter = true) (hfull : ¬s.log.occupancy < 64) :
    logAppend false e s =
      setCause .logFull { s with log := s.log.dropped, port := s.port.setLogStatus s.log.dropped } := by
  have hport : s.port.afterAppend false s.log e = (s.port.setLogStatus (s.log.afterAppend e)).setCause .logFull :=
    (if_pos hp).trans (if_neg hfull)
  unfold logAppend
  rw [hport, LogRing.afterAppend_full hp hfull]
  rfl

end

/-! ## The log slots (R142) -/

section
variable (p : Port)

/-- The status block's copies and a cause leave every slot. -/
theorem Port.wordsAt_statusAndCause_slot (r : LogRing) (c : Cause) (j : Nat) :
    ((p.setLogStatus r).setCause c).wordsAt (slotAddr j) 16 = p.wordsAt (slotAddr j) 16 := by
  rw [← Port.wordsAt_setLogStatus_slot p r]
  exact Port.wordsAt_congr fun x hx _ => Port.byteAt_setCause_other _ c (by unfold slotAddr at hx; omega)

/-- An entry written into a slot reads back. -/
theorem Port.wordsAt_entry_same {k : Nat} (hk : k < 64) (e : LogEntry) (n : Word) (h : Memory.wf p.ram = true) :
    (p.setWords (slotAddr k) (e.words n)).wordsAt (slotAddr k) 16 = e.words n := by
  have hlen := e.words_length n
  have hread := Port.wordsAt_setWords p (a := slotAddr k) (e.words n) (by rw [hlen]; unfold slotAddr ramBytes; omega) h
  rwa [hlen] at hread

/-- An entry written into a slot leaves the other slots. -/
theorem Port.wordsAt_entry_other {j k : Nat} (hjk : j ≠ k) (e : LogEntry) (n : Word) :
    (p.setWords (slotAddr k) (e.words n)).wordsAt (slotAddr j) 16 = p.wordsAt (slotAddr j) 16 := by
  refine Port.wordsAt_congr fun x hx hy => Port.byteAt_setWords_other p _ ?_
  rw [e.words_length]
  unfold slotAddr at *
  omega

end

theorem logAppend_ramFrame (q : Bool) (e : LogEntry) {s : State} (h : LogInv s) :
    RamOutsideStatusAndLog s (logAppend q e s) :=
  fun _ hstatus hlog => Port.byteAt_afterAppend s.port q s.log e h.writePos_lt hstatus hlog

/-- Settles O13, by the append of an entry with room and the slots it writes and leaves. -/
theorem appendWithRoom : Obligations.AppendWithRoom := by
  intro e s hm hl hp hroom
  have hslot : (logAppend false e s).port.wordsAt (slotAddr s.log.writePos) 16 = e.words s.log.nextSequence := by
    rw [logAppend_room hp hroom]
    exact (Port.wordsAt_statusAndCause_slot _ _ _ _).trans (Port.wordsAt_entry_same s.port hl.writePos_lt e _ hm)
  refine ⟨LogRing.afterAppend_room hp hroom, hslot, ?layout, ?cause, logAppend_ramFrame false e hl, fun j _ hj => ?others⟩
  case layout =>
    rw [hslot]
    exact entry_words e _
  case cause =>
    rw [logAppend_room hp hroom]
    exact setCause_causeSet _ _
  case others =>
    rw [logAppend_room hp hroom]
    exact (Port.wordsAt_statusAndCause_slot _ _ _ _).trans (Port.wordsAt_entry_other s.port hj e _)

/-- Settles O14, by the filter's test, the filtered append and the append to a full log. -/
theorem appendWithLogFullOrFiltered : Obligations.AppendWithLogFullOrFiltered := by
  refine fun e s => ⟨e.passes_iff _, fun hp q => logAppend_filtered q hp, fun hp hfull => ?_⟩
  rw [logAppend_full hp (by omega)]
  exact ⟨rfl, setCause_causeSet _ _, fun j _ => Port.wordsAt_statusAndCause_slot s.port _ _ j⟩

end Sys2Proof.Machine
end

section
/-! PROOF. A raising and a clearing report as the statements give them, and the highest active class (R154, R155, R159, R160). -/

namespace Sys2Proof.Machine

open Sys2Proof

/-! ## Raising and clearing -/

/-- A raising replaces one record, and the detail cursor stays. -/
theorem raiseFault_cursor (k : FaultKind) (s : State) : (raiseFault k s).faults.cursor = s.faults.cursor := by
  rw [raiseFault_faults]
  rfl

/-- Turning an ACTIVE record LATCHED is notified (R160), and DSV's tests after it keep the notice. -/
theorem clearFault_notifies {k : FaultKind} {s : State} (h : s.faults.isActive k = true) :
    (clearFault k s).causeSet .faultChange = true ∧ ((clearFault k s).reportRow 4).changePending = true := by
  obtain ⟨hcause, hrow⟩ := notifyFaults_notifies (setRecord k { s.faults.record k with state := .latched } s)
  rw [clearFault_active h]
  exact ⟨(dsvSettle_kept _).causes _ hcause, (dsvSettle_kept _).changes _ hrow⟩

/-- Settles O17, by the record that a raising writes and the notice that DSV's reaction keeps. -/
theorem raisingChangesTheRecord : Obligations.RaisingChangesTheRecord := fun k s =>
  ⟨raiseFault_record_same k s, fun _ h => raiseFault_record_other s h, raiseFault_cursor k s, raiseFault_notifies k s⟩

/-- Settles O18, by the two cases of a clearing report. -/
theorem clearingLatchesAnActiveRecord : Obligations.ClearingLatchesAnActiveRecord := by
  refine fun k s => ⟨fun h => clearFault_inactive ((s.faults.isActive_false_iff k).2 h), fun h => ?_⟩
  have hactive := (s.faults.isActive_iff k).2 h
  exact ⟨by rw [clearFault_record_same, if_pos hactive], fun _ hj => clearFault_record_other s hj,
    clearFault_notifies hactive⟩

/-! ## The highest active class -/

/-- A highest class above INFO has an ACTIVE record: it was the first class found with one. -/
theorem FaultTable.anyActive_highest {t : FaultTable} (h : t.highest ≠ .info) : t.anyActive t.highest = true := by
  unfold FaultTable.highest at h ⊢
  split_ifs at h ⊢ with h4 h3 h2 h1
  · exact h4
  · exact h3
  · exact h2
  · exact h1
  · exact absurd rfl h

/-- Settles O19, by the bound of the ranks and the class that was found first. -/
theorem highestActiveClass : Obligations.HighestActiveClass := by
  refine fun t => ⟨fun k hk => FaultTable.rank_le_highest hk, fun h => ?_⟩
  obtain ⟨k, hclass, hactive⟩ := (t.anyActive_iff _).1 (FaultTable.anyActive_highest h)
  exact ⟨k, hactive, hclass⟩

end Sys2Proof.Machine
end

section
/-! PROOF. A publication that finds no cell, and the two outcomes of the choice of a cell (R177). -/

namespace Sys2Proof.Machine

open Sys2Proof

/-! ## The choice of a cell -/

/-- With every candidate's block outside the data area the choice passes over them all. -/
theorem choose_none {c : ReportChannel} {e : Exc} (ks : List CellIndex) (p : Port) (hsorted : ks.Pairwise (· < ·))
    (hout : ∀ j ∈ ks, candidate c p e j = true → blockInside j (p.offsetOf j) = false) :
    ∃ q, choose c e ks p = (q, none) ∧ PassedOver (fun j => j ∈ ks ∧ candidate c p e j = true) p q := by
  induction ks generalizing p with
  | nil => exact ⟨p, rfl, PassedOver.refl p fun j hj => List.not_mem_nil hj.1⟩
  | cons x xs ih =>
    obtain ⟨hx, hxs⟩ := List.pairwise_cons.1 hsorted
    by_cases hcand : candidate c p e x = true
    · have hsame {j : CellIndex} (hj : j ∈ xs) :
          candidate c (p.setCell x cellFree OutcomeCode.badCell.code) e j = candidate c p e j :=
        candidate_setCell _ _ (hx j hj).ne
      obtain ⟨q, hq, hpassed⟩ := ih (p.setCell x cellFree OutcomeCode.badCell.code) hxs fun j hj hc => by
        rw [p.offsetOf_setCell]
        exact hout j (List.mem_cons_of_mem _ hj) ((hsame hj).symm.trans hc)
      have houtside := hout x List.mem_cons_self hcand
      refine ⟨q, by rw [choose, if_pos hcand, houtside, if_neg Bool.false_ne_true, hq], ?_⟩
      refine (PassedOver.cons (fun h => lt_irrefl x (hx x h.1)) hpassed).congr fun j => ?_
      constructor
      · rintro (rfl | ⟨hj, hc⟩)
        · exact ⟨List.mem_cons_self, hcand⟩
        · exact ⟨List.mem_cons_of_mem _ hj, (hsame hj).symm.trans hc⟩
      · rintro ⟨hj, hc⟩
        exact (List.mem_cons.1 hj).imp_right fun hj => ⟨hj, (hsame hj).trans hc⟩
    · obtain ⟨q, hq, hpassed⟩ := ih p hxs fun j hj => hout j (List.mem_cons_of_mem _ hj)
      refine ⟨q, by rw [choose, if_neg hcand, hq], hpassed.congr fun j => ?_⟩
      constructor
      · rintro ⟨hj, hc⟩
        exact ⟨List.mem_cons_of_mem _ hj, hc⟩
      · rintro ⟨hj, hc⟩
        exact ⟨(List.mem_cons.1 hj).resolve_left fun h => hcand (h ▸ hc), hc⟩

/-- What a publication's choice answers where no candidate's block lies inside the data area. -/
theorem choose_unfilled {c : ReportChannel} {s : State}
    (hout : ∀ k : CellIndex, Candidate c s k → blockInside k (s.port.offsetOf k) = false) :
    ∃ q, choose c s.exc (cellsOf c.long) s.port = (q, none) ∧ PassedOver (Candidate c s) s.port q := by
  obtain ⟨q, hq, hpassed⟩ := choose_none (e := s.exc) (cellsOf c.long) s.port (cellsOf_sorted c.long)
    fun j _ hj => hout j ((candidate_iff c s j).1 hj)
  refine ⟨q, hq, hpassed.congr fun j => ?_⟩
  rw [candidate_iff]
  exact ⟨fun h => h.2, fun h => ⟨h.mem_cellsOf, h⟩⟩

/-- A publication's choice either takes a cell, the candidates before it passed over, or passes over every candidate. -/
theorem choose_cases (c : ReportChannel) (s : State) :
    (∃ q k, choose c s.exc (cellsOf c.long) s.port = (q, some k) ∧
      PassedOver (fun j => j < k ∧ Candidate c s j) s.port q) ∨
    ∃ q, choose c s.exc (cellsOf c.long) s.port = (q, none) ∧ PassedOver (Candidate c s) s.port q := by
  by_cases hfits : ∃ k, Candidate c s k ∧ blockInside k (s.port.offsetOf k) = true
  · obtain ⟨k, ⟨hk, hblock⟩, hleast⟩ :=
      wellFounded_lt.has_min {k | Candidate c s k ∧ blockInside k (s.port.offsetOf k) = true} hfits
    obtain ⟨q, hq, hpassed⟩ := choose_first (e := s.exc) (cellsOf c.long) s.port (cellsOf_sorted c.long)
      hk.mem_cellsOf ((candidate_iff c s k).2 hk) hblock fun j _ hlt hj =>
        Bool.eq_false_iff.2 fun hinside => hleast j ⟨(candidate_iff c s j).1 hj, hinside⟩ hlt
    refine .inl ⟨q, k, hq, hpassed.congr fun j => ?_⟩
    rw [candidate_iff]
    exact ⟨fun h => h.2, fun h => ⟨h.2.mem_cellsOf, h⟩⟩
  · exact .inr (choose_unfilled fun k hk => Bool.eq_false_iff.2 fun hinside => hfits ⟨k, hk, hinside⟩)

section
variable {c : ReportChannel} {s : State} {q : Port} {late : List VcWrite}

theorem publish_chosen {k : CellIndex} (h : choose c s.exc (cellsOf c.long) s.port = (q, some k)) :
    publish late c s = fill late c k { s with port := q } := by
  simp only [publish, h]

theorem publish_unfilled (h : choose c s.exc (cellsOf c.long) s.port = (q, none)) :
    publish late c s = vcWrites late (skip c { s with port := q }) := by
  simp only [publish, h]

end

/-! ## The skip -/

/-- A word reads as its two bytes do. -/
theorem Port.wordAt_congr {p q : Port} {a : Nat} (h : ∀ b, b = a ∨ b = a + 1 → p.byteAt b = q.byteAt b) :
    p.wordAt a = q.wordAt a := by
  unfold Port.wordAt
  rw [h a (.inl rfl), h (a + 1) (.inr rfl)]

/-- The skip count as it rises, up to 65535 (R177). -/
theorem skip_row (c : ReportChannel) (s : State) :
    (skip c s).reportRow c.row = { s.reportRow c.row with skips := min ((s.reportRow c.row).skips + 1) 65535 } :=
  setReportRow_row_same _ _ _

theorem skip_row_other {c : ReportChannel} {s : State} {i : Fin 8} (h : i ≠ c.row) :
    (skip c s).reportRow i = s.reportRow i := setReportRow_row_other _ _ h

theorem skip_port (c : ReportChannel) (s : State) :
    (skip c s).port = (s.port.setWord (dirAddr c.number 3)
      (natWord (min ((s.reportRow c.row).skips + 1) 65535))).setCause .reportSkipped := rfl

theorem skip_causeSet (c : ReportChannel) (s : State) : (skip c s).causeSet .reportSkipped = true :=
  setCause_causeSet _ _

/-- A skip writes the skip count of its directory entry and the attention mirror, and no other byte. -/
theorem skip_byteAt_other {c : ReportChannel} {s : State} {a : Nat}
    (hdir : a ≠ dirAddr c.number 3 ∧ a ≠ dirAddr c.number 3 + 1)
    (hmirror : a ≠ statusAddr 11 ∧ a ≠ statusAddr 11 + 1) : (skip c s).port.byteAt a = s.port.byteAt a := by
  rw [skip_port, Port.setCause, Port.byteAt_setAttn_other _ _ hmirror.1 hmirror.2,
    Port.byteAt_setWord_other _ _ hdir.1 hdir.2]

/-- A skip writes no header. -/
theorem skip_header (c : ReportChannel) (s : State) (k : CellIndex) :
    (skip c s).port.wordAt (headerAddr k 1) = s.port.wordAt (headerAddr k 1) := by
  have hdir := dirAddr_lt c (j := 3) (by decide)
  have hheader := headerAddr_inside k (j := 1) (by decide)
  have hmirror : statusAddr 11 = 0x96 := rfl
  exact Port.wordAt_congr fun b hb => skip_byteAt_other (by omega) (by omega)

/-- The directory shows the skip count (R167). -/
theorem skip_directory {c : ReportChannel} {s : State} (h : MemoryInv s) :
    (skip c s).port.wordAt (dirAddr c.number 3) = natWord ((skip c s).reportRow c.row).skips := by
  have hdir := dirAddr_lt c (j := 3) (by decide)
  have hread := Port.wordAt_setWord_same s.port (natWord (min ((s.reportRow c.row).skips + 1) 65535))
    (a := dirAddr c.number 3) (by unfold ramBytes; omega) h
  rw [skip_row, skip_port]
  exact (Port.wordAt_congr fun b hb => Port.byteAt_setCause_other _ _ (by omega)).trans hread

/-! ## A publication without a cell -/

/-- The state word of a cell that was not passed over is as it was. -/
theorem PassedOver.header_other {passed : CellIndex → Prop} {p q : Port} (h : PassedOver passed p q) {k : CellIndex}
    (hk : ¬passed k) : q.wordAt (headerAddr k 1) = p.wordAt (headerAddr k 1) := by
  refine Port.wordAt_congr fun b hb => h.bytes b fun l hl => ?_
  have hapart := headerAddr_apart (k := k) (l := l) (i := 1) (j := 1) (by decide) (by decide)
    (.inl fun e => hk (e ▸ hl))
  omega

/-- Settles O52: the choice passes over every candidate, and the skip writes no header. -/
theorem skippedPublication : Obligations.SkippedPublication := by
  intro c s hout
  obtain ⟨q, hq, hpassed⟩ := choose_unfilled hout
  have hskip : publish [] c s = skip c { s with port := q } := publish_unfilled hq
  have hrow := skip_row c { s with port := q }
  dsimp only
  rw [hskip]
  refine ⟨fun hmem k => ⟨fun hk => ?_, fun hk => ?_⟩, ?_, ?_, ?_, rfl, skip_causeSet _ _,
    fun hmem => skip_directory (hpassed.memory hmem)⟩
  · exact (skip_header c _ k).trans (hpassed.freed hmem k hk)
  · exact (skip_header c _ k).trans (hpassed.header_other hk)
  all_goals
    rw [hrow]
    rfl

end Sys2Proof.Machine
end

section
/-! PROOF. The report frame: what it keeps whatever is written meanwhile, and the turn of each channel with nothing written
(R175 to R178, R180). -/

namespace Sys2Proof.Machine

open Sys2Proof

/-! ## What every part of a report frame keeps -/

/-- From s to t EXC changes its report rows alone, ATTN_EN stays, no cause is cleared, and the exchange RAM keeps its canonical
form. -/
structure ReportKept (s t : State) : Prop where
  memory : MemoryInv s → MemoryInv t
  causes : ∀ x : Cause, s.causeSet x = true → t.causeSet x = true
  exc : t.exc = { s.exc with reports := t.exc.reports }
  attnEn : t.port.attnEn = s.port.attnEn
  powerUps : t.port.powerUps = s.port.powerUps

namespace ReportKept

variable {s t u : State}

theorem refl (s : State) : ReportKept s s := ⟨id, fun _ => id, rfl, rfl, rfl⟩

theorem trans (h : ReportKept s t) (k : ReportKept t u) : ReportKept s u where
  memory m := k.memory (h.memory m)
  causes x m := k.causes x (h.causes x m)
  exc := by rw [k.exc, h.exc]
  attnEn := k.attnEn.trans h.attnEn
  powerUps := k.powerUps.trans h.powerUps

/-- The same, the later operation first. -/
theorem after (k : ReportKept t u) (h : ReportKept s t) : ReportKept s u := h.trans k

/-- Writes into the exchange RAM, the registers left. -/
theorem of_port {p : Port} (hmemory : Memory.wf s.port.ram = true → Memory.wf p.ram = true)
    (hattn : p.attn = s.port.attn) (hattnEn : p.attnEn = s.port.attnEn) (hpowerUps : p.powerUps = s.port.powerUps) :
    ReportKept s { s with port := p } :=
  ⟨hmemory, fun x hx => by rwa [State.causeSet, hattn], rfl, hattnEn, hpowerUps⟩

theorem of_passed {passed : CellIndex → Prop} {q : Port} (h : PassedOver passed s.port q) :
    ReportKept s { s with port := q } := .of_port h.memory h.attn h.attnEn h.powerUps

theorem frameNumber (h : ReportKept s t) : t.exc.frameNumber = s.exc.frameNumber := by rw [h.exc]

theorem sweepCount (h : ReportKept s t) : t.exc.sweepCount = s.exc.sweepCount := by rw [h.exc]

theorem orders (h : ReportKept s t) : t.exc.orders = s.exc.orders := by rw [h.exc]

end ReportKept

theorem vcWrites_reportKept (ws : List VcWrite) (s : State) : ReportKept s (vcWrites ws s) :=
  .of_port (s.port.wf_vcWrites ws) (s.port.vcWrites_attn ws) (s.port.vcWrites_attnEn ws) (s.port.vcWrites_powerUps ws)

theorem setRamWord_reportKept (a : Nat) (w : Word) (s : State) : ReportKept s (setRamWord a w s) :=
  .of_port (s.port.wf_setWord a w) rfl rfl rfl

theorem setCell_reportKept (k : CellIndex) (x y : Nat) (s : State) : ReportKept s (setCell k x y s) :=
  .of_port (s.port.wf_setCell k x y) rfl rfl rfl

theorem setReportRow_reportKept (i : Fin 8) (r : ReportRow) (s : State) : ReportKept s (setReportRow i r s) :=
  ⟨id, fun _ => id, rfl, rfl, rfl⟩

theorem setCause_reportKept (x : Cause) (s : State) : ReportKept s (setCause x s) where
  memory := (setCause_kept x s).memory
  causes := (setCause_kept x s).causes
  exc := rfl
  attnEn := s.port.setAttn_attnEn _
  powerUps := s.port.setAttn_powerUps _

theorem holdOutgoing_reportKept (c : ReportChannel) (o : CellIndex) (s : State) : ReportKept s (holdOutgoing c o s) :=
  (setReportRow_reportKept _ _ _).after (setCell_reportKept o _ _ s)

theorem outgoing_reportKept (c : ReportChannel) (prev : Option CellIndex) (s : State) :
    ReportKept s (outgoing c prev s) := by
  cases prev with
  | none => exact .refl s
  | some o =>
    obtain ⟨_, e⟩ | ⟨_, _, e⟩ | ⟨l, _, _, e⟩ := outgoing_cases c o s <;> rw [e]
    · exact setCell_reportKept o _ _ s
    · exact holdOutgoing_reportKept c o s
    · exact (setCell_reportKept l _ _ _).after (holdOutgoing_reportKept c o s)

theorem writePayload_reportKept (c : ReportChannel) (k : CellIndex) (s : State) : ReportKept s (writePayload c k s) :=
  (ReportKept.of_port (Port.wf_setWords _ _ _) (Port.setWords_attn _ _ _) (Port.setWords_attnEn _ _ _)
    (Port.setWords_powerUps _ _ _)).after (setCell_reportKept k cellFilling 0 s)

theorem writeHeader_reportKept (c : ReportChannel) (k : CellIndex) (length : Nat) (s : State) :
    ReportKept s (writeHeader c k length s) := by
  unfold writeHeader
  exact (setRamWord_reportKept _ _ _).after ((setReportRow_reportKept _ _ _).after ((setCell_reportKept k _ _ _).after
    ((setReportRow_reportKept _ _ _).after ((setRamWord_reportKept _ _ _).after ((setRamWord_reportKept _ _ _).after
      (setRamWord_reportKept _ _ s))))))

theorem moveCursor_reportKept (c : ReportChannel) (s : State) : ReportKept s (moveCursor c s) := by
  cases c <;> exact ⟨id, fun _ => id, rfl, rfl, rfl⟩

theorem orderDone_reportKept (c : ReportChannel) (s : State) : ReportKept s (orderDone c s) := by
  cases c
  case orderResult => exact setCause_reportKept .orderDone s
  all_goals exact .refl s

theorem fill_reportKept (late : List VcWrite) (c : ReportChannel) (k : CellIndex) (s : State) :
    ReportKept s (fill late c k s) := by
  have hstarted : ReportKept s (moveCursor c (startFilling c s)) :=
    (moveCursor_reportKept c _).after (setReportRow_reportKept _ _ s)
  have hpaid := (hstarted.trans (writePayload_reportKept c k _)).trans (vcWrites_reportKept late _)
  exact ((hpaid.trans (writeHeader_reportKept c k _ _)).trans (outgoing_reportKept c _ _)).trans
    (orderDone_reportKept c _)

theorem skip_reportKept (c : ReportChannel) (s : State) : ReportKept s (skip c s) :=
  (setCause_reportKept _ _).after ((setRamWord_reportKept _ _ _).after (setReportRow_reportKept _ _ s))

theorem publish_reportKept (late : List VcWrite) (c : ReportChannel) (s : State) : ReportKept s (publish late c s) := by
  obtain ⟨q, k, hq, hpassed⟩ | ⟨q, hq, hpassed⟩ := choose_cases c s
  · rw [publish_chosen hq]
    exact (fill_reportKept late c k _).after (.of_passed hpassed)
  · rw [publish_unfilled hq]
    exact (vcWrites_reportKept late _).after ((skip_reportKept c _).after (.of_passed hpassed))

theorem reportTurn_reportKept (late : List LateWrite) (c : ReportChannel) (s : State) :
    ReportKept s (reportTurn late c s) := by
  unfold reportTurn
  split
  · exact (vcWrites_reportKept _ _).after ((publish_reportKept _ c _).after (vcWrites_reportKept _ s))
  · exact (vcWrites_reportKept _ _).after ((vcWrites_reportKept _ _).after (vcWrites_reportKept _ s))

theorem reportTurns_reportKept (late : List LateWrite) (cs : List ReportChannel) (s : State) :
    ReportKept s (reportTurns late cs s) := by
  induction cs generalizing s with
  | nil => exact .refl s
  | cons c cs ih => exact (reportTurn_reportKept late c s).trans (ih _)

/-! ## The words no publication writes -/

/-- The words a frame goes by and shows: the filters of the channels, and the frame number in the status block. -/
def FrameWord (a : Nat) : Prop := a = statusAddr 2 ∨ ∃ d : ReportChannel, a = dirAddr d.number 2

/-- A byte of such a word is no byte of a published index, of a skip count, or of the attention mirror. -/
theorem FrameWord.apart {a : Nat} (h : FrameWord a) (c : ReportChannel) {b : Nat} (hb : b = a ∨ b = a + 1) :
    (b ≠ dirAddr c.number 0 ∧ b ≠ dirAddr c.number 0 + 1) ∧ (b ≠ dirAddr c.number 3 ∧ b ≠ dirAddr c.number 3 + 1) ∧
      b < statusAddr 11 := by
  have hc : c.number < 16 := by cases c <;> decide
  obtain rfl | ⟨d, rfl⟩ := h
  · unfold statusAddr dirAddr at *
    omega
  · have hd : d.number < 16 := by cases d <;> decide
    unfold statusAddr dirAddr at *
    omega

/-- Below the attention mirror a filling writes the published index of its directory entry alone. -/
theorem fill_byteAt_low {c : ReportChannel} {k : CellIndex} {s : State} {a : Nat} (h : a < statusAddr 11)
    (hdir : a ≠ dirAddr c.number 0 ∧ a ≠ dirAddr c.number 0 + 1) :
    (fill [] c k s).port.byteAt a = s.port.byteAt a := by
  have hmirror : statusAddr 11 = 0x96 := rfl
  have hdone (u : State) : (orderDone c u).port.byteAt a = u.port.byteAt a := by
    cases c
    case orderResult => exact Port.byteAt_setAttn_other _ _ (by omega) (by omega)
    all_goals rfl
  have hheader (j : CellIndex) := headerAddr_inside j (j := 1) (by decide)
  rw [fill_eq, hdone, outgoing_byteAt _ _ _ fun j _ => by have := hheader j; omega, written_port]
  have := hheader k
  exact Port.byteAt_withReport_other (by omega) (.inl (by omega)) (.inl (by unfold dataAddr; omega))

/-- Passing over cells writes their headers alone. -/
theorem PassedOver.byteAt_low {passed : CellIndex → Prop} {p q : Port} (h : PassedOver passed p q) {a : Nat}
    (ha : a < statusAddr 11) : q.byteAt a = p.byteAt a := by
  have hmirror : statusAddr 11 = 0x96 := rfl
  refine h.bytes a fun j _ => ?_
  have := headerAddr_inside j (j := 1) (by decide)
  omega

theorem publish_frameWord (c : ReportChannel) (s : State) {a : Nat} (h : FrameWord a) :
    (publish [] c s).port.wordAt a = s.port.wordAt a := by
  refine Port.wordAt_congr fun b hb => ?_
  obtain ⟨hindex, hskips, hlow⟩ := h.apart c hb
  obtain ⟨q, k, hq, hpassed⟩ | ⟨q, hq, hpassed⟩ := choose_cases c s
  · rw [publish_chosen hq, fill_byteAt_low hlow hindex]
    exact hpassed.byteAt_low hlow
  · rw [publish_unfilled hq, vcWrites_nil, skip_byteAt_other hskips (by omega)]
    exact hpassed.byteAt_low hlow

/-! ## The row of a channel after a publication -/

/-- The two outcomes of a due channel's turn: the report published, or the skip counted (R176 to R178). -/
def TurnOutcome (c : ReportChannel) (r : ReportRow) (t : State) : Prop :=
  ((∃ k : CellIndex, (t.reportRow c.row).published = some k) ∧ (t.reportRow c.row).sequence = r.sequence + 1 ∧
    (t.reportRow c.row).skips = r.skips ∧ (t.reportRow c.row).changePending = false) ∨
  (t.reportRow c.row = { r with skips := min (r.skips + 1) 65535 } ∧ t.causeSet .reportSkipped = true)

/-- What follows keeps the outcome if it keeps the row and clears no cause. -/
theorem TurnOutcome.kept {c : ReportChannel} {r : ReportRow} {t u : State} (h : TurnOutcome c r t)
    (hrow : u.reportRow c.row = t.reportRow c.row) (hkept : ReportKept t u) : TurnOutcome c r u := by
  unfold TurnOutcome at h ⊢
  rw [hrow]
  exact h.imp_right fun ⟨hskips, hcause⟩ => ⟨hskips, hkept.causes _ hcause⟩

theorem publish_outcome (c : ReportChannel) (s : State) : TurnOutcome c (s.reportRow c.row) (publish [] c s) := by
  obtain ⟨q, k, hq, _⟩ | ⟨q, hq, _⟩ := choose_cases c s
  · have hrow := fill_row c k { s with port := q }
    rw [publish_chosen hq]
    exact .inl ⟨⟨k, by rw [hrow]⟩, by rw [hrow]; rfl, by rw [hrow]; rfl, by rw [hrow]⟩
  · rw [publish_unfilled hq]
    exact .inr ⟨skip_row c _, skip_causeSet c _⟩

theorem publish_row_other {c : ReportChannel} {s : State} {i : Fin 8} (h : i ≠ c.row) :
    (publish [] c s).reportRow i = s.reportRow i := by
  obtain ⟨q, k, hq, _⟩ | ⟨q, hq, _⟩ := choose_cases c s
  · rw [publish_chosen hq]
    exact fill_row_other c k _ h
  · rw [publish_unfilled hq]
    exact skip_row_other h

/-! ## The turns of a frame with nothing written meanwhile -/

theorem reportTurn_quiet (c : ReportChannel) (s : State) :
    reportTurn [] c s = if c.due s then publish [] c s else s := rfl

theorem reportTurn_frameWord (c : ReportChannel) (s : State) {a : Nat} (h : FrameWord a) :
    (reportTurn [] c s).port.wordAt a = s.port.wordAt a := by
  rw [reportTurn_quiet]
  split
  · exact publish_frameWord c s h
  · rfl

theorem reportTurn_row_other {c : ReportChannel} {s : State} {i : Fin 8} (h : i ≠ c.row) :
    (reportTurn [] c s).reportRow i = s.reportRow i := by
  rw [reportTurn_quiet]
  split
  · exact publish_row_other h
  · rfl

theorem reportTurns_frameWord (cs : List ReportChannel) (s : State) {a : Nat} (h : FrameWord a) :
    (reportTurns [] cs s).port.wordAt a = s.port.wordAt a := by
  induction cs generalizing s with
  | nil => rfl
  | cons c cs ih => exact (ih _).trans (reportTurn_frameWord c s h)

theorem ReportChannel.row_injective {c d : ReportChannel} (h : c.row = d.row) : c = d := by
  have hall (x : ReportChannel) : ReportChannel.all[x.row.val]? = some x := by cases x <;> rfl
  have hc := hall c
  rw [h, hall d] at hc
  exact (Option.some.inj hc).symm

theorem reportTurns_row_other {cs : List ReportChannel} {c : ReportChannel} (s : State) (h : c ∉ cs) :
    (reportTurns [] cs s).reportRow c.row = s.reportRow c.row := by
  induction cs generalizing s with
  | nil => rfl
  | cons d cs ih =>
    obtain ⟨hd, hcs⟩ := not_or.1 (List.mem_cons.not.1 h)
    exact (ih _ hcs).trans (reportTurn_row_other fun e => hd (ReportChannel.row_injective e))

theorem reportTurns_append (late : List LateWrite) (cs ds : List ReportChannel) (s : State) :
    reportTurns late (cs ++ ds) s = reportTurns late ds (reportTurns late cs s) := by
  induction cs generalizing s with
  | nil => rfl
  | cons c cs ih => exact ih _

/-- A channel is due by its row, its filter and the frame number alone. -/
theorem due_congr {c : ReportChannel} {s t : State} (hrow : t.reportRow c.row = s.reportRow c.row)
    (hfilter : t.port.wordAt (dirAddr c.number 2) = s.port.wordAt (dirAddr c.number 2))
    (hframe : t.exc.frameNumber = s.exc.frameNumber) : c.due t = c.due s := by
  unfold ReportChannel.due
  rw [hrow, hfilter, hframe]

/-- In the turns of some channels, each named once, the row of a channel changes in its own turn alone, and that turn finds the
channel due as the frame does. -/
theorem reportTurns_row {cs : List ReportChannel} (hnodup : cs.Nodup) {c : ReportChannel} (hc : c ∈ cs) (s : State) :
    (c.due s = false → (reportTurns [] cs s).reportRow c.row = s.reportRow c.row) ∧
      (c.due s = true → TurnOutcome c (s.reportRow c.row) (reportTurns [] cs s)) := by
  obtain ⟨before, rest, rfl⟩ := List.append_of_mem hc
  obtain ⟨_, hrest, hapart⟩ := List.nodup_append.1 hnodup
  have hbefore : c ∉ before := fun h => hapart c h c List.mem_cons_self rfl
  have hafter : c ∉ rest := (List.nodup_cons.1 hrest).1
  have hrow : (reportTurns [] before s).reportRow c.row = s.reportRow c.row := reportTurns_row_other s hbefore
  have hdue : c.due (reportTurns [] before s) = c.due s :=
    due_congr hrow (reportTurns_frameWord before s (.inr ⟨c, rfl⟩)) (reportTurns_reportKept [] before s).frameNumber
  have hlast := reportTurns_row_other (reportTurn [] c (reportTurns [] before s)) hafter
  rw [reportTurns_append, reportTurns]
  constructor
  · intro h
    rw [hlast, reportTurn_quiet, hdue, h]
    exact hrow
  · intro h
    refine TurnOutcome.kept ?_ hlast (reportTurns_reportKept [] rest _)
    rw [reportTurn_quiet, hdue, h, ← hrow]
    exact publish_outcome c _

/-! ## The filter (R175) -/

/-- A filter matches where the frame number's low byte, masked by the filter's high byte, is the filter's low byte. -/
theorem filterMatches_iff (filter frame : Word) :
    filterMatches filter frame = true ↔
      (frame.toNat % 256) &&& (filter.toNat / 256) = filter.toNat % 256 := by
  have hlow {m : Word} (w : Word) (hm : m.toNat = 255) : (w &&& m).toNat = w.toNat % 256 := by
    rw [BitVec.toNat_and, hm]
    exact Nat.and_two_pow_sub_one_eq_mod w.toNat 8
  unfold filterMatches
  rw [decide_eq_true_iff, ← BitVec.toNat_inj, BitVec.toNat_and, hlow frame rfl, hlow filter rfl, BitVec.toNat_ushiftRight,
    Nat.shiftRight_eq_div_pow]

theorem due_iff (c : ReportChannel) (s : State) :
    c.due s = true ↔ (s.reportRow c.row).changePending = true ∨
      (c ≠ .orderResult ∧
        (s.exc.frameNumber.toNat % 256) &&& ((s.port.wordAt (dirAddr c.number 2)).toNat / 256) =
          (s.port.wordAt (dirAddr c.number 2)).toNat % 256) := by
  unfold ReportChannel.due
  rw [Bool.or_eq_true, Bool.and_eq_true, decide_eq_true_iff, filterMatches_iff]

/-! ## The frame -/

theorem execReportFrame_running (writes : List VcWrite) (late : List LateWrite) {s : State} (h : s.running = true) :
    exec (.reportFrame writes late) s = .next (reportFrame late (vcWrites writes s)) := by
  have hmain : s.supply.main = true := (Bool.and_eq_true_iff.1 h).1
  have hwritten : vcWritesPowered writes s = vcWrites writes s := if_pos hmain
  have hexec : exec (.reportFrame writes late) s = execReportFrame writes late s := rfl
  rw [hexec, execReportFrame, hwritten, if_pos h]

/-- The count shows in the status block (R180). -/
theorem countFrame_status {s : State} (h : MemoryInv s) :
    (countFrame s).port.wordAt (statusAddr 2) = s.exc.frameNumber + 1 :=
  Port.wordAt_setWord_same s.port _ (by decide) h

/-- The count leaves the filters. -/
theorem countFrame_filter (c : ReportChannel) (s : State) :
    (countFrame s).port.wordAt (dirAddr c.number 2) = s.port.wordAt (dirAddr c.number 2) := by
  have hdir := dirAddr_lt c (j := 2) (by decide)
  exact Port.wordAt_setWord_other s.port _ (.inl (by unfold statusAddr; omega))

/-- After its count a report frame changes EXC's report rows, the exchange RAM and the detail cursor. -/
theorem reportFrame_reportKept (late : List LateWrite) (s : State) : ReportKept (countFrame s) (reportFrame late s) :=
  reportTurns_reportKept late ReportChannel.all (countFrame s)

/-- The frame number stays in the status block to the end of the frame. -/
theorem reportFrame_status {s : State} (h : MemoryInv s) :
    (reportFrame [] s).port.wordAt (statusAddr 2) = s.exc.frameNumber + 1 :=
  (reportTurns_frameWord ReportChannel.all (countFrame s) (.inl rfl)).trans (countFrame_status h)

/-- The row of each channel after a frame with nothing written during it. -/
theorem reportFrame_row (c : ReportChannel) (s : State) :
    (c.due (countFrame s) = false → (reportFrame [] s).reportRow c.row = s.reportRow c.row) ∧
      (c.due (countFrame s) = true → TurnOutcome c (s.reportRow c.row) (reportFrame [] s)) :=
  reportTurns_row (cs := ReportChannel.all) (by decide) (by cases c <;> decide) (countFrame s)

/-- A channel is due in a frame by its change-pending flag, or by its filter and the frame's own number (R175). -/
theorem due_countFrame_iff (c : ReportChannel) (s : State) :
    c.due (countFrame s) = true ↔ (s.reportRow c.row).changePending = true ∨
      (c ≠ .orderResult ∧
        ((s.exc.frameNumber + 1).toNat % 256) &&& ((s.port.wordAt (dirAddr c.number 2)).toNat / 256) =
          (s.port.wordAt (dirAddr c.number 2)).toNat % 256) := by
  rw [due_iff, countFrame_filter]
  rfl

/-- Settles O51: the frame's parts keep all but the report rows and the exchange, and with nothing written meanwhile each
channel's row is what its own turn leaves. -/
theorem reportFrameCounts : Obligations.ReportFrameCounts := by
  intro writes late s hrunning
  have hkept := reportFrame_reportKept late (vcWrites writes s)
  refine ⟨reportFrame late (vcWrites writes s), execReportFrame_running writes late hrunning, hkept.frameNumber,
    hkept.sweepCount, hkept.orders, hkept.attnEn.trans (s.port.vcWrites_attnEn writes),
    hkept.powerUps.trans (s.port.vcWrites_powerUps writes), ?frame, ?rows⟩
  case frame =>
    obtain ⟨_, _, _, hframe⟩ := (vcWrites_excChange writes s).trans (reportFrame_excChange late _)
    rw [hframe]
  case rows =>
    rintro rfl hmemory
    refine ⟨reportFrame_status (vcWrites_memoryInv writes hmemory), fun c => ?_⟩
    have hdue := due_countFrame_iff c (vcWrites writes s)
    obtain ⟨hleft, hturned⟩ := reportFrame_row c (vcWrites writes s)
    exact ⟨fun h => hleft (Bool.eq_false_iff.2 fun h' => h (hdue.1 h')), fun h => hturned (hdue.2 h)⟩

end Sys2Proof.Machine
end

section
/-! PROOF. The canonical form of the exchange RAM, kept by the sweep, the report frame, the resets and every command (R164). -/

namespace Sys2Proof.Machine

open Sys2Proof

/-! ## Composition -/

/-- The rule speaks of the exchange RAM alone. -/
theorem MemoryInv.of_port {s t : State} (h : MemoryInv s) (hport : t.port = s.port) : MemoryInv t := by
  unfold MemoryInv
  rw [hport]
  exact h

section
variable {s : State}

theorem setRamWord_memoryInv (a : Nat) (w : Word) (h : MemoryInv s) : MemoryInv (setRamWord a w s) :=
  s.port.wf_setWord a w h

theorem setCell_memoryInv (k : CellIndex) (x y : Nat) (h : MemoryInv s) : MemoryInv (setCell k x y s) :=
  s.port.wf_setCell k x y h

theorem setCellState_memoryInv (k : CellIndex) (x : Nat) (h : MemoryInv s) : MemoryInv (setCellState k x s) :=
  s.port.wf_setCell k x _ h

theorem vcWritesPowered_memoryInv (ws : List VcWrite) (h : MemoryInv s) : MemoryInv (vcWritesPowered ws s) := by
  unfold vcWritesPowered
  split
  · exact vcWrites_memoryInv ws h
  · exact h

/-! ## The turn of an order channel (R169 to R173) -/

theorem rewriteChannel_memoryInv (c : OrderChannel) (k : CellIndex) (h : MemoryInv s) :
    MemoryInv (rewriteChannel c k s) := by
  unfold rewriteChannel
  split
  · exact setRamWord_memoryInv _ _ h
  · exact h

theorem recordOutcome_memoryInv (c : OrderChannel) (cell : Nat) (sequence : Word) (code : OutcomeCode) (f : DetailFlags)
    (h : MemoryInv s) : MemoryInv (recordOutcome c cell sequence code f s) := setRamWord_memoryInv _ _ h

theorem returnPrevious_memoryInv (o : Option CellIndex) (h : MemoryInv s) : MemoryInv (returnPrevious o s) := by
  cases o with
  | none => exact h
  | some k => exact setCellState_memoryInv k _ h

theorem takeCell_memoryInv (c : OrderChannel) (k : CellIndex) (code : OutcomeCode) (h : MemoryInv s) :
    MemoryInv (takeCell c k code s) := by
  have hstamped := setRamWord_memoryInv (headerAddr k 5) s.exc.frameNumber (setCell_memoryInv k cellTaken code.code h)
  exact setRamWord_memoryInv _ _ (returnPrevious_memoryInv _ (setRamWord_memoryInv (dirAddr c.number 0) _ hstamped))

theorem refuseOrder_memoryInv (c : OrderChannel) (k : CellIndex) (hd : CellHeader) (code : OutcomeCode) (f : DetailFlags)
    (h : MemoryInv s) : MemoryInv (refuseOrder c k hd code f s).1 := by
  unfold refuseOrder refuseCell
  split
  · exact recordOutcome_memoryInv _ _ _ _ _ (setCell_memoryInv k _ _ h)
  · exact recordOutcome_memoryInv _ _ _ _ _ h

theorem handToOwner_memoryInv (c : OrderChannel) (k : CellIndex) (hd : CellHeader) (f : DetailFlags) (n : Nat)
    (h : MemoryInv s) : MemoryInv (handToOwner c k hd f n s).1 := by
  unfold handToOwner
  split
  case h_1 => exact refuseOrder_memoryInv _ _ _ _ _ h
  case h_2 added t ht => exact recordOutcome_memoryInv _ _ _ _ _ (takeCell_memoryInv _ _ _ ((answer_kept ht).memory h))

theorem examineCell_memoryInv (mid : List VcWrite) (c : OrderChannel) (k : CellIndex) (h : MemoryInv s) :
    MemoryInv (examineCell mid c k s).1 := by
  have hread : MemoryInv (vcWrites mid (rewriteChannel c k s)) :=
    vcWrites_memoryInv mid (rewriteChannel_memoryInv c k h)
  unfold examineCell
  dsimp only
  split
  case h_1 => exact refuseOrder_memoryInv _ _ _ _ _ (vcWrites_memoryInv mid h)
  case h_2 =>
    split
    case h_1 => exact refuseOrder_memoryInv _ _ _ _ _ hread
    case h_2 => exact handToOwner_memoryInv _ _ _ _ _ hread

theorem examine_memoryInv (mid : List VcWrite) (c : OrderChannel) (w : Word) (h : MemoryInv s) :
    MemoryInv (examine mid c w s).1 := by
  unfold examine
  split
  case h_1 => exact recordOutcome_memoryInv _ _ _ _ _ (vcWrites_memoryInv mid h)
  case h_2 k _ => exact examineCell_memoryInv mid c k h

theorem clearPending_memoryInv (c : OrderChannel) (w : Word) (h : MemoryInv s) : MemoryInv (clearPending c w s) := by
  unfold clearPending
  split
  · exact setRamWord_memoryInv _ _ h
  · exact h

theorem orderTurn_memoryInv (late : List LateWrite) (c : OrderChannel) {t : State × Bool} (h : MemoryInv t.1) :
    MemoryInv (orderTurn late c t).1 := by
  unfold orderTurn
  dsimp only
  split
  case isTrue => exact lateAll_memoryInv late c.number h
  case isFalse =>
    exact clearPending_memoryInv c _ (vcWrites_memoryInv _ (examine_memoryInv _ c _ (vcWrites_memoryInv _ h)))

theorem orderTurns_memoryInv (late : List LateWrite) (cs : List OrderChannel) {t : State × Bool} (h : MemoryInv t.1) :
    MemoryInv (orderTurns late cs t).1 := by
  induction cs generalizing t with
  | nil => exact h
  | cons c cs ih => exact ih (orderTurn_memoryInv late c h)

/-! ## Steps 2 to 4 of a sweep (R167, R179, R180) -/

theorem releaseHold_memoryInv (i : Fin 8) (h : MemoryInv s) : MemoryInv (releaseHold i s) := by
  unfold releaseHold
  split
  · exact h
  · split
    · exact h
    · exact setCellState_memoryInv _ cellSpare h

theorem releaseHolds_memoryInv (is : List (Fin 8)) (h : MemoryInv s) : MemoryInv (releaseHolds is s) := by
  induction is generalizing s with
  | nil => exact h
  | cons i is ih => exact ih (releaseHold_memoryInv i h)

theorem Port.wf_rewriteOrder (p : Port) (c : OrderChannel) (r : OrderRow) (h : Memory.wf p.ram = true) :
    Memory.wf (p.rewriteOrder c r).ram = true := Port.wf_setWord _ _ _ (Port.wf_setWord _ _ _ (Port.wf_setWord _ _ _ h))

theorem Port.wf_rewriteReport (p : Port) (i : Fin 8) (r : ReportRow) (h : Memory.wf p.ram = true) :
    Memory.wf (p.rewriteReport i r).ram = true := Port.wf_setWord _ _ _ (Port.wf_setWord _ _ _ h)

/-- A rule of the exchange that each rewrite of one entry keeps is kept by the rewrite of the directory. -/
theorem Port.rewriteDirectory_induction {P : Port → Prop} {e : Exc} {p : Port} (h : P p)
    (horder : ∀ c q, P q → P (q.rewriteOrder c (e.orders.get c.number)))
    (hreport : ∀ i q, P q → P (q.rewriteReport i (e.reports.get i))) : P (p.rewriteDirectory e) :=
  List.foldlRecOn allReportRows _ (List.foldlRecOn OrderChannel.all _ h fun q hq c _ => horder c q hq) fun q hq i _ =>
    hreport i q hq

theorem Port.wf_rewriteDirectory (p : Port) (e : Exc) (h : Memory.wf p.ram = true) :
    Memory.wf (p.rewriteDirectory e).ram = true :=
  Port.rewriteDirectory_induction (P := fun q => Memory.wf q.ram = true) h (fun c q => q.wf_rewriteOrder c _)
    fun i q => q.wf_rewriteReport i _

theorem rewriteStatus_memoryInv (h : MemoryInv s) : MemoryInv (rewriteStatus s) := s.port.wf_setWords _ _ h

theorem rewrites_memoryInv (h : MemoryInv s) : MemoryInv (rewrites s) :=
  rewriteStatus_memoryInv (s := { s with port := _ }) (s.port.wf_rewriteDirectory s.exc h)

theorem countSweep_memoryInv (h : MemoryInv s) : MemoryInv (countSweep s) := s.port.wf_setStatus 3 _ h

theorem askOrderResult_memoryInv (written : Bool) (h : MemoryInv s) : MemoryInv (askOrderResult written s) := by
  cases written <;> exact h

theorem intakeSweep_memoryInv (late : List LateWrite) (h : MemoryInv s) : MemoryInv (intakeSweep late s) :=
  askOrderResult_memoryInv _ (countSweep_memoryInv (rewrites_memoryInv (releaseHolds_memoryInv _
    (orderTurns_memoryInv late OrderChannel.all (t := (s, false)) h))))

/-! ## The report frame -/

theorem reportFrame_memoryInv (late : List LateWrite) (h : MemoryInv s) : MemoryInv (reportFrame late s) :=
  (reportFrame_reportKept late s).memory (s.port.wf_setStatus 2 _ h)

/-! ## The resets -/

theorem establish_memoryInv (kind : ResetCause) (h : MemoryInv s) : MemoryInv (establish kind s) :=
  Memory.wf_establish h

/-- A reset rewrites the exchange RAM from its canonical form. -/
theorem endOfReset_memoryInv (kind : ResetCause) (h : MemoryInv s) : MemoryInv (endOfReset kind s) := by
  have hend {u : State} (hu : MemoryInv u) : MemoryInv (rewriteStatus (resetRaisings u)) :=
    rewriteStatus_memoryInv (hu.of_port (resetRaisings_port u))
  have hkept (k : ResetCause) : MemoryInv (endOfKeptReset k s) :=
    hend ((keptResetLogged_quietKept k s).kept.memory (establish_memoryInv k h))
  have hlost (u : State) : Kept u (retainedLost u) := (logAppend_kept true _ _).after (setCause_kept .retainedLost u)
  cases kind
  case keepPowerUp => exact hend ((hlost _).memory (establish_memoryInv .keepPowerUp (s := initialiseRetained s) h))
  case mainPowerUp => exact hkept .mainPowerUp
  case pin => exact hkept .pin

/-- A power-up finds a fresh exchange RAM, of which nothing is listed (R164). -/
theorem powerUp_memoryInv (kind : ResetCause) (vkeep : Bool) (s : State) : MemoryInv (powerUp kind vkeep s) := by
  cases hreset : s.supply.resetAsserted
  · rw [powerUp_free kind vkeep hreset]
    exact endOfReset_memoryInv kind rfl
  · rw [powerUp_held kind vkeep hreset]
    rfl

theorem releaseReset_memoryInv (h : MemoryInv s) : MemoryInv (releaseReset s) := by
  unfold releaseReset
  dsimp only
  split
  · exact endOfReset_memoryInv _ h
  · exact h

/-! ## Every command -/

theorem attnWrite_memoryInv (v : Word) (h : MemoryInv s) : MemoryInv (attnWrite v s) := s.port.wf_setAttn _ h

theorem exec_memoryInv {c : Instr} {t : State} (ht : exec c s = .next t) (h : MemoryInv s) : MemoryInv t := by
  have hwritten (ws : List VcWrite) : MemoryInv (vcWritesPowered ws s) := vcWritesPowered_memoryInv ws h
  cases c
  case keepPowerUp => cases ht; exact powerUp_memoryInv _ _ s
  case mainPowerUp => cases ht; exact powerUp_memoryInv _ _ s
  case pinReset => cases ht; exact releaseReset_memoryInv h
  case resetAsserted => cases ht; exact h
  case mainSupplyLoss => cases ht; exact h
  case keepSupplyLoss => cases ht; exact h
  case registerWriteIgnored => cases ht; exact hwritten _
  case intakeSweep writes late =>
    unfold exec execIntakeSweep at ht
    cases ht
    split
    · exact intakeSweep_memoryInv late (hwritten writes)
    · exact vcWritesPowered_memoryInv _ (hwritten writes)
  case reportFrame writes late =>
    unfold exec execReportFrame at ht
    cases ht
    split
    · exact reportFrame_memoryInv late (hwritten writes)
    · exact vcWritesPowered_memoryInv _ (hwritten writes)
  case attnWrite v =>
    cases ht
    unfold whileRunning
    split
    · exact attnWrite_memoryInv v h
    · exact h
  case attnEnWrite v =>
    cases ht
    unfold whileRunning
    split <;> exact h
  all_goals exact (event_kept rfl (fun _ => Instr.noConfusion) (fun _ => Instr.noConfusion) ht).memory h

end

/-- Settles O54, by the writes of EXC, which keep the canonical form, and a case for each command. -/
theorem stepKeepsMemoryInv : Obligations.StepKeepsMemoryInv := by
  intro s t h hstep
  unfold step at hstep
  split at hstep
  case h_1 => cases hstep; exact h
  case h_2 c rest _ => exact exec_memoryInv hstep (h.of_port (withPending_port _ rest))

end Sys2Proof.Machine
end

section
/-! PROOF. What the operations that the owners share leave of the exchange whatever the ring records hold, and that they do the
same from two states which differ in the exchange RAM alone: no operation of an owner reads it (R164, R171). -/

namespace Sys2Proof.Machine

open Sys2Proof

/-! ## The internal channel table -/

/-- From s to t EXC's records stay, but that change publications may be requested (R168, R176). -/
structure TableKept (s t : State) : Prop where
  frameNumber : t.exc.frameNumber = s.exc.frameNumber
  sweepCount : t.exc.sweepCount = s.exc.sweepCount
  orders : t.exc.orders = s.exc.orders
  rows : ∀ i : Fin 8, t.reportRow i = { s.reportRow i with changePending := (t.reportRow i).changePending }

namespace TableKept

variable {s t u : State}

theorem of_exc (h : t.exc = s.exc) : TableKept s t := by
  refine ⟨by rw [h], by rw [h], by rw [h], fun i => ?_⟩
  unfold State.reportRow
  rw [h]

theorem refl (s : State) : TableKept s s := .of_exc rfl

theorem trans (h : TableKept s t) (k : TableKept t u) : TableKept s u where
  frameNumber := k.frameNumber.trans h.frameNumber
  sweepCount := k.sweepCount.trans h.sweepCount
  orders := k.orders.trans h.orders
  rows i := by rw [k.rows i, h.rows i]

/-- The same, the later operation first. -/
theorem after (k : TableKept t u) (h : TableKept s t) : TableKept s u := h.trans k

theorem ite {p : Prop} [Decidable p] (h : p → TableKept s t) (k : ¬p → TableKept s u) :
    TableKept s (if p then t else u) := by
  split
  · exact h ‹_›
  · exact k ‹_›

theorem orderRow (h : TableKept s t) (c : OrderChannel) : t.orderRow c = s.orderRow c :=
  congrArg (fun v : Vector OrderRow 8 => v.get c.number) h.orders

theorem published (h : TableKept s t) (i : Fin 8) : (t.reportRow i).published = (s.reportRow i).published := by rw [h.rows i]

theorem held (h : TableKept s t) (i : Fin 8) : (t.reportRow i).held = (s.reportRow i).held := by rw [h.rows i]

end TableKept

theorem requestReport_tableKept (i : Fin 8) (s : State) : TableKept s (requestReport i s) := by
  refine ⟨rfl, rfl, rfl, fun j => ?_⟩
  by_cases h : j = i
  · subst h
    rw [requestReport_row_same]
  · rw [requestReport_row_other s h]

/-- What an owner's take leaves as it was, whatever the ring records hold: the supplies, the messages, the queue, EXC's records
but for the requests, and the directory and the cell headers. -/
structure TakeFrame (s t : State) : Prop where
  supply : t.supply = s.supply
  sent : t.sent = s.sent
  pending : t.pending = s.pending
  table : TableKept s t
  bytes : ∀ a : Nat, a < 0x580 → ¬(0x80 ≤ a ∧ a < 0x98) → t.port.byteAt a = s.port.byteAt a

namespace TakeFrame

variable {s t u : State}

theorem refl (s : State) : TakeFrame s s := ⟨rfl, rfl, rfl, .refl s, fun _ _ _ => rfl⟩

theorem trans (h : TakeFrame s t) (k : TakeFrame t u) : TakeFrame s u where
  supply := k.supply.trans h.supply
  sent := k.sent.trans h.sent
  pending := k.pending.trans h.pending
  table := h.table.trans k.table
  bytes a ha hb := (k.bytes a ha hb).trans (h.bytes a ha hb)

/-- Writes into the status block's items and the log slots. -/
theorem of_port {p : Port} (h : ∀ a : Nat, a < 0x580 → ¬(0x80 ≤ a ∧ a < 0x98) → p.byteAt a = s.port.byteAt a) :
    TakeFrame s { s with port := p } := ⟨rfl, rfl, rfl, .of_exc rfl, h⟩

theorem wordAt (h : TakeFrame s t) {a : Nat} (ha : a + 1 < 0x580) (hb : a + 1 < 0x80 ∨ 0x98 ≤ a) :
    t.port.wordAt a = s.port.wordAt a :=
  Port.wordAt_congr fun b hab => h.bytes b (by omega) (by omega)

end TakeFrame

/-! ## Two ports that agree -/

/-- Both ports hold the exchange RAM in its canonical form, and they agree but for the bytes of some addresses. -/
structure Port.Agree (A : Nat → Prop) (p q : Port) : Prop where
  left : Memory.wf p.ram = true
  right : Memory.wf q.ram = true
  attn : q.attn = p.attn
  bytes : ∀ a : Nat, ¬A a → q.byteAt a = p.byteAt a

/-- There is no address beyond the exchange RAM. -/
theorem Port.setByte_beyond (p : Port) {a : Nat} (b : Byte) (h : ¬a < ramBytes) : p.setByte a b = p := by
  unfold Port.setByte Memory.store
  rw [if_neg h]

namespace Port.Agree

variable {A : Nat → Prop} {p q : Port}

theorem wordAt (h : p.Agree A q) {a : Nat} (h0 : ¬A a) (h1 : ¬A (a + 1)) : q.wordAt a = p.wordAt a :=
  Port.wordAt_congr fun b hb => h.bytes b (by rcases hb with rfl | rfl <;> assumption)

theorem wordsAt (h : p.Agree A q) {a n : Nat} (hA : ∀ x, a ≤ x → ¬A x) : q.wordsAt a n = p.wordsAt a n :=
  Port.wordsAt_congr fun x hx _ => h.bytes x (hA x hx)

theorem setByte (h : p.Agree A q) (a : Nat) (b : Byte) : (p.setByte a b).Agree A (q.setByte a b) where
  left := p.wf_setByte a b h.left
  right := q.wf_setByte a b h.right
  attn := h.attn
  bytes x hx := by
    by_cases hxa : x = a
    · subst hxa
      by_cases hin : x < ramBytes
      · rw [p.byteAt_setByte_same b hin h.left, q.byteAt_setByte_same b hin h.right]
      · rw [p.setByte_beyond b hin, q.setByte_beyond b hin]
        exact h.bytes x hx
    · rw [p.byteAt_setByte_other b hxa, q.byteAt_setByte_other b hxa]
      exact h.bytes x hx

theorem setWord (h : p.Agree A q) (a : Nat) (w : Word) : (p.setWord a w).Agree A (q.setWord a w) :=
  (h.setByte _ _).setByte _ _

theorem setWords (h : p.Agree A q) (a : Nat) (ws : List Word) : (p.setWords a ws).Agree A (q.setWords a ws) := by
  induction ws generalizing p q a with
  | nil => exact h
  | cons w ws ih => exact ih (h.setWord a w) _

theorem setAttn (h : p.Agree A q) (x : BitVec 8) : (p.setAttn x).Agree A (q.setAttn x) := by
  have hset : Port.Agree A { p with attn := x } { q with attn := x } := ⟨h.left, h.right, rfl, h.bytes⟩
  unfold Port.setAttn
  rw [h.attn]
  split
  · exact h
  · exact hset.setWord _ _

theorem setCause (h : p.Agree A q) (c : Cause) : (p.setCause c).Agree A (q.setCause c) := by
  unfold Port.setCause
  rw [h.attn]
  exact h.setAttn _

theorem setLogStatus (h : p.Agree A q) (r : LogRing) : (p.setLogStatus r).Agree A (q.setLogStatus r) :=
  (((h.setWord _ _).setWord _ _).setWord _ _).setWord _ _

theorem afterAppend (h : p.Agree A q) (quiet : Bool) (r : LogRing) (e : LogEntry) :
    (p.afterAppend quiet r e).Agree A (q.afterAppend quiet r e) := by
  have hentry := (h.setWords (slotAddr r.writePos) (e.words r.nextSequence)).setLogStatus (r.afterAppend e)
  have hfull := h.setLogStatus (r.afterAppend e)
  unfold Port.afterAppend
  split
  · split <;> cases quiet
    · exact hentry.setCause _
    · exact hentry
    · exact hfull.setCause _
    · exact hfull
  · exact h

end Port.Agree

/-- An append writes nothing below the log slots but the status block's items, wherever the write position stands. -/
theorem Port.byteAt_afterAppend_low (p : Port) (quiet : Bool) (r : LogRing) (e : LogEntry) {a : Nat} (ha : a < 0x580)
    (h : ¬(0x80 ≤ a ∧ a < 0x98)) : (p.afterAppend quiet r e).byteAt a = p.byteAt a := by
  have hentry : ((p.setWords (slotAddr r.writePos) (e.words r.nextSequence)).setLogStatus (r.afterAppend e)).byteAt a =
      p.byteAt a := by
    rw [Port.byteAt_setLogStatus_other _ _ h, Port.byteAt_setWords_other _ _ (.inl (by unfold slotAddr; omega))]
  have hfull := p.byteAt_setLogStatus_other (r.afterAppend e) h
  unfold Port.afterAppend
  split
  · split <;> cases quiet
    · exact (Port.byteAt_setCause_other _ _ h).trans hentry
    · exact hentry
    · exact (Port.byteAt_setCause_other _ _ h).trans hfull
    · exact hfull
  · rfl

/-! ## Two runs side by side -/

/-- Two states that differ, if at all, in their ports. -/
def SameRecords (s s' : State) : Prop := s' = { s with port := s'.port }

/-- Two states of which the ports agree but for the bytes of some addresses, and all else is the same. -/
structure AgreeBut (A : Nat → Prop) (s s' : State) : Prop where
  records : SameRecords s s'
  port : s.port.Agree A s'.port

/-- The way from s to t leaves what a take leaves, and the way from s' to t' is the same way: where s and s' differ in their
ports alone, so do t and t', and where the ports agree but for some addresses, they agree so after it. -/
structure Parallel (s s' t t' : State) : Prop where
  frame : TakeFrame s t
  records : SameRecords s s' → SameRecords t t'
  port : ∀ A : Nat → Prop, SameRecords s s' → s.port.Agree A s'.port → t.port.Agree A t'.port

namespace Parallel

variable {s s' t t' u u' : State}

theorem agree (h : Parallel s s' t t') {A : Nat → Prop} (k : AgreeBut A s s') : AgreeBut A t t' :=
  ⟨h.records k.records, h.port A k.records k.port⟩

theorem refl (s s' : State) : Parallel s s' s s' := ⟨.refl s, id, fun _ _ => id⟩

theorem trans (h : Parallel s s' t t') (k : Parallel t t' u u') : Parallel s s' u u' :=
  ⟨h.frame.trans k.frame, fun hs => k.records (h.records hs), fun A hs hp => k.port A (h.records hs) (h.port A hs hp)⟩

/-- The same, the later operation first. -/
theorem after (k : Parallel t t' u u') (h : Parallel s s' t t') : Parallel s s' u u' := h.trans k

/-- One condition decides in both runs. -/
theorem ite {p : Prop} [Decidable p] (h : p → Parallel s s' t t') (k : ¬p → Parallel s s' u u') :
    Parallel s s' (if p then t else u) (if p then t' else u') := by
  split
  · exact h ‹_›
  · exact k ‹_›

/-- It is enough to compare with a state in which the port alone was replaced. -/
theorem of_replaced {f : State → State}
    (h : ∀ (s : State) (q : Port), Parallel s { s with port := q } (f s) (f { s with port := q })) (s s' : State) :
    Parallel s s' (f s) (f s') where
  frame := (h s s.port).frame
  records hs := by
    obtain ⟨q, rfl⟩ : ∃ q, s' = { s with port := q } := ⟨_, hs⟩
    exact (h s q).records rfl
  port A hs := by
    obtain ⟨q, rfl⟩ : ∃ q, s' = { s with port := q } := ⟨_, hs⟩
    exact (h s q).port A rfl

/-- An operation on the records of the owners, the log and the wear monitor alone. -/
theorem of_records {f : State → State} (s s' : State) (hport : ∀ s : State, (f s).port = s.port := by intros; rfl)
    (hrecords : ∀ (s : State) (q : Port), f { s with port := q } = { f s with port := q } := by intros; rfl)
    (hexc : ∀ s : State, (f s).exc = s.exc := by intros; rfl)
    (hsupply : ∀ s : State, (f s).supply = s.supply := by intros; rfl)
    (hsent : ∀ s : State, (f s).sent = s.sent := by intros; rfl)
    (hpending : ∀ s : State, (f s).pending = s.pending := by intros; rfl) : Parallel s s' (f s) (f s') := by
  refine of_replaced (fun s q => ⟨⟨hsupply s, hsent s, hpending s, .of_exc (hexc s), fun a _ _ => by rw [hport]⟩,
    fun _ => ?_, fun A _ hp => ?_⟩) s s'
  · unfold SameRecords
    rw [hrecords]
  · rw [hport, hport]
    exact hp

/-- An operation on the port that leaves the directory and the headers. -/
theorem of_port {f : Port → Port} (s s' : State)
    (hbytes : ∀ a : Nat, a < 0x580 → ¬(0x80 ≤ a ∧ a < 0x98) → (f s.port).byteAt a = s.port.byteAt a)
    (hagree : ∀ (A : Nat → Prop) (q : Port), s.port.Agree A q → (f s.port).Agree A (f q)) :
    Parallel s s' { s with port := f s.port } { s' with port := f s'.port } where
  frame := .of_port hbytes
  records hs := by
    unfold SameRecords at hs ⊢
    rw [hs]
  port A _ hp := hagree A _ hp

end Parallel

section
variable (s s' : State)

/-! ## Causes, status items, requests and the log -/

theorem setCause_parallel (c : Cause) : Parallel s s' (setCause c s) (setCause c s') :=
  .of_port (f := fun p => p.setCause c) s s' (fun _ _ hb => Port.byteAt_setCause_other _ _ hb) fun _ _ h => h.setCause c

theorem setStatus_parallel {i : Nat} (hi : i < 12) (w : Word) : Parallel s s' (setStatus i w s) (setStatus i w s') := by
  refine .of_port (f := fun p => p.setStatus i w) s s' (fun a _ hb => ?_) fun _ _ h => h.setWord _ _
  exact Port.byteAt_setWord_other _ _ (by unfold statusAddr; omega) (by unfold statusAddr; omega)

theorem requestReport_parallel (i : Fin 8) : Parallel s s' (requestReport i s) (requestReport i s') :=
  .of_replaced (f := requestReport i)
    (fun u _ => ⟨⟨rfl, rfl, rfl, requestReport_tableKept i u, fun _ _ _ => rfl⟩, fun _ => rfl, fun _ _ => id⟩) s s'

theorem logAppend_parallel (quiet : Bool) (e : LogEntry) :
    Parallel s s' (logAppend quiet e s) (logAppend quiet e s') :=
  .of_replaced (f := logAppend quiet e)
    (fun u _ => ⟨⟨rfl, rfl, rfl, .of_exc rfl, fun _ => u.port.byteAt_afterAppend_low quiet u.log e⟩, fun _ => rfl,
      fun _ _ h => h.afterAppend quiet u.log e⟩) s s'

theorem logNow_parallel (kind : LogKind) (c : Option Counter) (v : Option Int) :
    Parallel s s' (logNow kind c v s) (logNow kind c v s') :=
  .of_replaced (f := logNow kind c v) (fun u q => logAppend_parallel u { u with port := q } false (entryNow u kind c v none))
    s s'

/-! ## Wear counters -/

theorem setCounter_parallel (c : Counter) (r : WearRecord) : Parallel s s' (setCounter c r s) (setCounter c r s') :=
  .of_records (f := setCounter c r) s s'

theorem thresholdCheck_parallel (quiet : Bool) (c : Counter) :
    Parallel s s' (thresholdCheck quiet c s) (thresholdCheck quiet c s') := by
  refine .of_replaced (f := thresholdCheck quiet c) (fun u q => ?_) s s'
  have hcounter : ({ u with port := q } : State).counter c = u.counter c := rfl
  unfold thresholdCheck
  rw [hcounter]
  cases (u.counter c).due with
  | none => exact .refl _ _
  | some level => exact (setCounter_parallel _ _ c _).trans (logAppend_parallel _ _ quiet _)

theorem wearIncrement_parallel (quiet : Bool) (c : Counter) :
    Parallel s s' (wearIncrement quiet c s) (wearIncrement quiet c s') :=
  .of_replaced (f := wearIncrement quiet c)
    (fun u q => (setCounter_parallel u { u with port := q } c _).trans (thresholdCheck_parallel _ _ quiet c)) s s'

theorem setThresholds_parallel (c : Counter) (advise urgent : Nat) :
    Parallel s s' (setThresholds c advise urgent s) (setThresholds c advise urgent s') :=
  .of_replaced (f := setThresholds c advise urgent)
    (fun u q => (setCounter_parallel u { u with port := q } c _).trans (thresholdCheck_parallel _ _ false c)) s s'

theorem reseedCounter_parallel (c : Counter) (value : Nat) :
    Parallel s s' (reseedCounter c value s) (reseedCounter c value s') :=
  .of_replaced (f := reseedCounter c value)
    (fun u q => ((setCounter_parallel u { u with port := q } c _).trans (logNow_parallel _ _ .reseed _ _)).trans
      (thresholdCheck_parallel _ _ false c)) s s'

theorem clearRemainder_parallel (c : Counter) : Parallel s s' (clearRemainder c s) (clearRemainder c s') := by
  refine .of_replaced (f := clearRemainder c) (fun u q => ?_) s s'
  match c with
  | 0 | 1 | 2 | 3 | 4 | 5 | 6 | 7 | 8 | 9 => exact ⟨⟨rfl, rfl, rfl, .of_exc rfl, fun _ _ _ => rfl⟩, fun _ => rfl, fun _ _ => id⟩

theorem clearCounter_parallel (c : Counter) : Parallel s s' (clearCounter c s) (clearCounter c s') := by
  refine .of_replaced (f := clearCounter c) (fun u q => ?_) s s'
  have hlogged := logNow_parallel u { u with port := q } .serviceClear (some c) (some ((u.counter c).value : Int))
  have hcleared := hlogged.trans (setCounter_parallel _ _ c { u.counter c with value := 0, warned := .none })
  exact (hcleared.trans (clearRemainder_parallel _ _ c)).trans (thresholdCheck_parallel _ _ false c)

theorem eachCounter_parallel {f : Counter → State → State} (h : ∀ c u u', Parallel u u' (f c u) (f c u'))
    (cs : List Counter) : Parallel s s' (eachCounter f cs s) (eachCounter f cs s') := by
  induction cs generalizing s s' with
  | nil => exact .refl s s'
  | cons c cs ih => exact (h c s s').trans (ih _ _)

/-! ## The driveline supervisor -/

theorem setDrivelineState_parallel (st : DrivelineState) :
    Parallel s s' (setDrivelineState st s) (setDrivelineState st s') := by
  have hstate : Parallel s s' (s.withDsv { s.dsv with state := st }) (s'.withDsv { s'.dsv with state := st }) :=
    .of_records (f := fun u => u.withDsv { u.dsv with state := st }) s s'
  exact (hstate.trans (setStatus_parallel _ _ (i := 1) (by decide) _)).trans (setCause_parallel _ _ .stateChange)

theorem setStopCause_parallel (c : StopCause) : Parallel s s' (setStopCause c s) (setStopCause c s') :=
  .of_records (f := setStopCause c) s s'

theorem judgeOpening_parallel : Parallel s s' (judgeOpening s) (judgeOpening s') :=
  .of_replaced (f := judgeOpening)
    (fun u q => .ite (fun _ => (logNow_parallel u { u with port := q } .hotOpen none _).trans (wearIncrement_parallel _ _ _ _))
      fun _ => .refl _ _) s s'

theorem openPos_parallel : Parallel s s' (openPos s) (openPos s') :=
  .of_replaced (f := openPos)
    (fun u q => .ite
      (fun _ => (judgeOpening_parallel u { u with port := q }).trans
        (.of_records (f := fun v => v.withDsv { v.dsv with posClosed := false, posFlag := false }) _ _))
      fun _ => .refl _ _) s s'

theorem openAll_parallel : Parallel s s' (openAll s) (openAll s') :=
  (openPos_parallel s s').trans
    (.of_records (f := fun v => v.withDsv { v.dsv with preClosed := false, negClosed := false }) _ _)

theorem enterStandby_parallel : Parallel s s' (enterStandby s) (enterStandby s') :=
  (setStopCause_parallel s s' _).trans (setDrivelineState_parallel _ _ _)

theorem enterPrecharge_parallel : Parallel s s' (enterPrecharge s) (enterPrecharge s') :=
  (setDrivelineState_parallel _ _ _).after
    (.of_records
      (f := fun v => v.withDsv { v.dsv with
        negClosed := true, preClosed := true, prechargeTimer := some 3000, inverterSincePrecharge := false }) s s')

theorem closeWindow_parallel : Parallel s s' (closeWindow s) (closeWindow s') := by
  refine .of_replaced (f := closeWindow) (fun u q => .ite (fun _ => ?_) fun _ => .refl _ _) s s'
  have hclosed := Parallel.of_records
    (f := fun v : State =>
      { v with wear := { v.wear with windowOpen := false }, dsv := { v.dsv with keepStoreValid := true } })
    u { u with port := q }
  exact (hclosed.trans (setStatus_parallel _ _ (i := 5) (by decide) 0)).trans
    (setStatus_parallel _ _ (i := 4) (by decide) 1)

theorem enterDrive_parallel : Parallel s s' (enterDrive s) (enterDrive s') :=
  (setDrivelineState_parallel s s' _).trans (closeWindow_parallel _ _)

theorem enterSafeStop_parallel : Parallel s s' (enterSafeStop s) (enterSafeStop s') :=
  (setDrivelineState_parallel _ _ _).after
    (.of_records (f := fun v => v.withDsv { v.dsv with safeStopTimer := some 30000 }) s s')

theorem enterPowerDown_parallel : Parallel s s' (enterPowerDown s) (enterPowerDown s') :=
  (setDrivelineState_parallel _ _ _).after
    (.of_records (f := fun v => v.withDsv { v.dsv with safeStopTimer := none, powerDownTimer := some 500 }) s s')

theorem abortPrecharge_parallel : Parallel s s' (abortPrecharge s) (abortPrecharge s') :=
  (enterStandby_parallel _ _).after ((openAll_parallel s s').trans
    (.of_records (f := fun v => v.withDsv { v.dsv with prechargeTimer := none, settleTimer := none }) _ _))

theorem shutdown_parallel (k : FaultKind) : Parallel s s' (shutdown k s) (shutdown k s') := by
  have hstopped : Parallel s s' (setStopCause (.fault k) (stopTimers s)) (setStopCause (.fault k) (stopTimers s')) :=
    .of_records (f := fun v => setStopCause (.fault k) (stopTimers v)) s s'
  exact (hstopped.trans (openAll_parallel _ _)).trans
    ((logNow_parallel _ _ .shutdown _ _).trans (setDrivelineState_parallel _ _ _))

theorem dsvTest_parallel : Parallel s s' (dsvTest s) (dsvTest s') := by
  refine .of_replaced (f := dsvTest) (fun u q => ?_) s s'
  have hsame := Parallel.refl u { u with port := q }
  have henter := setDrivelineState_parallel u { u with port := q }
  have hdrive := enterDrive_parallel u { u with port := q }
  unfold dsvTest
  dsimp only
  cases u.dsv.state <;> dsimp only
  case standby => exact .ite (fun _ => enterPrecharge_parallel _ _) fun _ => hsame
  case ready =>
    exact .ite (fun _ => .ite (fun _ => hdrive) fun _ => .ite (fun _ => henter _) fun _ => hsame) fun _ => hsame
  case drive => exact .ite (fun _ => henter _) fun _ => .ite (fun _ => henter _) fun _ => hsame
  case limp => exact .ite (fun _ => hdrive) fun _ => hsame
  case safeStop => exact .ite (fun _ => enterPowerDown_parallel _ _) fun _ => hsame
  all_goals exact hsame

theorem dsvSettle_parallel : Parallel s s' (dsvSettle s) (dsvSettle s') :=
  (dsvTest_parallel s s').trans (dsvTest_parallel _ _)

/-! ## The fault table -/

theorem setRecord_parallel (k : FaultKind) (r : FaultRecord) : Parallel s s' (setRecord k r s) (setRecord k r s') :=
  .of_records (f := setRecord k r) s s'

theorem notifyFaults_parallel : Parallel s s' (notifyFaults s) (notifyFaults s') :=
  (setCause_parallel s s' _).trans (requestReport_parallel _ _ _)

theorem safeStopReaction_parallel (k : FaultKind) (became : Bool) :
    Parallel s s' (safeStopReaction k became s) (safeStopReaction k became s') := by
  refine .of_replaced (f := safeStopReaction k became) (fun u q => ?_) s s'
  have hsame := Parallel.refl u { u with port := q }
  have hcause := setStopCause_parallel u { u with port := q } (.fault k)
  have hlogged := hcause.trans (logNow_parallel _ _ .safeStopEntered none (some (k.number.val : Int)))
  unfold safeStopReaction
  dsimp only
  cases u.dsv.state <;> dsimp only
  case precharge => exact .ite (fun _ => abortPrecharge_parallel _ _) fun _ => hsame
  case ready => exact .ite (fun _ => hcause.trans (enterPowerDown_parallel _ _)) fun _ => hsame
  case drive => exact .ite (fun _ => hlogged.trans (enterSafeStop_parallel _ _)) fun _ => hsame
  case limp => exact .ite (fun _ => hlogged.trans (enterSafeStop_parallel _ _)) fun _ => hsame
  case safeStop => exact .ite (fun _ => hlogged) fun _ => hsame
  case powerDown => exact .ite (fun _ => hcause) fun _ => hsame
  all_goals exact hsame

theorem shutdownReaction_parallel (k : FaultKind) (became : Bool) :
    Parallel s s' (shutdownReaction k became s) (shutdownReaction k became s') := by
  refine .of_replaced (f := shutdownReaction k became) (fun u q => ?_) s s'
  have hsame := Parallel.refl u { u with port := q }
  have hshut : Parallel u { u with port := q } (if became then shutdown k u else u)
      (if became then shutdown k { u with port := q } else { u with port := q }) :=
    .ite (fun _ => shutdown_parallel _ _ k) fun _ => hsame
  unfold shutdownReaction
  dsimp only
  cases u.dsv.state
  case standby => exact hsame
  case faulted => exact hsame
  all_goals exact hshut

theorem dsvOnRaise_parallel (k : FaultKind) (became : Bool) :
    Parallel s s' (dsvOnRaise k became s) (dsvOnRaise k became s') := by
  refine (dsvSettle_parallel _ _).after ?_
  cases k.reactionClass
  case shutdown => exact shutdownReaction_parallel s s' k became
  case safeStop => exact safeStopReaction_parallel s s' k became
  all_goals exact .refl s s'

theorem raiseFault_parallel (k : FaultKind) : Parallel s s' (raiseFault k s) (raiseFault k s') :=
  .of_replaced (f := raiseFault k)
    (fun u q => ((setRecord_parallel u { u with port := q } k _).trans (notifyFaults_parallel _ _)).trans
      (dsvOnRaise_parallel _ _ k _)) s s'

theorem clearFault_parallel (k : FaultKind) : Parallel s s' (clearFault k s) (clearFault k s') :=
  .of_replaced (f := clearFault k)
    (fun u q => .ite
      (fun _ => ((setRecord_parallel u { u with port := q } k _).trans (notifyFaults_parallel _ _)).trans
        (dsvSettle_parallel _ _))
      fun _ => .refl _ _) s s'

theorem acknowledgeFaults_parallel : Parallel s s' (acknowledgeFaults s) (acknowledgeFaults s') :=
  .of_replaced (f := acknowledgeFaults)
    (fun u q => .ite
      (fun _ => (notifyFaults_parallel _ _).after
        (.of_records
          (f := fun v => { v with faults := { v.faults with records := v.faults.records.map FaultRecord.acknowledge } })
          u { u with port := q }))
      fun _ => .refl _ _) s s'

theorem dsvKey_parallel : Parallel s s' (dsvKey s) (dsvKey s') := by
  refine .of_replaced (f := dsvKey) (fun u q => ?_) s s'
  have hsame := Parallel.refl u { u with port := q }
  have hcause := setStopCause_parallel u { u with port := q } .keyOff
  unfold dsvKey
  refine (dsvSettle_parallel _ _).after (.ite (fun _ => hsame) fun _ => ?_)
  dsimp only
  cases u.dsv.state <;> dsimp only
  case precharge => exact abortPrecharge_parallel _ _
  case ready => exact hcause.trans (enterPowerDown_parallel _ _)
  case drive => exact hcause.trans (enterSafeStop_parallel _ _)
  case limp => exact hcause.trans (enterSafeStop_parallel _ _)
  case faulted => exact .ite (fun _ => enterStandby_parallel _ _) fun _ => hsame
  all_goals exact hsame

/-! ## The takes of the owners -/

/-- ENA's records replaced by what is formed from them. -/
theorem mapEna_parallel (f : Ena → Ena) : Parallel s s' (s.withEna (f s.ena)) (s'.withEna (f s'.ena)) :=
  .of_records (f := fun u => u.withEna (f u.ena)) s s'

theorem takeDemand_parallel (p : List Word) (n : Word) (d : Direction) :
    Parallel s s' (takeDemand p n d s) (takeDemand p n d s') := by
  have hstored : Parallel s s' (demandStored p n d s) (demandStored p n d s') :=
    .of_records (f := demandStored p n d) s s'
  exact ((hstored.trans (clearFault_parallel _ _ .demandStale)).trans (clearFault_parallel _ _ .demandLost)).trans
    (dsvSettle_parallel _ _)

theorem setServiceMode_parallel (on : Bool) : Parallel s s' (setServiceMode on s) (setServiceMode on s') :=
  .of_replaced (f := setServiceMode on)
    (fun u q => .ite (fun _ => .refl _ _) fun _ =>
      (Parallel.of_records (f := fun v => v.withDsv { v.dsv with serviceMode := on }) u { u with port := q }).trans
        (setStatus_parallel _ _ (i := 6) (by decide) _)) s s'

theorem askClutchReport_parallel (before : Cpl) :
    Parallel s s' (askClutchReport before s) (askClutchReport before s') :=
  .of_replaced (f := askClutchReport before) (fun _ _ => .ite (fun _ => requestReport_parallel _ _ 6) fun _ => .refl _ _) s s'

theorem cplKeyOff_parallel : Parallel s s' (cplKeyOff s) (cplKeyOff s') := by
  refine .of_replaced (f := cplKeyOff) (fun u q => (askClutchReport_parallel _ _ u.cpl).after ?_) s s'
  have hcounts := Parallel.of_records
    (f := fun v => v.withCpl { v.cpl with crankCount := 0, failureWait := 0 }) u { u with port := q }
  have hoff (v v' : State) := Parallel.of_records (f := fun w => w.withCpl { w.cpl with engine := .off }) v v'
  exact .ite (fun _ => (hcounts.trans (hoff _ _)).trans (clearFault_parallel _ _ .engineStartFailed)) fun _ => hcounts

theorem takeMode_parallel (key : Bool) (perm : Permission) (target : Nat) (service ack : Bool) :
    Parallel s s' (takeMode key perm target service ack s) (takeMode key perm target service ack s') := by
  refine .of_replaced (f := takeMode key perm target service ack) (fun u q => ?_) s s'
  have himage (v v' : State) := Parallel.of_records
    (f := setModeImage key perm (clampTarget u.dsv.limits target) (serviceAfter u service)) v v'
  have hkey := ((setServiceMode_parallel u { u with port := q } (serviceAfter u service)).trans (himage _ _)).trans
    (dsvKey_parallel _ _)
  have hacted := Parallel.ite (p := key = true) (fun _ => hkey) fun _ => hkey.trans (cplKeyOff_parallel _ _)
  exact .ite (p := ack = true) (fun _ => hacted.trans (acknowledgeFaults_parallel _ _)) fun _ => hacted

theorem overtempTest_parallel : Parallel s s' (overtempTest s) (overtempTest s') :=
  .of_replaced (f := overtempTest)
    (fun _ _ => .ite (fun _ => .ite (fun _ => .refl _ _) fun _ => raiseFault_parallel _ _ .packOvertemp) fun _ =>
      .ite (fun _ => clearFault_parallel _ _ .packOvertemp) fun _ => .refl _ _) s s'

theorem takeLimits_parallel (l : Limits) : Parallel s s' (takeLimits l s) (takeLimits l s') := by
  have hstored : Parallel s s' (limitsStored l s) (limitsStored l s') := .of_records (f := limitsStored l) s s'
  have htested : ∀ v v' : State, Parallel v v' (overtempAtTake v) (overtempAtTake v') :=
    .of_replaced (f := overtempAtTake) fun _ _ => .ite (fun _ => overtempTest_parallel _ _) fun _ => .refl _ _
  have hlast (v v' : State) := Parallel.of_records
    (f := fun w => recomputeWheelConstants ((reclampTarget w).withEna (rescale l.capacity (reclampTarget w).ena))) v v'
  exact ((hstored.trans (htested _ _)).trans (clearFault_parallel _ _ .configMissing)).trans (hlast _ _)

end

/-- The answers to one order in two states: the same refusal, or takes that run in parallel. -/
inductive Answer.Parallel (s s' : State) : Answer → Answer → Prop
  | refused (code : OutcomeCode) : Answer.Parallel s s' (.refused code) (.refused code)
  | taken (flags : DetailFlags) {t t' : State} (h : Machine.Parallel s s' t t') :
      Answer.Parallel s s' (.taken flags t) (.taken flags t')

theorem Answer.Parallel.ite {s s' : State} {p : Prop} [Decidable p] {a a' b b' : Answer}
    (h : p → Answer.Parallel s s' a a') (k : ¬p → Answer.Parallel s s' b b') :
    Answer.Parallel s s' (if p then a else b) (if p then a' else b') := by
  split
  · exact h ‹_›
  · exact k ‹_›

section
variable (p : List Word) (s : State) (q : Port)

theorem checkDemand_parallel (n : Word) :
    Answer.Parallel s { s with port := q } (checkDemand p n s) (checkDemand p n { s with port := q }) := by
  unfold checkDemand
  cases Direction.ofWord (p.getD 2 0) with
  | none => exact .refused .range
  | some d => exact .taken _ (takeDemand_parallel _ _ p n d)

theorem checkMode_parallel :
    Answer.Parallel s { s with port := q } (checkMode p s) (checkMode p { s with port := q }) := by
  unfold checkMode
  split
  · exact .taken _ (takeMode_parallel _ _ _ _ _ _ _)
  · exact .refused .range

theorem checkLimits_parallel :
    Answer.Parallel s { s with port := q } (checkLimits p s) (checkLimits p { s with port := q }) :=
  .ite (fun _ => .ite (fun _ => .taken _ (takeLimits_parallel _ _ _)) fun _ => .refused .range) fun _ => .refused .state

theorem checkAcceptance_parallel :
    Answer.Parallel s { s with port := q } (checkAcceptance p s) (checkAcceptance p { s with port := q }) :=
  .ite (fun _ => .taken _ (.of_records (f := fun v => v.withEna { v.ena with table := acceptanceOf p }) _ _))
    fun _ => .refused .range

theorem checkEngineMap_parallel :
    Answer.Parallel s { s with port := q } (checkEngineMap p s) (checkEngineMap p { s with port := q }) :=
  .ite
    (fun _ => .ite
      (fun _ => .taken _ (.of_records (f := fun v => v.withSpl { v.spl with mapPoints := mapOf p, mapValid := true }) _ _))
      fun _ => .refused .range)
    fun _ => .refused .state

theorem checkWearSet_parallel :
    Answer.Parallel s { s with port := q } (checkWearSet p s) (checkWearSet p { s with port := q }) := by
  unfold checkWearSet
  cases WearOp.ofWord (p.getD 0 0) with
  | none => exact .refused .range
  | some op =>
    dsimp only
    split
    · exact .refused .range
    · cases op
      case setThresholds =>
        have hset := eachCounter_parallel s { s with port := q }
          (fun c u u' => setThresholds_parallel u u' c (adviseOf p c) (urgentOf p c)) (selectedCounters p)
        exact .ite (fun _ => .refused .range) fun _ => .taken _ hset
      case reseed =>
        have hreseeded := eachCounter_parallel s { s with port := q }
          (fun c u u' => reseedCounter_parallel u u' c (reseedOf p c)) (selectedCounters p)
        exact .ite (fun _ => .taken _ hreseeded) fun _ => .refused .windowClosed
      case clear =>
        have hcleared := eachCounter_parallel s { s with port := q } (fun c u u' => clearCounter_parallel u u' c)
          (selectedCounters p)
        exact .ite (fun _ => .taken _ hcleared) fun _ => .refused .notInService

theorem checkCompensation_parallel :
    Answer.Parallel s { s with port := q } (checkCompensation p s) (checkCompensation p { s with port := q }) := by
  have htrims := Parallel.of_records (f := setTrims p) s { s with port := q }
  have hrebased (v v' : State) := mapEna_parallel v v' (rebase (word p 3))
  unfold checkCompensation
  cases bitOfWord (p.getD 2 0) with
  | none => exact .refused .range
  | some present =>
    dsimp only
    split
    · exact .refused .range
    · split
      · exact .taken _ htrims
      · split
        · exact .refused .range
        · split
          · exact .refused .notAtRest
          · exact .taken _ ((htrims.trans (hrebased _ _)).trans (clearFault_parallel _ _ .socUnknown))

theorem checkLogFilter_parallel :
    Answer.Parallel s { s with port := q } (checkLogFilter p s) (checkLogFilter p { s with port := q }) := by
  unfold checkLogFilter
  cases Severity.ofWord (p.getD 1 0) with
  | none => exact .refused .range
  | some m =>
    exact .taken _ (.of_records
      (f := fun v => { v with log := { v.log with filter := { mask := p.getD 0 0, minimum := m } } }) _ _)

/-- An owner's answer does not depend on the port (R171). -/
theorem answer_parallel (c : OrderChannel) (n : Word) :
    Answer.Parallel s { s with port := q } (c.answer p n s) (c.answer p n { s with port := q }) := by
  cases c
  case demand => exact checkDemand_parallel p s q n
  case mode => exact checkMode_parallel p s q
  case limits => exact checkLimits_parallel p s q
  case acceptance => exact checkAcceptance_parallel p s q
  case engineMap => exact checkEngineMap_parallel p s q
  case wearSet => exact checkWearSet_parallel p s q
  case compensation => exact checkCompensation_parallel p s q
  case logFilter => exact checkLogFilter_parallel p s q

end

/-- What a take leaves, whatever the channel and the ring records. -/
theorem answer_frame {c : OrderChannel} {p : List Word} {n : Word} {s t : State} {f : DetailFlags}
    (h : c.answer p n s = .taken f t) : TakeFrame s t := by
  have hanswers := answer_parallel p s s.port c n
  rw [h] at hanswers
  cases hanswers with
  | taken _ ht => exact ht.frame

end Sys2Proof.Machine
end

section
/-! PROOF. What the events of the other blocks leave of the internal channel table (R168). -/

namespace Sys2Proof.Machine

open Sys2Proof

/-! ## The fault table -/

theorem raiseFault_tableKept (k : FaultKind) (s : State) : TableKept s (raiseFault k s) :=
  (raiseFault_parallel s s k).frame.table

theorem clearFault_tableKept (k : FaultKind) (s : State) : TableKept s (clearFault k s) :=
  (clearFault_parallel s s k).frame.table

theorem notifyFaults_tableKept (s : State) : TableKept s (notifyFaults s) := (notifyFaults_parallel s s).frame.table

theorem momentaryFault_tableKept (k : FaultKind) (s : State) : TableKept s (momentaryFault k s) := by
  have hrecorded (r : FaultRecord) : TableKept s (setRecord k r s) := .of_exc rfl
  exact (hrecorded _).trans (notifyFaults_tableKept _)

/-! ## DSV's timers -/

theorem prechargeExpiry_tableKept (s : State) : TableKept s (prechargeExpiry s) := by
  refine .ite (fun _ => ?_) fun _ => .refl s
  have hopened : TableKept s (openAll (s.withDsv { s.dsv with prechargeTimer := none })) := .of_exc (openAll_exc _)
  exact (hopened.trans (momentaryFault_tableKept .prechargeTimeout _)).trans
    (.of_exc ((dsvSettle_exc _).trans (enterStandby_exc _)))

theorem settleExpiry_tableKept (s : State) : TableKept s (settleExpiry s) :=
  .ite (fun _ => .of_exc (dsvSettle_exc _)) fun _ => .refl s

theorem cooldownExpiry_tableKept (s : State) : TableKept s (cooldownExpiry s) :=
  .ite (fun _ => .of_exc (dsvSettle_exc _)) fun _ => .refl s

theorem powerDownExpiry_tableKept (s : State) : TableKept s (powerDownExpiry s) :=
  .ite (fun _ => .of_exc (completePowerDown_exc _)) fun _ => .refl s

theorem safeStopExpiry_tableKept (s : State) : TableKept s (safeStopExpiry s) :=
  .ite (fun _ => .of_exc ((dsvSettle_exc _).trans (enterPowerDown_exc _))) fun _ => .refl s

theorem dsvSecond_tableKept (s : State) : TableKept s (dsvSecond s) := .ite (fun _ => .refl s) fun _ => .of_exc rfl

/-! ## SNS -/

theorem linkArrival_tableKept (i : LinkId) (s : State) : TableKept s (linkArrival i s) :=
  .ite (fun _ => (clearFault_tableKept _ _).after (.of_exc rfl)) fun _ => .of_exc rfl

theorem monitorExpiry_tableKept (i : LinkId) (s : State) : TableKept s (monitorExpiry i s) := by
  refine .ite (fun _ => (raiseFault_tableKept _ _).after (.of_exc ?_)) fun _ => .refl s
  cases i <;> rfl

theorem inverterArrival_tableKept (speed voltage motor generator : Int) (s : State) :
    TableKept s (inverterArrival speed voltage motor generator s) := by
  have hnoted : TableKept s (noteInverterArrival s) := .ite (fun _ => .of_exc rfl) fun _ => .refl s
  exact (hnoted.trans (linkArrival_tableKept .drive _)).trans (.of_exc ((dsvSettle_exc _).trans (voltageTest_exc _)))

theorem engineArrival_tableKept (speed torque : Int) (run : Bool) (s : State) :
    TableKept s (engineArrival speed torque run s) := (linkArrival_tableKept .engine s).trans (.of_exc rfl)

theorem brakeArrival_tableKept (available abs : Bool) (s : State) : TableKept s (brakeArrival available abs s) :=
  (linkArrival_tableKept .brake s).trans (.of_exc rfl)

theorem sensorTest_tableKept (i : Fin 6) (s : State) : TableKept s (sensorTest i s) :=
  .ite (fun _ => (raiseFault_tableKept _ _).after (.of_exc rfl)) fun _ => .refl s

theorem sensorTests_tableKept (is : List (Fin 6)) (s : State) : TableKept s (sensorTests is s) := by
  induction is generalizing s with
  | nil => exact .refl s
  | cons i is ih => exact (sensorTest_tableKept i s).trans (ih _)

theorem updateWheel_tableKept (i : Fin 6) (x : Wheel) (s : State) : TableKept s (updateWheel i x s) :=
  .ite (fun _ => .of_exc rfl) fun _ => (sensorTests_tableKept _ _).after (.of_exc rfl)

theorem edge_tableKept (i : Fin 6) (capture : Word) (s : State) : TableKept s (edge i capture s) :=
  .ite (fun _ => (updateWheel_tableKept i _ s).trans (clearFault_tableKept _ _)) fun _ => updateWheel_tableKept i _ s

theorem timerWrap_tableKept (i : Fin 6) (s : State) : TableKept s (timerWrap i s) := updateWheel_tableKept i _ s

theorem silenceExpiry_tableKept (i : Fin 6) (s : State) : TableKept s (silenceExpiry i s) :=
  .ite (fun _ => .refl s) fun _ => (sensorTest_tableKept i _).after (.of_exc rfl)

/-! ## ENA -/

theorem accountSample_exc (k : SampleKind) (s : State) : (accountSample k s).exc = s.exc := by
  cases k with
  | integrating n => exact addThroughput_exc n _
  | resynchronising outage => rfl
  | duplicate => rfl

theorem enaSample_tableKept (k : SampleKind) (count : Byte) (s : State) : TableKept s (enaSample k count s) := by
  have haccounted : TableKept s (accountSample k (takeSample s)) := .of_exc (accountSample_exc k _)
  have htested (u : State) : TableKept u (overtempTest u) := (overtempTest_parallel u u).frame.table
  have hena (u : State) (e : Ena) : TableKept u (u.withEna e) := .of_exc rfl
  exact ((haccounted.trans (hena _ _)).trans (htested _)).trans (hena _ _)

theorem packTests_exc (b : Bool) (s : State) : (packTests b s).exc = s.exc := by
  have hended (u : State) : (powerDownTest b u).exc = u.exc := by
    unfold powerDownTest
    split
    · exact completePowerDown_exc u
    · rfl
  unfold packTests
  rw [dsvSettle_exc, hended, voltageTest_exc]

theorem packArrival_tableKept (count : Byte) (current voltage lo hi : Int) (elapsed : Nat) (s : State) :
    TableKept s (packArrival count current voltage lo hi elapsed s) := by
  have htaken : TableKept s (packTaken count current voltage lo hi s) :=
    (linkArrival_tableKept .pack s).trans (.of_exc rfl)
  have hsample (k : SampleKind) (b : Bool) :
      TableKept s (packTests b (enaSample k count (packTaken count current voltage lo hi s))) :=
    (htaken.trans (enaSample_tableKept k count _)).trans (.of_exc (packTests_exc b _))
  unfold packArrival
  dsimp only
  split
  case h_1 => exact htaken.trans (.of_exc ((dsvSettle_exc _).trans (voltageTest_exc _)))
  case h_2 outage _ => exact hsample (.resynchronising outage) _
  case h_3 n _ => exact hsample (.integrating n) _

theorem enaSecond_tableKept (s : State) : TableKept s (enaSecond s) :=
  .ite (fun _ => .of_exc (wearIncrement_exc _ _ _)) fun _ => .of_exc rfl

/-! ## SPL, TQA, CPL, BBL -/

theorem splitFrame_tableKept (s : State) : TableKept s (splitFrame s) := by
  have haged : TableKept s (demandAged s) := .of_exc rfl
  have hstale (u : State) : TableKept u (staleTested u) :=
    .ite (fun _ => (raiseFault_tableKept _ u).trans (.of_exc rfl)) fun _ => .refl u
  have hlost (u : State) : TableKept u (lostTested u) := .ite (fun _ => raiseFault_tableKept _ u) fun _ => .refl u
  have hage : TableKept s (ageTest s) := by
    rcases ageTest_cases s with h | h <;> rw [h]
    · exact (haged.trans (hstale _)).trans (hlost _)
    · exact haged
  exact hage.trans (.of_exc rfl)

theorem cplFrameWant_tableKept (s : State) : TableKept s (cplFrameWant s) := by
  have hslip (u : State) : TableKept u (countSlip u) := .ite (fun _ => .of_exc (wearIncrements_exc _ _ _)) fun _ => .refl u
  have hstall (u : State) : TableKept u (stallTest u) :=
    .ite (fun _ => (momentaryFault_tableKept .engineStall (u.withCpl _)).trans (.of_exc rfl)) fun _ => .refl u
  have hdelays : TableKept s (s.withCpl (stepDelays s.cpl)) := .of_exc rfl
  exact ((hdelays.trans (hslip _)).trans (hstall _)).trans (.of_exc rfl)

theorem moveCoupling_tableKept (s : State) : TableKept s (moveCoupling s) := by
  obtain ⟨c, -, h | ⟨e, h⟩⟩ := moveCoupling_cases s <;> rw [h]
  · exact .of_exc rfl
  · have hmoved : TableKept s (s.withCpl c) := .of_exc rfl
    exact (hmoved.trans (momentaryFault_tableKept .syncTimeout _)).trans (.of_exc rfl)

theorem moveEngine_tableKept (s : State) : TableKept s (moveEngine s) := by
  obtain ⟨c, -, h | h | h⟩ := moveEngine_cases s <;> rw [h]
  · exact .of_exc rfl
  · exact .of_exc (wearIncrement_exc _ _ _)
  · have hmoved : TableKept s (s.withCpl c) := .of_exc rfl
    exact (hmoved.trans (raiseFault_tableKept _ _)).trans (.of_exc rfl)

theorem sendEngineRequest_tableKept (s : State) : TableKept s (sendEngineRequest s) := .of_exc rfl

theorem cplFrame_tableKept (s : State) : TableKept s (cplFrame s) := by
  have hmoved := ((cplFrameWant_tableKept s).trans (moveCoupling_tableKept _)).trans (moveEngine_tableKept _)
  have hasked (u : State) : TableKept u (askClutchReport s.cpl u) := (askClutchReport_parallel u u s.cpl).frame.table
  exact (hmoved.trans (sendEngineRequest_tableKept _)).trans (hasked _)

theorem cplSecond_tableKept (s : State) : TableKept s (cplSecond s) := .ite (fun _ => .of_exc rfl) fun _ => .refl s

theorem outputStep_tableKept (b : Bool) (s : State) : TableKept s (outputStep b s) := by
  cases b
  · exact .of_exc rfl
  · exact .of_exc (blendFrame_exc s)

theorem logTake_tableKept (s : State) : TableKept s (logTake s) := .ite (fun _ => .refl s) fun _ => .of_exc rfl

/-! ## Every event -/

theorem whileRunning_tableKept {f : State → State} (h : ∀ s, TableKept s (f s)) (s : State) :
    TableKept s (whileRunning f s) := .ite (fun _ => h s) fun _ => .refl s

/-- An event of a field message: a discarded one changes nothing (R22). -/
theorem whileRunning_frame_tableKept {f : State → State} (ok : Bool) (h : ∀ s, TableKept s (f s)) (s : State) :
    TableKept s (whileRunning (fun t => if ok then f t else t) s) :=
  whileRunning_tableKept (fun t => .ite (fun _ => h t) fun _ => .refl t) s

theorem event_tableKept {c : Instr} {s t : State} (hc : c.needsRunning = true) (h : exec c s = .next t) :
    TableKept s t := by
  cases c <;> cases hc <;> cases h
  case splitFrame => exact whileRunning_tableKept splitFrame_tableKept s
  case outputStep => exact whileRunning_tableKept (outputStep_tableKept _) s
  case blendFrame => exact whileRunning_tableKept (fun u => .of_exc (blendFrame_exc u)) s
  case cplFrame => exact whileRunning_tableKept cplFrame_tableKept s
  case dsvSecondTimer => exact whileRunning_tableKept dsvSecond_tableKept s
  case cplSecondTimer => exact whileRunning_tableKept cplSecond_tableKept s
  case enaSecondTimer => exact whileRunning_tableKept enaSecond_tableKept s
  case prechargeTimeout => exact whileRunning_tableKept prechargeExpiry_tableKept s
  case settleTimerExpiry => exact whileRunning_tableKept settleExpiry_tableKept s
  case cooldownTimerExpiry => exact whileRunning_tableKept cooldownExpiry_tableKept s
  case powerDownTimerExpiry => exact whileRunning_tableKept powerDownExpiry_tableKept s
  case safeStopTimerExpiry => exact whileRunning_tableKept safeStopExpiry_tableKept s
  case linkMonitorExpiry => exact whileRunning_tableKept (monitorExpiry_tableKept _) s
  case inverterStatus => exact whileRunning_frame_tableKept _ (inverterArrival_tableKept _ _ _ _) s
  case engineStatus => exact whileRunning_frame_tableKept _ (engineArrival_tableKept _ _ _) s
  case brakeStatus => exact whileRunning_frame_tableKept _ (brakeArrival_tableKept _ _) s
  case packSample => exact whileRunning_frame_tableKept _ (packArrival_tableKept _ _ _ _ _ _) s
  case wheelEdge => exact whileRunning_tableKept (edge_tableKept _ _) s
  case wheelTimerWrap => exact whileRunning_tableKept (timerWrap_tableKept _) s
  case silenceTimerExpiry => exact whileRunning_tableKept (silenceExpiry_tableKept _) s
  case attnWrite v => exact whileRunning_tableKept (f := attnWrite v) (fun _ => .of_exc rfl) s
  case attnEnWrite v => exact whileRunning_tableKept (f := attnEnWrite v) (fun _ => .of_exc rfl) s
  case logTakeWrite => exact whileRunning_tableKept logTake_tableKept s

end Sys2Proof.Machine
end

section
/-! PROOF. What each step leaves of the cells that the internal channel table names (R168). -/

namespace Sys2Proof.Machine

open Sys2Proof

/-! ## The rows of the order channels -/

theorem OrderChannel.number_injective {c d : OrderChannel} (h : c.number = d.number) : c = d := by
  have hall (x : OrderChannel) : OrderChannel.all[x.number.val]? = some x := by cases x <;> rfl
  have hc := hall c
  rw [h, hall d] at hc
  exact (Option.some.inj hc).symm

section
variable (c : OrderChannel) (s : State)

@[simp] theorem setOrderRow_row_same (r : OrderRow) : (setOrderRow c r s).orderRow c = r := putAt_get_same _ _ _

variable {c} in
theorem setOrderRow_row_other {d : OrderChannel} (r : OrderRow) (h : d ≠ c) :
    (setOrderRow c r s).orderRow d = s.orderRow d := putAt_get_other _ _ fun e => h (OrderChannel.number_injective e)

/-- The row of a channel with the outcome of an examination recorded (R173, R174). -/
def OrderRow.withOutcome (r : OrderRow) (cell : Nat) (sequence : Word) (code : OutcomeCode) (f : DetailFlags) : OrderRow :=
  { r with
    lastCode := code, lastFlags := f,
    result :=
      if entryWritten c code then { cell := cell, sequence := sequence, code := code, flags := f } else r.result }

theorem recordOutcome_row_same (cell : Nat) (sequence : Word) (code : OutcomeCode) (f : DetailFlags) :
    (recordOutcome c cell sequence code f s).orderRow c = (s.orderRow c).withOutcome c cell sequence code f :=
  setOrderRow_row_same c s _

theorem refuseCell_exc (k : CellIndex) (h : CellHeader) (code : OutcomeCode) : (refuseCell k h code s).exc = s.exc := by
  unfold refuseCell
  split <;> rfl

theorem rewriteChannel_exc (k : CellIndex) : (rewriteChannel c k s).exc = s.exc := by
  unfold rewriteChannel
  split <;> rfl

theorem returnPrevious_exc (o : Option CellIndex) : (returnPrevious o s).exc = s.exc := by cases o <;> rfl

/-- The row of the channel gets its current cell and counts the take (R172). -/
theorem takeCell_exc (k : CellIndex) (code : OutcomeCode) :
    (takeCell c k code s).exc =
      (setOrderRow c { s.orderRow c with current := some k, takeCount := (s.orderRow c).takeCount + 1 } s).exc :=
  returnPrevious_exc _ _

theorem takeCell_row_same (k : CellIndex) (code : OutcomeCode) :
    (takeCell c k code s).orderRow c =
      { s.orderRow c with current := some k, takeCount := (s.orderRow c).takeCount + 1 } := by
  have h := setOrderRow_row_same c s { s.orderRow c with current := some k, takeCount := (s.orderRow c).takeCount + 1 }
  unfold State.orderRow at h ⊢
  rw [takeCell_exc]
  exact h

variable {c} in
theorem takeCell_row_other {d : OrderChannel} (k : CellIndex) (code : OutcomeCode) (h : d ≠ c) :
    (takeCell c k code s).orderRow d = s.orderRow d := by
  have hrow := setOrderRow_row_other s { s.orderRow c with current := some k, takeCount := (s.orderRow c).takeCount + 1 } h
  unfold State.orderRow at hrow ⊢
  rw [takeCell_exc]
  exact hrow

theorem takeCell_reportRow (k : CellIndex) (code : OutcomeCode) (i : Fin 8) :
    (takeCell c k code s).reportRow i = s.reportRow i := by
  unfold State.reportRow
  rw [takeCell_exc]
  rfl

end

/-- The first three checks pass a cell that is free to be taken (R170). -/
theorem firstRefusal_eq_none_iff {c : OrderChannel} {k : CellIndex} {h : CellHeader} {e : Exc} :
    firstRefusal c k h e = none ↔
      blockInside k h.offset = true ∧ e.names k = false ∧ h.state = cellFilled ∧ isLong k = c.long := by
  unfold firstRefusal
  cases blockInside k h.offset <;> cases e.names k
  case true.false => by_cases hfilled : h.state = cellFilled <;> by_cases hclass : isLong k = c.long <;> simp [hfilled, hclass]
  all_goals simp

/-! ## The cells that the report channels show -/

/-- A report channel's row names the cell, as published or as held. -/
def Reported (s : State) (k : CellIndex) : Prop :=
  ∃ i : Fin 8, (s.reportRow i).published = some k ∨ (s.reportRow i).held = some k

theorem not_reported_iff (s : State) (k : CellIndex) :
    ¬Reported s k ↔ ∀ i : Fin 8, (s.reportRow i).published ≠ some k ∧ (s.reportRow i).held ≠ some k := by
  unfold Reported
  rw [not_exists]
  exact forall_congr' fun i => not_or

theorem names_false_iff (s : State) (k : CellIndex) :
    s.exc.names k = false ↔ (∀ d : OrderChannel, (s.orderRow d).current ≠ some k) ∧ ¬Reported s k := by
  rw [names_iff, not_reported_iff]

theorem channelInv_iff (s : State) :
    ChannelInv s ↔
      (∀ c d : OrderChannel, ∀ k : CellIndex, c ≠ d → (s.orderRow c).current = some k → (s.orderRow d).current ≠ some k) ∧
        ∀ (c : OrderChannel) (k : CellIndex), (s.orderRow c).current = some k → ¬Reported s k := by
  simp only [not_reported_iff]
  exact ⟨fun ⟨ha, hb⟩ => ⟨ha, fun c k h i => hb c i k h⟩, fun ⟨ha, hb⟩ => ⟨ha, fun c i k h => hb c k h i⟩⟩

/-- From s to t the current cells stay, and a report channel names no cell that none named before, but for some. -/
structure NamesFrom (new : CellIndex → Prop) (s t : State) : Prop where
  current : ∀ d : OrderChannel, (t.orderRow d).current = (s.orderRow d).current
  reported : ∀ k : CellIndex, Reported t k → Reported s k ∨ new k

namespace NamesFrom

variable {new : CellIndex → Prop} {s t u : State}

theorem of_rows (hrows : ∀ d : OrderChannel, (t.orderRow d).current = (s.orderRow d).current)
    (hpublished : ∀ i : Fin 8, (t.reportRow i).published = (s.reportRow i).published)
    (hheld : ∀ i : Fin 8, (t.reportRow i).held = (s.reportRow i).held) : NamesFrom new s t := by
  refine ⟨hrows, fun k ⟨i, h⟩ => .inl ⟨i, ?_⟩⟩
  rwa [hpublished, hheld] at h

theorem of_table (h : TableKept s t) : NamesFrom new s t :=
  of_rows (fun d => by rw [h.orderRow d]) h.published h.held

theorem of_exc (h : t.exc = s.exc) : NamesFrom new s t := of_table (.of_exc h)

theorem refl (s : State) : NamesFrom new s s := .of_exc rfl

theorem trans (h : NamesFrom new s t) (k : NamesFrom new t u) : NamesFrom new s u where
  current d := (k.current d).trans (h.current d)
  reported j hj := (k.reported j hj).elim (h.reported j) .inr

/-- The same, the later operation first. -/
theorem after (k : NamesFrom new t u) (h : NamesFrom new s t) : NamesFrom new s u := h.trans k

theorem ite {p : Prop} [Decidable p] (h : p → NamesFrom new s t) (k : ¬p → NamesFrom new s u) :
    NamesFrom new s (if p then t else u) := by
  split
  · exact h ‹_›
  · exact k ‹_›

/-- One order row replaced by a row with the same current cell. -/
theorem of_setOrderRow {c : OrderChannel} {r : OrderRow} (h : r.current = (s.orderRow c).current) :
    NamesFrom new s (setOrderRow c r s) := by
  refine of_rows (fun d => ?_) (fun _ => rfl) fun _ => rfl
  by_cases hd : d = c
  · subst hd
    rw [setOrderRow_row_same, h]
  · rw [setOrderRow_row_other s r hd]

/-- One report row replaced. -/
theorem of_setReportRow {i : Fin 8} {r : ReportRow}
    (h : ∀ k, r.published = some k ∨ r.held = some k → Reported s k ∨ new k) : NamesFrom new s (setReportRow i r s) := by
  refine ⟨fun _ => rfl, fun k ⟨j, hj⟩ => ?_⟩
  by_cases hji : j = i
  · subst hji
    rw [setReportRow_row_same] at hj
    exact h k hj
  · rw [setReportRow_row_other r s hji] at hj
    exact .inl ⟨j, hj⟩

/-- A cell that the table does not name, and that no report channel newly names, is named by none after. -/
theorem unnamed (h : NamesFrom new s t) {k : CellIndex} (hk : s.exc.names k = false) (hnew : ¬new k) :
    t.exc.names k = false := by
  obtain ⟨horders, hreports⟩ := (names_false_iff s k).1 hk
  exact (names_false_iff t k).2 ⟨fun d => by rw [h.current d]; exact horders d,
    fun hr => (h.reported k hr).elim hreports hnew⟩

/-- The rule of the channel table is kept where report channels newly name unnamed cells alone. -/
theorem channelInv (h : NamesFrom new s t) (hinv : ChannelInv s) (hnew : ∀ k, new k → s.exc.names k = false) :
    ChannelInv t := by
  obtain ⟨hdistinct, hunreported⟩ := (channelInv_iff s).1 hinv
  refine (channelInv_iff t).2 ⟨fun c d k hcd hc => ?_, fun c k hc hr => ?_⟩
  · rw [h.current] at hc ⊢
    exact hdistinct c d k hcd hc
  · rw [h.current] at hc
    obtain hs | hs := h.reported k hr
    · exact hunreported c k hc hs
    · exact ((names_false_iff s k).1 (hnew k hs)).1 c hc

end NamesFrom

/-- From s to t the table names no cell anew. -/
abbrev NamesKept (s t : State) : Prop := NamesFrom (fun _ => False) s t

theorem NamesFrom.kept_channelInv {s t : State} (h : NamesKept s t) (hinv : ChannelInv s) : ChannelInv t :=
  h.channelInv hinv fun _ => False.elim

/-! ## The sweep (R169 to R174, R179) -/

section
variable {s : State}

theorem vcWrites_namesKept (ws : List VcWrite) (s : State) : NamesKept s (vcWrites ws s) := .of_exc rfl

theorem recordOutcome_namesKept (c : OrderChannel) (cell : Nat) (sequence : Word) (code : OutcomeCode) (f : DetailFlags)
    (s : State) : NamesKept s (recordOutcome c cell sequence code f s) := by
  have hrow : NamesKept s (setOrderRow c ((s.orderRow c).withOutcome c cell sequence code f) s) := .of_setOrderRow rfl
  exact hrow.trans (.of_exc rfl)

theorem refuseOrder_namesKept (c : OrderChannel) (k : CellIndex) (hd : CellHeader) (code : OutcomeCode) (f : DetailFlags)
    (s : State) : NamesKept s (refuseOrder c k hd code f s).1 :=
  (recordOutcome_namesKept _ _ _ _ _ _).after (.of_exc (refuseCell_exc s k hd code))

/-- The taken cell was in nobody's row, and the row of the taking channel names it alone. -/
theorem takeCell_channelInv {c : OrderChannel} {k : CellIndex} (code : OutcomeCode) (h : ChannelInv s)
    (hk : s.exc.names k = false) : ChannelInv (takeCell c k code s) := by
  obtain ⟨hdistinct, hunreported⟩ := (channelInv_iff s).1 h
  obtain ⟨horders, hreports⟩ := (names_false_iff s k).1 hk
  have hsame : ((takeCell c k code s).orderRow c).current = some k := by rw [takeCell_row_same]
  have hother {d : OrderChannel} (hd : d ≠ c) : ((takeCell c k code s).orderRow d).current = (s.orderRow d).current := by
    rw [takeCell_row_other s k code hd]
  have hreported (j : CellIndex) : Reported (takeCell c k code s) j ↔ Reported s j := by
    unfold Reported
    simp only [takeCell_reportRow]
  refine (channelInv_iff _).2 ⟨fun d e j hde hd he => ?_, fun d j hd hr => ?_⟩
  · by_cases hdc : d = c
    · subst hdc
      rw [hsame] at hd
      rw [hother (Ne.symm hde)] at he
      exact horders e (he.trans hd.symm)
    · rw [hother hdc] at hd
      by_cases hec : e = c
      · subst hec
        rw [hsame] at he
        exact horders d (hd.trans he.symm)
      · rw [hother hec] at he
        exact hdistinct d e j hde hd he
  · rw [hreported] at hr
    by_cases hdc : d = c
    · subst hdc
      rw [hsame] at hd
      exact hreports (Option.some.inj hd ▸ hr)
    · rw [hother hdc] at hd
      exact hunreported d j hd hr

theorem handToOwner_channelInv {c : OrderChannel} {k : CellIndex} (hd : CellHeader) (f : DetailFlags) (n : Nat)
    (h : ChannelInv s) (hk : s.exc.names k = false) : ChannelInv (handToOwner c k hd f n s).1 := by
  unfold handToOwner
  split
  case h_1 => exact (refuseOrder_namesKept _ _ _ _ _ _).kept_channelInv h
  case h_2 added t ht =>
    have hanswer : NamesKept s t := .of_table (answer_frame ht).table
    exact (recordOutcome_namesKept _ _ _ _ _ _).kept_channelInv
      (takeCell_channelInv _ (hanswer.kept_channelInv h) (hanswer.unnamed hk id))

theorem examineCell_channelInv (mid : List VcWrite) (c : OrderChannel) (k : CellIndex) (h : ChannelInv s) :
    ChannelInv (examineCell mid c k s).1 := by
  have hread : NamesKept s (vcWrites mid (rewriteChannel c k s)) :=
    (vcWrites_namesKept mid _).after (.of_exc (rewriteChannel_exc c s k))
  unfold examineCell
  dsimp only
  split
  case h_1 => exact (refuseOrder_namesKept _ _ _ _ _ _).kept_channelInv ((vcWrites_namesKept mid s).kept_channelInv h)
  case h_2 hfirst =>
    obtain ⟨-, hk, -⟩ := firstRefusal_eq_none_iff.1 hfirst
    split
    case h_1 => exact (refuseOrder_namesKept _ _ _ _ _ _).kept_channelInv (hread.kept_channelInv h)
    case h_2 => exact handToOwner_channelInv _ _ _ (hread.kept_channelInv h) (hread.unnamed hk id)

theorem examine_channelInv (mid : List VcWrite) (c : OrderChannel) (w : Word) (h : ChannelInv s) :
    ChannelInv (examine mid c w s).1 := by
  unfold examine
  split
  case h_1 => exact (recordOutcome_namesKept _ _ _ _ _ _).kept_channelInv ((vcWrites_namesKept mid s).kept_channelInv h)
  case h_2 k _ => exact examineCell_channelInv mid c k h

theorem clearPending_namesKept (c : OrderChannel) (w : Word) (s : State) : NamesKept s (clearPending c w s) :=
  .ite (fun _ => .of_exc rfl) fun _ => .refl s

theorem orderTurn_channelInv (late : List LateWrite) (c : OrderChannel) {t : State × Bool} (h : ChannelInv t.1) :
    ChannelInv (orderTurn late c t).1 := by
  have hwritten (ws : List VcWrite) {u : State} (hu : ChannelInv u) : ChannelInv (vcWrites ws u) :=
    (vcWrites_namesKept ws u).kept_channelInv hu
  unfold orderTurn
  dsimp only
  split
  case isTrue => exact hwritten _ (hwritten _ (hwritten _ h))
  case isFalse =>
    exact (clearPending_namesKept c _ _).kept_channelInv (hwritten _ (examine_channelInv _ c _ (hwritten _ h)))

theorem orderTurns_channelInv (late : List LateWrite) (cs : List OrderChannel) {t : State × Bool} (h : ChannelInv t.1) :
    ChannelInv (orderTurns late cs t).1 := by
  induction cs generalizing t with
  | nil => exact h
  | cons c cs ih => exact ih (orderTurn_channelInv late c h)

theorem releaseHold_namesKept (i : Fin 8) (s : State) : NamesKept s (releaseHold i s) := by
  unfold releaseHold
  split
  · exact .refl s
  · refine .ite (fun _ => .refl s) fun _ => ?_
    have hspared (k : CellIndex) : NamesKept s (setCellState k cellSpare s) := .of_exc rfl
    refine (hspared _).trans (.of_setReportRow fun k hk => .inl ⟨i, .inl (hk.resolve_right nofun)⟩)

theorem releaseHolds_namesKept (is : List (Fin 8)) (s : State) : NamesKept s (releaseHolds is s) := by
  induction is generalizing s with
  | nil => exact .refl s
  | cons i is ih => exact (releaseHold_namesKept i s).trans (ih _)

/-- Steps 2 to 4 of a sweep, and the publication request after them. -/
theorem sweepEnd_namesKept (written : Bool) (s : State) :
    NamesKept s (askOrderResult written (countSweep (rewrites (releaseHolds allReportRows s)))) := by
  have hrewrites (u : State) : NamesKept u (rewrites u) := .of_exc (rewriteStatus_exc _)
  have hcount (u : State) : NamesKept u (countSweep u) := .of_rows (fun _ => rfl) (fun _ => rfl) fun _ => rfl
  have hask (u : State) : NamesKept u (askOrderResult written u) :=
    .ite (fun _ => .of_table (requestReport_tableKept 5 u)) fun _ => .refl u
  exact (((releaseHolds_namesKept _ s).trans (hrewrites _)).trans (hcount _)).trans (hask _)

theorem intakeSweep_channelInv (late : List LateWrite) (h : ChannelInv s) : ChannelInv (intakeSweep late s) :=
  (sweepEnd_namesKept _ _).kept_channelInv (orderTurns_channelInv late OrderChannel.all (t := (s, false)) h)

/-! ## The report frame (R175 to R178) -/

/-- A chosen cell is one that the table does not name (R177). -/
theorem choose_unnamed {c : ReportChannel} {e : Exc} {ks : List CellIndex} {p q : Port} {k : CellIndex}
    (h : choose c e ks p = (q, some k)) : e.names k = false := by
  induction ks generalizing p with
  | nil => simp [choose] at h
  | cons j ks ih =>
    unfold choose at h
    split at h
    case isTrue hj =>
      split at h
      · cases h
        simp only [candidate, Bool.and_eq_true, Bool.not_eq_true'] at hj
        exact hj.2
      · exact ih h
    case isFalse => exact ih h

theorem outgoing_namesFrom {new : CellIndex → Prop} {c : ReportChannel} {prev : Option CellIndex}
    (hprev : ∀ o, prev = some o → new o) (s : State) : NamesFrom new s (outgoing c prev s) := by
  have hstate (x : CellIndex) (y : Nat) (u : State) : NamesFrom new u (setCellState x y u) := .of_exc rfl
  have hheld (o : CellIndex) (ho : new o) : NamesFrom new s (holdOutgoing c o s) :=
    (hstate o cellHeld s).trans (.of_setReportRow fun k hk =>
      hk.elim (fun hp => .inl ⟨c.row, .inl hp⟩) fun he => .inr (Option.some.inj he ▸ ho))
  cases prev with
  | none => exact .refl s
  | some o =>
    obtain ⟨-, e⟩ | ⟨-, -, e⟩ | ⟨l, -, -, e⟩ := outgoing_cases c o s <;> rw [e]
    · exact hstate _ _ s
    · exact hheld o (hprev o rfl)
    · exact (hheld o (hprev o rfl)).trans (hstate _ _ _)

theorem writeHeader_namesFrom {new : CellIndex → Prop} (c : ReportChannel) {k : CellIndex} (hk : new k) (length : Nat)
    (s : State) : NamesFrom new s (writeHeader c k length s) := by
  have hport (u : State) (p : Port) : NamesFrom new u { u with port := p } := .of_exc rfl
  have hsequence (u : State) (q : Word) :
      NamesFrom new u (setReportRow c.row { u.reportRow c.row with sequence := q } u) :=
    .of_setReportRow fun j hj => .inl ⟨c.row, hj⟩
  have hpublished (u : State) : NamesFrom new u (setReportRow c.row { u.reportRow c.row with published := some k } u) :=
    .of_setReportRow fun j hj => hj.elim (fun e => .inr (Option.some.inj e ▸ hk)) fun he => .inl ⟨c.row, .inr he⟩
  unfold writeHeader
  exact (hport _ _).after ((hpublished _).after ((hport _ _).after ((hsequence _ _).after ((hport _ _).after
    ((hport _ _).after (hport s _))))))

/-- The cells a filling may name anew: the filled one, and the outgoing one. -/
theorem fill_namesFrom (late : List VcWrite) (c : ReportChannel) (k : CellIndex) (s : State) :
    NamesFrom (fun j => j = k) s (fill late c k s) := by
  have hstarted : NamesFrom (fun j => j = k ∨ Reported s j) s (moveCursor c (startFilling c s)) :=
    (NamesFrom.of_exc (moveCursor_exc c _)).after (.of_setReportRow fun j hj => .inl ⟨c.row, hj⟩)
  have hpaid (u : State) : NamesFrom (fun j => j = k ∨ Reported s j) u (vcWrites late (writePayload c k u)) := .of_exc rfl
  have hdone (u : State) : NamesFrom (fun j => j = k ∨ Reported s j) u (orderDone c u) := by
    cases c <;> exact .of_exc rfl
  have hprev (o : CellIndex) (ho : (s.reportRow c.row).published = some o) : o = k ∨ Reported s o := .inr ⟨c.row, .inl ho⟩
  obtain ⟨hcurrent, hreported⟩ := (((hstarted.trans (hpaid _)).trans (writeHeader_namesFrom c (.inl rfl) _ _)).trans
    (outgoing_namesFrom (c := c) hprev _)).trans (hdone _)
  exact ⟨hcurrent, fun j hj => (hreported j hj).elim .inl Or.symm⟩

theorem publish_channelInv (late : List VcWrite) (c : ReportChannel) (h : ChannelInv s) :
    ChannelInv (publish late c s) := by
  have hskips (u : State) (n : Nat) : NamesKept u (setReportRow c.row { u.reportRow c.row with skips := n } u) :=
    .of_setReportRow fun j hj => .inl ⟨c.row, hj⟩
  have hskip (u : State) : NamesKept u (skip c u) := (hskips u _).trans (.of_exc rfl)
  obtain ⟨q, k, hq, -⟩ | ⟨q, hq, -⟩ := choose_cases c s
  all_goals have hpassed : ChannelInv { s with port := q } := h
  · rw [publish_chosen hq]
    refine (fill_namesFrom late c k _).channelInv hpassed fun j hj => ?_
    subst hj
    exact choose_unnamed hq
  · rw [publish_unfilled hq]
    exact (vcWrites_namesKept late _).kept_channelInv ((hskip _).kept_channelInv hpassed)

theorem reportTurn_channelInv (late : List LateWrite) (c : ReportChannel) (h : ChannelInv s) :
    ChannelInv (reportTurn late c s) := by
  have hwritten (ws : List VcWrite) {u : State} (hu : ChannelInv u) : ChannelInv (vcWrites ws u) :=
    (vcWrites_namesKept ws u).kept_channelInv hu
  unfold reportTurn
  split
  · exact hwritten _ (publish_channelInv _ c (hwritten _ h))
  · exact hwritten _ (hwritten _ (hwritten _ h))

theorem reportTurns_channelInv (late : List LateWrite) (cs : List ReportChannel) (h : ChannelInv s) :
    ChannelInv (reportTurns late cs s) := by
  induction cs generalizing s with
  | nil => exact h
  | cons c cs ih => exact ih (reportTurn_channelInv late c h)

theorem reportFrame_channelInv (late : List LateWrite) (h : ChannelInv s) : ChannelInv (reportFrame late s) :=
  reportTurns_channelInv late _ (s := countFrame s) h

/-! ## The resets -/

/-- A reset empties the table (R168). -/
theorem channelInv_of_reset (h : s.exc = Exc.reset) : ChannelInv s := by
  have horder (c : OrderChannel) : (s.orderRow c).current = none := by
    unfold State.orderRow
    rw [h]
    cases c <;> rfl
  refine ⟨fun c _ k _ hc => ?_, fun c _ k hc => ?_⟩ <;> rw [horder c] at hc <;> cases hc

theorem endOfReset_exc (kind : ResetCause) (s : State) : (endOfReset kind s).exc = Exc.reset := by
  cases kind
  case keepPowerUp => exact (rewriteStatus_exc _).trans ((resetRaisings_exc _).trans (retainedLost_exc _))
  case mainPowerUp => exact endOfKeptReset_exc _ s
  case pin => exact endOfKeptReset_exc _ s

theorem powerUp_channelInv (kind : ResetCause) (vkeep : Bool) (h : ChannelInv s) : ChannelInv (powerUp kind vkeep s) := by
  cases hreset : s.supply.resetAsserted
  · rw [powerUp_free kind vkeep hreset]
    exact channelInv_of_reset (endOfReset_exc kind _)
  · rw [powerUp_held kind vkeep hreset]
    exact h

theorem releaseReset_channelInv (h : ChannelInv s) : ChannelInv (releaseReset s) := by
  unfold releaseReset
  dsimp only
  split
  · exact channelInv_of_reset (endOfReset_exc _ _)
  · exact h

/-! ## Every command -/

theorem exec_channelInv {c : Instr} {t : State} (ht : exec c s = .next t) (h : ChannelInv s) : ChannelInv t := by
  have hpowered (ws : List VcWrite) {u : State} (hu : ChannelInv u) : ChannelInv (vcWritesPowered ws u) :=
    (NamesFrom.ite (fun _ => vcWrites_namesKept ws u) fun _ => .refl u).kept_channelInv hu
  cases c
  case keepPowerUp => cases ht; exact powerUp_channelInv _ _ h
  case mainPowerUp => cases ht; exact powerUp_channelInv _ _ h
  case pinReset => cases ht; exact releaseReset_channelInv h
  case resetAsserted => cases ht; exact h
  case mainSupplyLoss => cases ht; exact h
  case keepSupplyLoss => cases ht; exact h
  case registerWriteIgnored => cases ht; exact hpowered _ h
  case intakeSweep writes late =>
    unfold exec execIntakeSweep at ht
    cases ht
    split
    · exact intakeSweep_channelInv late (hpowered writes h)
    · exact hpowered _ (hpowered writes h)
  case reportFrame writes late =>
    unfold exec execReportFrame at ht
    cases ht
    split
    · exact reportFrame_channelInv late (hpowered writes h)
    · exact hpowered _ (hpowered writes h)
  all_goals exact NamesFrom.kept_channelInv (.of_table (event_tableKept rfl ht)) h

end

/-- Settles O57, by the cells that each part of a sweep and of a report frame names anew, which the table did not name. -/
theorem stepKeepsChannelInv : Obligations.StepKeepsChannelInv := by
  intro s t h hstep
  unfold step at hstep
  split at hstep
  case h_1 => cases hstep; exact h
  case h_2 c rest _ => exact exec_channelInv (s := s.withPending rest) hstep h

end Sys2Proof.Machine
end

section
/-! PROOF. Steps 2 to 4 of a sweep: the cells they release, the directory and the status block as they show the records
(R167, R169, R179, R180). -/

namespace Sys2Proof.Machine

open Sys2Proof

/-! ## EXC's own changes -/

/-- From s to t EXC's records and the port change, and nothing else. -/
def ExcOnly (s t : State) : Prop := t = { s with exc := t.exc, port := t.port }

namespace ExcOnly

variable {s t u : State}

theorem intro (e : Exc) (p : Port) : ExcOnly s { s with exc := e, port := p } := rfl

theorem refl (s : State) : ExcOnly s s := rfl

theorem trans (h : ExcOnly s t) (k : ExcOnly t u) : ExcOnly s u := by
  unfold ExcOnly at *
  rw [k, h]

/-- The same, the later operation first. -/
theorem after (k : ExcOnly t u) (h : ExcOnly s t) : ExcOnly s u := h.trans k

theorem ite {p : Prop} [Decidable p] (h : p → ExcOnly s t) (k : ¬p → ExcOnly s u) : ExcOnly s (if p then t else u) := by
  split
  · exact h ‹_›
  · exact k ‹_›

end ExcOnly

/-! ## Words written at several addresses -/

/-- Words written one after the other, each at its address. -/
def Port.writeAll (p : Port) (ws : List (Nat × Word)) : Port := ws.foldl (fun q w => q.setWord w.1 w.2) p

theorem Port.byteAt_writeAll_other (p : Port) {ws : List (Nat × Word)} {a : Nat}
    (h : ∀ x ∈ ws.map Prod.fst, a ≠ x ∧ a ≠ x + 1) : (p.writeAll ws).byteAt a = p.byteAt a := by
  induction ws generalizing p with
  | nil => rfl
  | cons w ws ih =>
    obtain ⟨⟨hlow, hhigh⟩, hrest⟩ := List.forall_mem_cons.1 h
    exact (ih _ hrest).trans (p.byteAt_setWord_other w.2 hlow hhigh)

theorem Port.writeAll_registers (p : Port) (ws : List (Nat × Word)) :
    (p.writeAll ws).attn = p.attn ∧ (p.writeAll ws).attnEn = p.attnEn ∧ (p.writeAll ws).powerUps = p.powerUps := by
  induction ws generalizing p with
  | nil => exact ⟨rfl, rfl, rfl⟩
  | cons w ws ih => exact ih _

/-- Words at ascending addresses that do not overlap all read as they were written. -/
theorem Port.wordAt_writeAll {p : Port} {ws : List (Nat × Word)} (hwf : Memory.wf p.ram = true)
    (happart : (ws.map Prod.fst).Pairwise fun x y => x + 1 < y) (hinside : ∀ x ∈ ws.map Prod.fst, x + 1 < ramBytes)
    {a : Nat} {v : Word} (hmem : (a, v) ∈ ws) : (p.writeAll ws).wordAt a = v := by
  induction ws generalizing p with
  | nil => cases hmem
  | cons w ws ih =>
    rw [List.map_cons] at happart hinside
    obtain ⟨hfirst, hapart⟩ := List.pairwise_cons.1 happart
    have hins (x : Nat) (hx : x ∈ ws.map Prod.fst) : x + 1 < ramBytes := hinside x (List.mem_cons_of_mem _ hx)
    obtain rfl | hmem := List.mem_cons.1 hmem
    · have hlater : ((p.setWord a v).writeAll ws).wordAt a = (p.setWord a v).wordAt a :=
        Port.wordAt_congr fun b hb => Port.byteAt_writeAll_other _ fun x hx => by
          have : a + 1 < x := hfirst x hx
          omega
      exact hlater.trans (p.wordAt_setWord_same v (hinside a List.mem_cons_self) hwf)
    · exact ih (p.wf_setWord _ _ hwf) hapart hins hmem

/-! ## The directory rewritten (R167) -/

/-- The part-owned words of an order channel's entry. -/
def orderWords (c : OrderChannel) (r : OrderRow) : List (Nat × Word) :=
  [(dirAddr c.number 0, indexWord r.current), (dirAddr c.number 2, r.takeCount),
    (dirAddr c.number 3, outcomeWord r.lastCode r.lastFlags)]

/-- The part-owned words of a report channel's entry. -/
def reportWords (i : Fin 8) (r : ReportRow) : List (Nat × Word) :=
  [(dirAddr (8 + i.val) 0, indexWord r.published), (dirAddr (8 + i.val) 3, natWord r.skips)]

/-- The part-owned words of the directory. -/
def directoryWords (e : Exc) : List (Nat × Word) :=
  OrderChannel.all.flatMap (fun c => orderWords c (e.orders.get c.number)) ++
    allReportRows.flatMap fun i => reportWords i (e.reports.get i)

/-- Where the part-owned words of the directory stand. -/
def directoryAddrs : List Nat :=
  OrderChannel.all.flatMap (fun c => [dirAddr c.number 0, dirAddr c.number 2, dirAddr c.number 3]) ++
    allReportRows.flatMap fun i => [dirAddr (8 + i.val) 0, dirAddr (8 + i.val) 3]

theorem directoryWords_addrs (e : Exc) : (directoryWords e).map Prod.fst = directoryAddrs := rfl

theorem Port.rewriteDirectory_eq (p : Port) (e : Exc) : p.rewriteDirectory e = p.writeAll (directoryWords e) := rfl

theorem directoryAddrs_apart : directoryAddrs.Pairwise fun x y => x + 1 < y := by decide

/-- The words that the vehicle controller owns are not among them: the pending words, and the hold and filter words. -/
theorem directoryAddrs_part :
    ∀ x ∈ directoryAddrs, x + 1 < 0x80 ∧ (x % 8 = 0 ∨ x % 8 = 6 ∨ (x % 8 = 4 ∧ x + 1 < 0x40)) := by decide

/-- A byte of a word of the vehicle controller's, or above the directory. -/
def DirectoryKeeps (a : Nat) : Prop := 0x80 ≤ a ∨ a % 8 = 2 ∨ a % 8 = 3 ∨ (0x40 ≤ a ∧ (a % 8 = 4 ∨ a % 8 = 5))

section
variable {p : Port} {e : Exc}

theorem Port.byteAt_rewriteDirectory_other {a : Nat} (h : DirectoryKeeps a) :
    (p.rewriteDirectory e).byteAt a = p.byteAt a := by
  rw [Port.rewriteDirectory_eq]
  refine Port.byteAt_writeAll_other p fun x hx => ?_
  rw [directoryWords_addrs] at hx
  have := directoryAddrs_part x hx
  unfold DirectoryKeeps at h
  omega

theorem Port.wordAt_rewriteDirectory {a : Nat} {v : Word} (h : Memory.wf p.ram = true) (hmem : (a, v) ∈ directoryWords e) :
    (p.rewriteDirectory e).wordAt a = v := by
  rw [Port.rewriteDirectory_eq]
  refine Port.wordAt_writeAll h ?_ ?_ hmem
  · rw [directoryWords_addrs]
    exact directoryAddrs_apart
  · intro x hx
    rw [directoryWords_addrs] at hx
    have := directoryAddrs_part x hx
    unfold ramBytes
    omega

theorem mem_directoryWords_order {c : OrderChannel} {w : Nat × Word} (h : w ∈ orderWords c (e.orders.get c.number)) :
    w ∈ directoryWords e :=
  List.mem_append_left _ (List.mem_flatMap.2 ⟨c, by cases c <;> decide, h⟩)

theorem mem_directoryWords_report {i : Fin 8} {w : Nat × Word} (h : w ∈ reportWords i (e.reports.get i)) :
    w ∈ directoryWords e :=
  List.mem_append_right _ (List.mem_flatMap.2 ⟨i, (by decide : ∀ j : Fin 8, j ∈ allReportRows) i, h⟩)

end

/-! ## Directory, status block and count (steps 3 and 4) -/

/-- Steps 3 and 4: directory and status block rewritten, and the sweep counted. -/
def rewriteAndCount (s : State) : State := countSweep (rewrites s)

theorem countSweep_eq (s : State) :
    countSweep s =
      { s with exc := { s.exc with sweepCount := s.exc.sweepCount + 1 },
               port := s.port.setStatus 3 (s.exc.sweepCount + 1) } := rfl

theorem rewriteStatus_eq (s : State) :
    rewriteStatus s = { s with port := s.port.setWords (statusAddr 0) (statusWords s) } := rfl

/-- The exchange RAM after step 3. -/
def rewrittenPort (s : State) : Port :=
  (s.port.rewriteDirectory s.exc).setWords (statusAddr 0) (statusWords { s with port := s.port.rewriteDirectory s.exc })

theorem rewrites_eq (s : State) : rewrites s = { s with port := rewrittenPort s } :=
  rewriteStatus_eq { s with port := s.port.rewriteDirectory s.exc }

section
variable {s : State}

theorem rewriteAndCount_eq (s : State) :
    rewriteAndCount s =
      { s with exc := { s.exc with sweepCount := s.exc.sweepCount + 1 },
               port := (rewrittenPort s).setStatus 3 (s.exc.sweepCount + 1) } := by
  rw [rewriteAndCount, countSweep_eq, rewrites_eq]

theorem rewriteAndCount_port (s : State) :
    (rewriteAndCount s).port = (rewrittenPort s).setStatus 3 (s.exc.sweepCount + 1) := by rw [rewriteAndCount_eq]

theorem rewriteAndCount_registers (s : State) :
    (rewriteAndCount s).port.attn = s.port.attn ∧ (rewriteAndCount s).port.attnEn = s.port.attnEn ∧
      (rewriteAndCount s).port.powerUps = s.port.powerUps := by
  rw [rewriteAndCount_port, Port.setStatus_attn, Port.setStatus_attnEn, Port.setStatus_powerUps, rewrittenPort,
    Port.setWords_attn, Port.setWords_attnEn, Port.setWords_powerUps, Port.rewriteDirectory_eq]
  exact s.port.writeAll_registers (directoryWords s.exc)

theorem rewriteAndCount_memoryInv (h : MemoryInv s) : MemoryInv (rewriteAndCount s) :=
  countSweep_memoryInv (rewrites_memoryInv h)

/-- Outside the status block the sweep's last steps write the directory alone. -/
theorem rewriteAndCount_byteAt_outside {a : Nat} (h : ¬(0x80 ≤ a ∧ a < 0x100)) :
    (rewriteAndCount s).port.byteAt a = (s.port.rewriteDirectory s.exc).byteAt a := by
  have hlength : (statusWords { s with port := s.port.rewriteDirectory s.exc }).length = 64 := rfl
  rw [rewriteAndCount_port, Port.setStatus, rewrittenPort,
    Port.byteAt_setWord_other _ _ (by unfold statusAddr; omega) (by unfold statusAddr; omega),
    Port.byteAt_setWords_other _ _ (by rw [hlength]; unfold statusAddr; omega)]

/-- Outside the status block and the part-owned words of the directory no byte changes. -/
theorem rewriteAndCount_byteAt {a : Nat} (hstatus : ¬(0x80 ≤ a ∧ a < 0x100)) (hdirectory : DirectoryKeeps a) :
    (rewriteAndCount s).port.byteAt a = s.port.byteAt a := by
  rw [rewriteAndCount_byteAt_outside hstatus, Port.byteAt_rewriteDirectory_other hdirectory]

/-- The part-owned words of the directory read as the channel table gives them. -/
theorem rewriteAndCount_directory (h : MemoryInv s) {a : Nat} {v : Word} (hmem : (a, v) ∈ directoryWords s.exc) :
    (rewriteAndCount s).port.wordAt a = v := by
  have haddr := (directoryAddrs_part a (directoryWords_addrs s.exc ▸ List.mem_map_of_mem hmem)).1
  refine Eq.trans (Port.wordAt_congr fun b hb => rewriteAndCount_byteAt_outside ?_) (Port.wordAt_rewriteDirectory h hmem)
  omega

/-- The words of the status block but for the count are those of the records. -/
theorem rewrittenPort_status (h : MemoryInv s) {i : Nat} (hi : i < (statusWords s).length) :
    (rewrittenPort s).wordAt (statusAddr i) = (statusWords s)[i] := by
  have hattn : (s.port.rewriteDirectory s.exc).attn = s.port.attn := by
    rw [Port.rewriteDirectory_eq]
    exact (s.port.writeAll_registers _).1
  have hwords : statusWords { s with port := s.port.rewriteDirectory s.exc } = statusWords s := by
    unfold statusWords
    rw [hattn]
  have hlength : (statusWords s).length = 64 := rfl
  have hread := Port.wordAt_setWords_get (s.port.rewriteDirectory s.exc) (a := statusAddr 0) (statusWords s) hi
    (by rw [hlength]; decide) (s.port.wf_rewriteDirectory s.exc h)
  rw [rewrittenPort, hwords]
  exact hread

/-- Of the words of the status block the count alone differs before and after the sweep is counted. -/
theorem statusWords_counted (s : State) (p : Port) (hattn : p.attn = s.port.attn) (n : Word) :
    statusWords { s with exc := { s.exc with sweepCount := n }, port := p } = (statusWords s).set 3 n := by
  unfold statusWords
  rw [hattn]
  rfl

/-- The words of the status block are those of the records once the sweep is counted (log 22). -/
theorem rewriteAndCount_status (h : MemoryInv s) {i : Nat} (hi : i < (statusWords (rewriteAndCount s)).length) :
    (rewriteAndCount s).port.wordAt (statusAddr i) = (statusWords (rewriteAndCount s))[i] := by
  have hlength : (statusWords s).length = 64 := rfl
  have hlength' : (statusWords (rewriteAndCount s)).length = 64 := rfl
  have hwf : Memory.wf (rewrittenPort s).ram = true := by
    have := rewrites_memoryInv h
    rwa [rewrites_eq] at this
  have hwords : statusWords (rewriteAndCount s) = (statusWords s).set 3 (s.exc.sweepCount + 1) := by
    rw [rewriteAndCount_eq]
    refine statusWords_counted s _ ?_ _
    rw [← rewriteAndCount_port]
    exact (rewriteAndCount_registers s).1
  simp only [hwords]
  rw [rewriteAndCount_port, Port.setStatus, List.getElem_set]
  split
  case isTrue h3 =>
    subst h3
    exact Port.wordAt_setWord_same _ _ (by decide) hwf
  case isFalse h3 =>
    rw [Port.wordAt_setWord_other _ _ (by unfold statusAddr; omega)]
    exact rewrittenPort_status h _

end

end Sys2Proof.Machine
end

section
/-! PROOF. Hold release, the end of a sweep, and a sweep that finds nothing pending (R169, R179). -/

namespace Sys2Proof.Machine

open Sys2Proof

/-! ## A cell's state changed, its outcome code left (log 21) -/

theorem Port.byteAt_setWord_high (p : Port) {a : Nat} (w : Word) (ha : a + 1 < ramBytes) (h : Memory.wf p.ram = true) :
    (p.setWord a w).byteAt (a + 1) = (w >>> 8).setWidth 8 :=
  (p.setByte a (w.setWidth 8)).byteAt_setByte_same _ ha (p.wf_setByte _ _ h)

/-- The high byte of a word is the byte at the higher address (log 6). -/
theorem Port.wordAt_high (p : Port) (a : Nat) : (p.wordAt a).toNat / 256 = (p.byteAt (a + 1)).toNat := by
  have hlow := (p.byteAt a).isLt
  unfold Port.wordAt
  rw [BitVec.toNat_append, ← Nat.shiftLeft_add_eq_or_of_lt hlow, Nat.shiftLeft_eq]
  omega

/-- The high byte of a packed word is its second byte. -/
theorem packBytes_high (x : Nat) {y : Nat} (h : y < 256) : ((packBytes x y >>> 8).setWidth 8 : Byte).toNat = y := by
  rw [BitVec.toNat_setWidth, BitVec.toNat_ushiftRight, Nat.shiftRight_eq_div_pow]
  unfold packBytes
  rw [BitVec.toNat_ofNat]
  omega

theorem Port.byteAt_setCellState_other (p : Port) {k : CellIndex} (x : Nat) {a : Nat} (ha : a ≠ headerAddr k 1)
    (h : Memory.wf p.ram = true) : (p.setCellState k x).byteAt a = p.byteAt a := by
  by_cases hhigh : a = headerAddr k 1 + 1
  · have hinside := headerAddr_inside k (j := 1) (by decide)
    have hcode := (p.byteAt (headerAddr k 1 + 1)).isLt
    subst hhigh
    refine BitVec.eq_of_toNat_eq ?_
    unfold Port.setCellState Port.setCell
    rw [Port.byteAt_setWord_high _ _ (by unfold ramBytes; omega) h, p.wordAt_high, packBytes_high _ hcode]
  · exact p.byteAt_setCell_other _ _ ⟨ha, hhigh⟩

/-! ## Hold release (R179) -/

/-- The cell is held by report channel 8 + i, and its hold word does not name it. -/
def Released (s : State) (i : Fin 8) (k : CellIndex) : Prop :=
  (s.reportRow i).held = some k ∧ holdNames s.port i k = false

/-- The row of report channel 8 + i after hold release. -/
def releasedRow (p : Port) (i : Fin 8) (r : ReportRow) : ReportRow :=
  match r.held with
  | none => r
  | some k => if holdNames p i k then r else { r with held := none }

section
variable {s t : State} {i : Fin 8}

theorem releasedRow_none {p : Port} {r : ReportRow} (h : r.held = none) : releasedRow p i r = r := by
  unfold releasedRow
  rw [h]

theorem releasedRow_some {p : Port} {r : ReportRow} {k : CellIndex} (h : r.held = some k) :
    releasedRow p i r = if holdNames p i k then r else { r with held := none } := by
  unfold releasedRow
  rw [h]

/-- Hold release keeps all of a row but the held cell. -/
theorem releasedRow_shows (p : Port) (i : Fin 8) (r : ReportRow) :
    (releasedRow p i r).published = r.published ∧ (releasedRow p i r).skips = r.skips := by
  unfold releasedRow
  split
  · exact ⟨rfl, rfl⟩
  · split <;> exact ⟨rfl, rfl⟩

theorem releaseHold_cases (i : Fin 8) (s : State) :
    ((∀ k, ¬Released s i k) ∧ releaseHold i s = s ∧ releasedRow s.port i (s.reportRow i) = s.reportRow i) ∨
      ∃ k, Released s i k ∧
        releaseHold i s = setReportRow i (releasedRow s.port i (s.reportRow i)) (setCellState k cellSpare s) := by
  unfold releaseHold
  cases hheld : (s.reportRow i).held with
  | none => exact .inl ⟨fun k hk => (nomatch hheld.symm.trans hk.1), rfl, releasedRow_none hheld⟩
  | some k =>
    rw [releasedRow_some hheld]
    dsimp only
    cases hnames : holdNames s.port i k with
    | true =>
      refine .inl ⟨fun j hj => ?_, rfl, rfl⟩
      obtain rfl := Option.some.inj (hheld.symm.trans hj.1)
      exact nomatch hnames.symm.trans hj.2
    | false => exact .inr ⟨k, ⟨hheld, hnames⟩, rfl⟩

theorem releaseHold_row_same (i : Fin 8) (s : State) :
    (releaseHold i s).reportRow i = releasedRow s.port i (s.reportRow i) := by
  obtain ⟨-, h, hrow⟩ | ⟨k, -, h⟩ := releaseHold_cases i s <;> rw [h]
  · exact hrow.symm
  · exact setReportRow_row_same _ _ _

theorem releaseHold_row_other {j : Fin 8} (h : j ≠ i) : (releaseHold i s).reportRow j = s.reportRow j := by
  obtain ⟨-, e, -⟩ | ⟨k, -, e⟩ := releaseHold_cases i s <;> rw [e]
  exact setReportRow_row_other _ _ h

theorem releaseHold_byteAt (hwf : MemoryInv s) {a : Nat} (h : ∀ k, Released s i k → a ≠ headerAddr k 1) :
    (releaseHold i s).port.byteAt a = s.port.byteAt a := by
  obtain ⟨-, e, -⟩ | ⟨k, hk, e⟩ := releaseHold_cases i s <;> rw [e]
  exact s.port.byteAt_setCellState_other _ (h k hk) hwf

/-- The hold words stand in the directory, below the headers. -/
theorem releaseHold_holdNames (i j : Fin 8) (s : State) (k : CellIndex) :
    holdNames (releaseHold i s).port j k = holdNames s.port j k := by
  obtain ⟨-, e, -⟩ | ⟨l, -, e⟩ := releaseHold_cases i s <;> rw [e]
  have hinside := headerAddr_inside l (j := 1) (by decide)
  have hword : (s.port.setCellState l cellSpare).wordAt (dirAddr (8 + j.val) 1) = s.port.wordAt (dirAddr (8 + j.val) 1) :=
    s.port.wordAt_setWord_other _ (.inl (by unfold dirAddr; omega))
  unfold holdNames
  exact congrArg (fun w => decide (w = indexWord (some k))) hword

/-- A SPARE cell stays SPARE. -/
theorem releaseHold_spare (hwf : MemoryInv s) {k : CellIndex}
    (h : s.port.cellState k = cellSpare ∨ Released s i k) : (releaseHold i s).port.cellState k = cellSpare := by
  obtain ⟨hnone, e, -⟩ | ⟨l, hl, e⟩ := releaseHold_cases i s <;> rw [e]
  · exact h.resolve_right (hnone k)
  · by_cases hlk : l = k
    · subst hlk
      exact s.port.cellState_setCellState_same l (by decide) hwf
    · refine (s.port.cellState_setCellState_other _ hlk).trans (h.resolve_right fun hk => hlk ?_)
      exact Option.some.inj (hl.1.symm.trans hk.1)

theorem releaseHold_released {j : Fin 8} (h : j ≠ i) (k : CellIndex) :
    Released (releaseHold i s) j k ↔ Released s j k := by
  unfold Released
  rw [releaseHold_row_other h, releaseHold_holdNames]

/-- Hold release changes the report rows and the exchange RAM alone. -/
structure HoldFrame (s t : State) : Prop where
  only : t = { s with exc := { s.exc with reports := t.exc.reports }, port := t.port }
  attn : t.port.attn = s.port.attn
  attnEn : t.port.attnEn = s.port.attnEn
  powerUps : t.port.powerUps = s.port.powerUps

theorem HoldFrame.trans {u : State} (h : HoldFrame s t) (k : HoldFrame t u) : HoldFrame s u where
  only := by rw [k.only, h.only]
  attn := k.attn.trans h.attn
  attnEn := k.attnEn.trans h.attnEn
  powerUps := k.powerUps.trans h.powerUps

theorem releaseHold_frame (i : Fin 8) (s : State) : HoldFrame s (releaseHold i s) := by
  obtain ⟨-, e, -⟩ | ⟨l, -, e⟩ := releaseHold_cases i s <;> rw [e] <;> exact ⟨rfl, rfl, rfl, rfl⟩

theorem releaseHolds_frame (is : List (Fin 8)) (s : State) : HoldFrame s (releaseHolds is s) := by
  induction is generalizing s with
  | nil => exact ⟨rfl, rfl, rfl, rfl⟩
  | cons i is ih => exact (releaseHold_frame i s).trans (ih _)

theorem releaseHolds_row_other {is : List (Fin 8)} {j : Fin 8} (h : j ∉ is) :
    (releaseHolds is s).reportRow j = s.reportRow j := by
  induction is generalizing s with
  | nil => rfl
  | cons i is ih =>
    obtain ⟨hji, his⟩ := not_or.1 (List.mem_cons.not.1 h)
    exact (ih his).trans (releaseHold_row_other hji)

theorem releaseHolds_row {is : List (Fin 8)} (hnodup : is.Nodup) {j : Fin 8} (h : j ∈ is) :
    (releaseHolds is s).reportRow j = releasedRow s.port j (s.reportRow j) := by
  induction is generalizing s with
  | nil => cases h
  | cons i is ih =>
    obtain ⟨hi, his⟩ := List.nodup_cons.1 hnodup
    obtain rfl | hj := List.mem_cons.1 h
    · exact (releaseHolds_row_other hi).trans (releaseHold_row_same j s)
    · have hji : j ≠ i := fun e => hi (e ▸ hj)
      refine (ih his hj).trans ?_
      unfold releasedRow
      simp only [releaseHold_row_other hji, releaseHold_holdNames]

/-- Hold release writes the states of the released cells alone, and leaves their outcome codes. -/
theorem releaseHolds_byteAt {is : List (Fin 8)} (hwf : MemoryInv s) {a : Nat}
    (h : ∀ i k, Released s i k → a ≠ headerAddr k 1) : (releaseHolds is s).port.byteAt a = s.port.byteAt a := by
  induction is generalizing s with
  | nil => rfl
  | cons i is ih =>
    refine (ih (releaseHold_memoryInv i hwf) fun j k hk => ?_).trans (releaseHold_byteAt hwf (h i))
    by_cases hji : j = i
    · subst hji
      refine h j k ⟨?_, (releaseHold_holdNames j j s k).symm.trans hk.2⟩
      have hheld := hk.1
      rw [releaseHold_row_same] at hheld
      unfold releasedRow at hheld
      split at hheld
      · exact hheld
      · split at hheld
        · exact hheld
        · cases hheld
    · exact h j k ((releaseHold_released hji k).1 hk)

theorem releaseHolds_spare {is : List (Fin 8)} (hwf : MemoryInv s) {k : CellIndex} (h : s.port.cellState k = cellSpare) :
    (releaseHolds is s).port.cellState k = cellSpare := by
  induction is generalizing s with
  | nil => exact h
  | cons i is ih => exact ih (releaseHold_memoryInv i hwf) (releaseHold_spare hwf (.inl h))

/-- A released cell becomes SPARE. -/
theorem releaseHolds_spared {is : List (Fin 8)} (hwf : MemoryInv s) {j : Fin 8} (hj : j ∈ is) {k : CellIndex}
    (h : Released s j k) : (releaseHolds is s).port.cellState k = cellSpare := by
  induction is generalizing s with
  | nil => cases hj
  | cons i is ih =>
    by_cases hji : j = i
    · subst hji
      exact releaseHolds_spare (releaseHold_memoryInv j hwf) (releaseHold_spare hwf (.inr h))
    · exact ih (releaseHold_memoryInv i hwf) ((List.mem_cons.1 hj).resolve_left hji) ((releaseHold_released hji k).2 h)

end

/-! ## The end of a sweep -/

/-- Steps 2 to 4 of a sweep, and the publication request after them (R169, R174). -/
def sweepEnd (written : Bool) (s : State) : State :=
  askOrderResult written (rewriteAndCount (releaseHolds allReportRows s))

theorem intakeSweep_eq (late : List LateWrite) (s : State) :
    intakeSweep late s =
      sweepEnd (orderTurns late OrderChannel.all (s, false)).2 (orderTurns late OrderChannel.all (s, false)).1 := rfl

theorem execIntakeSweep_running (writes : List VcWrite) (late : List LateWrite) {s : State} (h : s.running = true) :
    exec (.intakeSweep writes late) s = .next (intakeSweep late (vcWrites writes s)) := by
  have hmain : s.supply.main = true := (Bool.and_eq_true_iff.1 h).1
  have hwritten : vcWritesPowered writes s = vcWrites writes s := if_pos hmain
  have hexec : exec (.intakeSweep writes late) s = execIntakeSweep writes late s := rfl
  rw [hexec, execIntakeSweep, hwritten, if_pos h]

section
variable {s : State}

theorem askOrderResult_port (written : Bool) (s : State) : (askOrderResult written s).port = s.port := by
  cases written <;> rfl

theorem sweepEnd_port (written : Bool) (s : State) :
    (sweepEnd written s).port = (rewriteAndCount (releaseHolds allReportRows s)).port := askOrderResult_port written _

/-- The end of a sweep changes the count, the report rows and the exchange RAM. -/
theorem sweepEnd_only (written : Bool) (s : State) :
    sweepEnd written s =
      { s with
        exc := { s.exc with sweepCount := s.exc.sweepCount + 1, reports := (sweepEnd written s).exc.reports },
        port := (sweepEnd written s).port } := by
  have hreleased := (releaseHolds_frame allReportRows s).only
  have hcounted : rewriteAndCount (releaseHolds allReportRows s) =
      { s with
        exc := { s.exc with
          sweepCount := s.exc.sweepCount + 1, reports := (rewriteAndCount (releaseHolds allReportRows s)).exc.reports },
        port := (rewriteAndCount (releaseHolds allReportRows s)).port } := by
    generalize releaseHolds allReportRows s = u at hreleased
    rw [rewriteAndCount_eq, hreleased]
  unfold sweepEnd
  generalize rewriteAndCount (releaseHolds allReportRows s) = u at hcounted
  cases written
  · exact hcounted
  · rw [hcounted]
    rfl

theorem sweepEnd_excOnly (written : Bool) (s : State) : ExcOnly s (sweepEnd written s) := by
  rw [sweepEnd_only]
  exact .intro _ _

theorem sweepEnd_orders (written : Bool) (s : State) : (sweepEnd written s).exc.orders = s.exc.orders := by
  rw [sweepEnd_only]

theorem sweepEnd_orderRow (written : Bool) (s : State) (c : OrderChannel) :
    (sweepEnd written s).orderRow c = s.orderRow c :=
  congrArg (fun v : Vector OrderRow 8 => v.get c.number) (sweepEnd_orders written s)

theorem sweepEnd_sweepCount (written : Bool) (s : State) :
    (sweepEnd written s).exc.sweepCount = s.exc.sweepCount + 1 := by rw [sweepEnd_only]

theorem sweepEnd_registers (written : Bool) (s : State) :
    (sweepEnd written s).port.attn = s.port.attn ∧ (sweepEnd written s).port.attnEn = s.port.attnEn ∧
      (sweepEnd written s).port.powerUps = s.port.powerUps := by
  obtain ⟨hattn, hattnEn, hpowerUps⟩ := rewriteAndCount_registers (releaseHolds allReportRows s)
  have hreleased := releaseHolds_frame allReportRows s
  rw [sweepEnd_port, hattn, hattnEn, hpowerUps]
  exact ⟨hreleased.attn, hreleased.attnEn, hreleased.powerUps⟩

/-- A sweep that wrote an ORDER_RESULT entry asks for its publication (R174). -/
theorem sweepEnd_asks (s : State) : ((sweepEnd true s).reportRow 5).changePending = true := by
  have hasked (u : State) : askOrderResult true u = requestReport 5 u := rfl
  rw [sweepEnd, hasked, requestReport_row_same]

theorem sweepEnd_row (s : State) (i : Fin 8) :
    (sweepEnd false s).reportRow i = releasedRow s.port i (s.reportRow i) := by
  have hcounted (u : State) : (rewriteAndCount u).reportRow i = u.reportRow i := by
    rw [rewriteAndCount_eq]
    rfl
  exact (hcounted _).trans (releaseHolds_row (by decide) ((by decide : ∀ j : Fin 8, j ∈ allReportRows) i))

/-- A byte of the vehicle controller's words, or from the headers up, but for the states of the released cells. -/
theorem sweepEnd_byteAt (written : Bool) (hwf : MemoryInv s) {a : Nat} (hstatus : ¬(0x80 ≤ a ∧ a < 0x100))
    (hdirectory : DirectoryKeeps a) (h : ∀ i k, Released s i k → a ≠ headerAddr k 1) :
    (sweepEnd written s).port.byteAt a = s.port.byteAt a := by
  rw [sweepEnd_port, rewriteAndCount_byteAt hstatus hdirectory, releaseHolds_byteAt hwf h]

/-- The directory words of the vehicle controller: the pending words, and the hold and filter words. -/
theorem sweepEnd_vcWord (written : Bool) (hwf : MemoryInv s) {a : Nat} (ha : a < 0x80)
    (hword : a % 8 = 2 ∨ (0x40 ≤ a ∧ a % 8 = 4)) : (sweepEnd written s).port.wordAt a = s.port.wordAt a := by
  refine Port.wordAt_congr fun b hb => sweepEnd_byteAt written hwf (by omega) (by unfold DirectoryKeeps; omega)
    fun i k _ => ?_
  have := headerAddr_inside k (j := 1) (by decide)
  omega

theorem sweepEnd_pendingWord (written : Bool) (hwf : MemoryInv s) (c : OrderChannel) :
    (sweepEnd written s).port.wordAt (dirAddr c.number 1) = s.port.wordAt (dirAddr c.number 1) :=
  sweepEnd_vcWord written hwf (by unfold dirAddr; omega) (.inl (by unfold dirAddr; omega))

/-- The header of a cell that no report channel holds stays as it is. -/
theorem sweepEnd_header (written : Bool) (hwf : MemoryInv s) {k : CellIndex} (hk : ∀ i : Fin 8, (s.reportRow i).held ≠ some k)
    {j : Nat} (hj : j < 6) : (sweepEnd written s).port.wordAt (headerAddr k j) = s.port.wordAt (headerAddr k j) := by
  have hinside := headerAddr_inside k hj
  refine Port.wordAt_congr fun b hb => sweepEnd_byteAt written hwf (by omega) (.inl (by omega)) fun i l hl => ?_
  have hkl : k ≠ l := fun e => hk i (e ▸ hl.1)
  have hapart := headerAddr_apart (k := k) (l := l) (i := j) (j := 1) hj (by decide) (.inl hkl)
  omega

theorem statusWords_askOrderResult (written : Bool) (s : State) :
    statusWords (askOrderResult written s) = statusWords s := by cases written <;> rfl

/-- The status block shows the records once the sweep is counted (R180; log 22). -/
theorem sweepEnd_status (written : Bool) (hwf : MemoryInv s) {i : Nat} {w : Word}
    (h : (statusWords (sweepEnd written s))[i]? = some w) : (sweepEnd written s).port.wordAt (statusAddr i) = w := by
  rw [sweepEnd, statusWords_askOrderResult] at h
  obtain ⟨hi, hget⟩ := List.getElem?_eq_some_iff.1 h
  rw [sweepEnd_port, rewriteAndCount_status (releaseHolds_memoryInv allReportRows hwf) hi, hget]

/-- A cell that hold release found unnamed is SPARE (R179). -/
theorem sweepEnd_spared (written : Bool) (hwf : MemoryInv s) {i : Fin 8} {k : CellIndex} (h : Released s i k) :
    (sweepEnd written s).port.cellState k = cellSpare := by
  have hinside := headerAddr_inside k (j := 1) (by decide)
  refine Eq.trans (Port.cellState_congr (Port.wordAt_congr fun b hb => ?_))
    (releaseHolds_spared hwf ((by decide : ∀ j : Fin 8, j ∈ allReportRows) i) h)
  rw [sweepEnd_port]
  exact rewriteAndCount_byteAt (by omega) (.inl (by omega))

theorem sweepEnd_directory (written : Bool) (hwf : MemoryInv s) {a : Nat} {v : Word}
    (h : (a, v) ∈ directoryWords (releaseHolds allReportRows s).exc) : (sweepEnd written s).port.wordAt a = v := by
  rw [sweepEnd_port]
  exact rewriteAndCount_directory (releaseHolds_memoryInv allReportRows hwf) h

/-- The part-owned words of an order channel's entry (R167). -/
theorem sweepEnd_orderEntry (written : Bool) (hwf : MemoryInv s) (c : OrderChannel) :
    (sweepEnd written s).port.wordAt (dirAddr c.number 0) = indexWord (s.orderRow c).current ∧
      (sweepEnd written s).port.wordAt (dirAddr c.number 2) = (s.orderRow c).takeCount ∧
      (sweepEnd written s).port.wordAt (dirAddr c.number 3) =
        outcomeWord (s.orderRow c).lastCode (s.orderRow c).lastFlags := by
  have hrow : (releaseHolds allReportRows s).exc.orders.get c.number = s.orderRow c := by
    rw [(releaseHolds_frame allReportRows s).only]
    rfl
  have hwords {a : Nat} {v : Word} (h : (a, v) ∈ orderWords c (s.orderRow c)) : (sweepEnd written s).port.wordAt a = v :=
    sweepEnd_directory written hwf (mem_directoryWords_order (hrow ▸ h))
  exact ⟨hwords (by simp [orderWords]), hwords (by simp [orderWords]), hwords (by simp [orderWords])⟩

/-- The part-owned words of a report channel's entry (R167). -/
theorem sweepEnd_reportEntry (written : Bool) (hwf : MemoryInv s) (i : Fin 8) :
    (sweepEnd written s).port.wordAt (dirAddr (8 + i.val) 0) = indexWord (s.reportRow i).published ∧
      (sweepEnd written s).port.wordAt (dirAddr (8 + i.val) 3) = natWord (s.reportRow i).skips := by
  obtain ⟨hpublished, hskips⟩ := releasedRow_shows s.port i (s.reportRow i)
  have hrow : (releaseHolds allReportRows s).exc.reports.get i = releasedRow s.port i (s.reportRow i) :=
    releaseHolds_row (by decide) ((by decide : ∀ j : Fin 8, j ∈ allReportRows) i)
  have hwords {a : Nat} {v : Word} (h : (a, v) ∈ reportWords i (releasedRow s.port i (s.reportRow i))) :
      (sweepEnd written s).port.wordAt a = v := sweepEnd_directory written hwf (mem_directoryWords_report (hrow ▸ h))
  exact ⟨hwords (by simp [reportWords, hpublished]), hwords (by simp [reportWords, hskips])⟩

end

/-! ## Nothing pending -/

theorem orderTurn_idle {s : State} {c : OrderChannel} (h : s.port.wordAt (dirAddr c.number 1) = 0xFFFF) (b : Bool) :
    orderTurn [] c (s, b) = (s, b) := if_pos h

theorem orderTurns_idle {s : State} {cs : List OrderChannel}
    (h : ∀ c ∈ cs, s.port.wordAt (dirAddr c.number 1) = 0xFFFF) (b : Bool) : orderTurns [] cs (s, b) = (s, b) := by
  induction cs with
  | nil => rfl
  | cons c cs ih =>
    obtain ⟨hc, hcs⟩ := List.forall_mem_cons.1 h
    rw [orderTurns, orderTurn_idle hc, ih hcs]

/-- Words read in a row are those that stand at their addresses. -/
theorem Port.wordsAt_eq {p : Port} {a : Nat} {ws : List Word}
    (h : ∀ i w, ws[i]? = some w → p.wordAt (a + 2 * i) = w) : p.wordsAt a ws.length = ws := by
  induction ws generalizing a with
  | nil => rfl
  | cons w ws ih =>
    have hrest : p.wordsAt (a + 2) ws.length = ws := ih fun i v hv => by
      rw [show a + 2 + 2 * i = a + 2 * (i + 1) by omega]
      exact h (i + 1) v hv
    rw [List.length_cons, Port.wordsAt, hrest, show p.wordAt a = w from h 0 w rfl]

theorem statusItems_length (s : State) : (statusItems s).length = 12 := rfl

/-- Settles O45, by hold release, the rewrites of the directory and of the status block, and the count. -/
theorem sweepWithNothingPending : Obligations.SweepWithNothingPending := by
  intro writes s hrunning hmemory
  dsimp only
  intro hidle
  have hwf : MemoryInv (vcWrites writes s) := vcWrites_memoryInv writes hmemory
  obtain ⟨hattn, hattnEn, hpowerUps⟩ := sweepEnd_registers false (vcWrites writes s)
  refine ⟨sweepEnd false (vcWrites writes s), ?run, sweepEnd_only false (vcWrites writes s),
    hattn.trans (s.port.vcWrites_attn writes), hattnEn.trans (s.port.vcWrites_attnEn writes),
    hpowerUps.trans (s.port.vcWrites_powerUps writes), fun i => ?rows, fun a ha hstates => ?bytes, ?items, fun i hi h64 => ?zeros, fun c => ?orders, fun i => ?reports⟩
  case run => rw [execIntakeSweep_running writes [] hrunning, intakeSweep_eq, orderTurns_idle fun c _ => hidle c]
  case rows =>
    rw [sweepEnd_row]
    refine ⟨fun h => releasedRow_none h, fun k hk => ⟨fun hnamed => ?_, fun hunnamed => ?_⟩⟩
    · exact (releasedRow_some hk).trans (if_pos (decide_eq_true hnamed))
    · have hreleased : Released (vcWrites writes s) i k := ⟨hk, decide_eq_false hunnamed⟩
      exact ⟨(releasedRow_some hk).trans (if_neg (Bool.eq_false_iff.1 hreleased.2)), sweepEnd_spared false hwf hreleased⟩
  case bytes =>
    exact sweepEnd_byteAt false hwf (by omega) (.inl (by omega)) fun i k hk => hstates i k hk.1 (of_decide_eq_false hk.2)
  case items =>
    rw [← statusItems_length (sweepEnd false (vcWrites writes s))]
    refine Port.wordsAt_eq fun i w hw => sweepEnd_status false hwf ?_
    rw [status_words]
    exact List.getElem?_append_left (List.getElem?_eq_some_iff.1 hw).1 |>.trans hw
  case zeros =>
    refine sweepEnd_status false hwf ?_
    rw [status_words, List.getElem?_append_right (by rw [statusItems_length]; exact hi), statusItems_length,
      List.getElem?_replicate, if_pos (by omega)]
  case orders =>
    obtain ⟨hcurrent, htakes, houtcome⟩ := sweepEnd_orderEntry false hwf c
    exact ⟨hcurrent, (sweepEnd_pendingWord false hwf c).trans (hidle c), htakes, houtcome⟩
  case reports =>
    have hword {a : Nat} := sweepEnd_vcWord false hwf (a := a)
    obtain ⟨hpublished, hskips⟩ := sweepEnd_reportEntry false hwf i
    exact ⟨hpublished, hword (by unfold dirAddr; omega) (.inl (by unfold dirAddr; omega)),
      hword (by unfold dirAddr; omega) (.inr (by unfold dirAddr; omega)), hskips⟩

end Sys2Proof.Machine
end

section
/-! PROOF. What the turn of an order channel leaves as it was, and a sweep as the turns of the channels with an order (R169). -/

namespace Sys2Proof.Machine

open Sys2Proof

/-! ## The vehicle controller's words of the directory -/

/-- A byte of the pending word of an order channel (R167). -/
def PendingByte (c : OrderChannel) (a : Nat) : Prop := a = dirAddr c.number 1 ∨ a = dirAddr c.number 1 + 1

/-- No byte. -/
def NoByte (_ : Nat) : Prop := False

section
variable {c d : OrderChannel} {a b : Nat}

theorem pendingAddr_lt (c : OrderChannel) : dirAddr c.number 1 + 1 < 0x40 := by
  unfold dirAddr
  omega

/-- Of an order channel's entry the pending word alone is the vehicle controller's. -/
theorem DirectoryKeeps.apart (h : DirectoryKeeps a) (ha : a < 0x80) (c : OrderChannel) {j : Nat} (hj : j < 4) (hj1 : j ≠ 1) :
    a ≠ dirAddr c.number j ∧ a ≠ dirAddr c.number j + 1 := by
  unfold DirectoryKeeps at h
  unfold dirAddr
  omega

theorem PendingByte.lt (h : PendingByte c a) : a < 0x40 := by
  have := pendingAddr_lt c
  unfold PendingByte at h
  omega

theorem PendingByte.keeps (h : PendingByte c a) : DirectoryKeeps a := by
  unfold PendingByte dirAddr at h
  unfold DirectoryKeeps
  omega

theorem pendingAddr_apart (h : d ≠ c) :
    dirAddr d.number 1 + 1 < dirAddr c.number 1 ∨ dirAddr c.number 1 + 1 < dirAddr d.number 1 := by
  have hne : d.number.val ≠ c.number.val := fun e => h (OrderChannel.number_injective (Fin.ext e))
  unfold dirAddr
  omega

theorem PendingByte.other (h : PendingByte d a) (hdc : d ≠ c) : ¬PendingByte c a := by
  have := pendingAddr_apart hdc
  unfold PendingByte at *
  omega

end

/-! ## The frame of a turn -/

/-- From s to t what the turn of order channel c leaves: the supplies, the messages, the queue, the counts, the rows of the
other order channels, the report rows but for the requests, and the vehicle controller's directory words but for some bytes. -/
structure TurnFrame (c : OrderChannel) (W : Nat → Prop) (s t : State) : Prop where
  supply : t.supply = s.supply
  sent : t.sent = s.sent
  pending : t.pending = s.pending
  frameNumber : t.exc.frameNumber = s.exc.frameNumber
  sweepCount : t.exc.sweepCount = s.exc.sweepCount
  orders : ∀ d : OrderChannel, d ≠ c → t.orderRow d = s.orderRow d
  rows : ∀ i : Fin 8, t.reportRow i = { s.reportRow i with changePending := (t.reportRow i).changePending }
  bytes : ∀ a : Nat, a < 0x80 → DirectoryKeeps a → ¬W a → t.port.byteAt a = s.port.byteAt a

namespace TurnFrame

variable {c : OrderChannel} {W : Nat → Prop} {s t u : State}

theorem refl (s : State) : TurnFrame c W s s := ⟨rfl, rfl, rfl, rfl, rfl, fun _ _ => rfl, fun _ => rfl, fun _ _ _ _ => rfl⟩

theorem trans (h : TurnFrame c W s t) (k : TurnFrame c W t u) : TurnFrame c W s u where
  supply := k.supply.trans h.supply
  sent := k.sent.trans h.sent
  pending := k.pending.trans h.pending
  frameNumber := k.frameNumber.trans h.frameNumber
  sweepCount := k.sweepCount.trans h.sweepCount
  orders d hd := (k.orders d hd).trans (h.orders d hd)
  rows i := by rw [k.rows i, h.rows i]
  bytes a ha hkeeps hW := (k.bytes a ha hkeeps hW).trans (h.bytes a ha hkeeps hW)

/-- The same, the later operation first. -/
theorem after (k : TurnFrame c W t u) (h : TurnFrame c W s t) : TurnFrame c W s u := h.trans k

theorem ite {p : Prop} [Decidable p] (h : p → TurnFrame c W s t) (k : ¬p → TurnFrame c W s u) :
    TurnFrame c W s (if p then t else u) := by
  split
  · exact h ‹_›
  · exact k ‹_›

theorem of_take (h : TakeFrame s t) : TurnFrame c W s t :=
  ⟨h.supply, h.sent, h.pending, h.table.frameNumber, h.table.sweepCount, fun d _ => h.table.orderRow d, h.table.rows,
    fun a ha _ _ => h.bytes a (by omega) (by omega)⟩

theorem of_setRamWord {x : Nat} {w : Word} (h : ∀ a, a < 0x80 → DirectoryKeeps a → ¬W a → a ≠ x ∧ a ≠ x + 1) :
    TurnFrame c W s (setRamWord x w s) :=
  ⟨rfl, rfl, rfl, rfl, rfl, fun _ _ => rfl, fun _ => rfl, fun a ha hkeeps hW =>
    s.port.byteAt_setWord_other w (h a ha hkeeps hW).1 (h a ha hkeeps hW).2⟩

theorem of_setOrderRow {r : OrderRow} : TurnFrame c W s (setOrderRow c r s) :=
  ⟨rfl, rfl, rfl, rfl, rfl, fun _ hd => setOrderRow_row_other s r hd, fun _ => rfl, fun _ _ _ _ => rfl⟩

theorem held (h : TurnFrame c W s t) (i : Fin 8) : (t.reportRow i).held = (s.reportRow i).held := by rw [h.rows i]

theorem published (h : TurnFrame c W s t) (i : Fin 8) : (t.reportRow i).published = (s.reportRow i).published := by
  rw [h.rows i]

theorem reported (h : TurnFrame c W s t) (k : CellIndex) : Reported t k ↔ Reported s k := by
  unfold Reported
  simp only [h.held, h.published]

theorem pendingWord (h : TurnFrame c W s t) (d : OrderChannel) (hW : ∀ a, PendingByte d a → ¬W a) :
    t.port.wordAt (dirAddr d.number 1) = s.port.wordAt (dirAddr d.number 1) := by
  refine Port.wordAt_congr fun b hb => ?_
  have hb : PendingByte d b := hb
  have := hb.lt
  exact h.bytes b (by omega) hb.keeps (hW b hb)

end TurnFrame

section
variable {c : OrderChannel} {W : Nat → Prop} {s : State}

theorem setHeader_turnFrame (k : CellIndex) {j : Nat} (hj : j < 6) (w : Word) (s : State) :
    TurnFrame c W s (setRamWord (headerAddr k j) w s) :=
  .of_setRamWord fun a ha _ _ => by
    have := headerAddr_inside k hj
    omega

theorem setDirectory_turnFrame {j : Nat} (hj : j < 4) (hj1 : j ≠ 1) (w : Word) (s : State) :
    TurnFrame c W s (setRamWord (dirAddr c.number j) w s) :=
  .of_setRamWord fun _ ha hkeeps _ => hkeeps.apart ha c hj hj1

theorem setCell_turnFrame (k : CellIndex) (x y : Nat) (s : State) : TurnFrame c W s (setCell k x y s) :=
  setHeader_turnFrame k (by decide) _ s

theorem recordOutcome_turnFrame (cell : Nat) (sequence : Word) (code : OutcomeCode) (f : DetailFlags) (s : State) :
    TurnFrame c W s (recordOutcome c cell sequence code f s) :=
  (setDirectory_turnFrame (by decide) (by decide) _ _).after .of_setOrderRow

theorem refuseOrder_turnFrame (k : CellIndex) (hd : CellHeader) (code : OutcomeCode) (f : DetailFlags) (s : State) :
    TurnFrame c W s (refuseOrder c k hd code f s).1 :=
  (recordOutcome_turnFrame _ _ _ _ _).after (.ite (fun _ => setCell_turnFrame _ _ _ s) fun _ => .refl s)

theorem rewriteChannel_turnFrame (k : CellIndex) (s : State) : TurnFrame c W s (rewriteChannel c k s) :=
  .ite (fun _ => setHeader_turnFrame k (by decide) _ s) fun _ => .refl s

theorem returnPrevious_turnFrame (o : Option CellIndex) (s : State) : TurnFrame c W s (returnPrevious o s) := by
  cases o with
  | none => exact .refl s
  | some k => exact setCell_turnFrame k _ _ s

theorem takeCell_turnFrame (k : CellIndex) (code : OutcomeCode) (s : State) : TurnFrame c W s (takeCell c k code s) := by
  have hstamped : TurnFrame c W s (setRamWord (headerAddr k 5) s.exc.frameNumber (setCell k cellTaken code.code s)) :=
    (setCell_turnFrame k _ _ s).trans (setHeader_turnFrame k (by decide) _ _)
  unfold takeCell
  exact (setDirectory_turnFrame (by decide) (by decide) _ _).after ((returnPrevious_turnFrame _ _).after
    ((setDirectory_turnFrame (by decide) (by decide) _ _).after (TurnFrame.of_setOrderRow.after hstamped)))

/-- The words written stand in some bytes. -/
def Within (W : Nat → Prop) (ws : List VcWrite) : Prop := ∀ v ∈ ws, W (2 * v.addr.toNat) ∧ W (2 * v.addr.toNat + 1)

theorem within_nil : Within W [] := fun _ h => nomatch h

theorem within_quiet (n : Nat) (m : Moment) : Within W (lateAt [] n m) := within_nil

theorem lateAll_quiet (n : Nat) (s : State) : lateAll [] n s = s := rfl

theorem Port.byteAt_vcWrites_other {p : Port} {ws : List VcWrite} (h : Within W ws) {a : Nat} (ha : ¬W a) :
    (p.vcWrites ws).byteAt a = p.byteAt a := by
  induction ws generalizing p with
  | nil => rfl
  | cons v vs ih =>
    obtain ⟨⟨hlow, hhigh⟩, hvs⟩ := List.forall_mem_cons.1 h
    exact (ih hvs).trans (p.byteAt_setWord_other _ (fun e => ha (e ▸ hlow)) fun e => ha (e ▸ hhigh))

theorem vcWrites_turnFrame {ws : List VcWrite} (h : Within W ws) (s : State) : TurnFrame c W s (vcWrites ws s) :=
  ⟨rfl, rfl, rfl, rfl, rfl, fun _ _ => rfl, fun _ => rfl, fun _ _ _ ha => Port.byteAt_vcWrites_other h ha⟩

theorem handToOwner_turnFrame (k : CellIndex) (hd : CellHeader) (f : DetailFlags) (n : Nat) (s : State) :
    TurnFrame c W s (handToOwner c k hd f n s).1 := by
  unfold handToOwner
  split
  case h_1 => exact refuseOrder_turnFrame _ _ _ _ s
  case h_2 added t ht =>
    exact ((TurnFrame.of_take (answer_frame ht)).trans (takeCell_turnFrame _ _ _)).trans (recordOutcome_turnFrame _ _ _ _ _)

theorem examine_turnFrame {mid : List VcWrite} (hmid : Within W mid) (w : Word) (s : State) :
    TurnFrame c W s (examine mid c w s).1 := by
  have hwritten (u : State) : TurnFrame c W u (vcWrites mid u) := vcWrites_turnFrame hmid u
  unfold examine
  split
  case h_1 => exact (hwritten s).trans (recordOutcome_turnFrame _ _ _ _ _)
  case h_2 k _ =>
    have hread : TurnFrame c W s (vcWrites mid (rewriteChannel c k s)) := (rewriteChannel_turnFrame k s).trans (hwritten _)
    unfold examineCell
    dsimp only
    split
    case h_1 => exact (hwritten s).trans (refuseOrder_turnFrame _ _ _ _ _)
    case h_2 =>
      split
      case h_1 => exact hread.trans (refuseOrder_turnFrame _ _ _ _ _)
      case h_2 => exact hread.trans (handToOwner_turnFrame _ _ _ _ _)

theorem clearPending_turnFrame (hW : ∀ a, PendingByte c a → W a) (w : Word) (s : State) :
    TurnFrame c W s (clearPending c w s) :=
  .ite
    (fun _ => .of_setRamWord fun a _ _ ha => ⟨fun e => ha (hW a (.inl e)), fun e => ha (hW a (.inr e))⟩)
    fun _ => .refl s

/-- A turn writes, of the vehicle controller's words, the pending word of its channel and what the vehicle controller writes. -/
theorem orderTurn_turnFrame {late : List LateWrite} (hlate : ∀ m, Within W (lateAt late c.number m))
    (hW : ∀ a, PendingByte c a → W a) (t : State × Bool) : TurnFrame c W t.1 (orderTurn late c t).1 := by
  have hwritten (m : Moment) (u : State) : TurnFrame c W u (vcWrites (lateAt late c.number m) u) :=
    vcWrites_turnFrame (hlate m) u
  unfold orderTurn
  dsimp only
  split
  case isTrue => exact ((hwritten _ t.1).trans (hwritten _ _)).trans (hwritten _ _)
  case isFalse =>
    exact (((hwritten _ t.1).trans (examine_turnFrame (hlate .mid) _ _)).trans (hwritten _ _)).trans
      (clearPending_turnFrame hW _ _)

theorem quietTurn_turnFrame (c : OrderChannel) (t : State × Bool) : TurnFrame c (PendingByte c) t.1 (orderTurn [] c t).1 :=
  orderTurn_turnFrame (within_quiet c.number.val) (fun _ => id) t

/-! ## The pending word after a turn -/

theorem clearPending_same (h : MemoryInv s) {w : Word} (hw : s.port.wordAt (dirAddr c.number 1) = w) :
    (clearPending c w s).port.wordAt (dirAddr c.number 1) = 0xFFFF := by
  unfold clearPending
  rw [if_pos hw]
  exact s.port.wordAt_setWord_same _ (by have := pendingAddr_lt c; unfold ramBytes; omega) h

theorem clearPending_other {w : Word} (hw : s.port.wordAt (dirAddr c.number 1) ≠ w) : clearPending c w s = s := if_neg hw

theorem orderTurn_pending {b : Bool} {w : Word} (hw : s.port.wordAt (dirAddr c.number 1) = w) (h : w ≠ 0xFFFF) :
    orderTurn [] c (s, b) = (clearPending c w (examine [] c w s).1, b || (examine [] c w s).2) := by
  subst hw
  exact if_neg h

/-- After its turn, with nothing written meanwhile, the pending word of a channel is clear. -/
theorem quietTurn_cleared (c : OrderChannel) (h : MemoryInv s) (b : Bool) :
    (orderTurn [] c (s, b)).1.port.wordAt (dirAddr c.number 1) = 0xFFFF := by
  by_cases hidle : s.port.wordAt (dirAddr c.number 1) = 0xFFFF
  · rw [orderTurn_idle hidle]
    exact hidle
  · rw [orderTurn_pending rfl hidle]
    refine clearPending_same (examine_memoryInv [] c _ h) ?_
    exact (examine_turnFrame (W := NoByte) within_nil _ s).pendingWord c fun _ _ => id

/-- The state after a turn does not depend on whether an entry was written before it. -/
theorem orderTurn_state (late : List LateWrite) (c : OrderChannel) (s : State) (b b' : Bool) :
    (orderTurn late c (s, b)).1 = (orderTurn late c (s, b')).1 := by
  unfold orderTurn
  dsimp only
  split <;> rfl

end

/-! ## The channels with an order -/

/-- The turns of a sweep are those of some channels: the others find no order, in no turn a word is written for them, and
nothing is written in theirs. -/
theorem orderTurns_filter {late : List LateWrite} {S : OrderChannel → Prop} [DecidablePred S] {cs : List OrderChannel}
    {t : State × Bool}
    (hlate : ∀ e, ¬S e → ∀ u, lateAll late e.number u = u)
    (hkeep : ∀ c, S c → ∀ e, ¬S e → ∀ u : State × Bool,
      (orderTurn late c u).1.port.wordAt (dirAddr e.number 1) = u.1.port.wordAt (dirAddr e.number 1))
    (hidle : ∀ e, ¬S e → t.1.port.wordAt (dirAddr e.number 1) = 0xFFFF) :
    orderTurns late cs t = orderTurns late (cs.filter fun c => decide (S c)) t := by
  induction cs generalizing t with
  | nil => rfl
  | cons c cs ih =>
    by_cases hc : S c
    · rw [List.filter_cons_of_pos (p := fun c => decide (S c)) (decide_eq_true hc), orderTurns, orderTurns]
      exact ih fun e he => (hkeep c hc e he t).trans (hidle e he)
    · have hturn : orderTurn late c t = t := by
        unfold orderTurn
        dsimp only
        rw [if_pos (hidle c hc), hlate c hc]
      rw [List.filter_cons_of_neg (p := fun c => decide (S c)) (by simpa using hc), orderTurns, hturn]
      exact ih hidle

theorem channels_one (c : OrderChannel) : (OrderChannel.all.filter fun e => decide (e = c)) = [c] := by
  cases c <;> decide

theorem channels_two {c d : OrderChannel} (h : c.number < d.number) :
    (OrderChannel.all.filter fun e => decide (e = c ∨ e = d)) = [c, d] := by
  revert h
  cases c <;> cases d <;> decide

/-- The turns of a sweep that finds one channel's order alone. -/
theorem orderTurns_one {c : OrderChannel} {s : State} {b : Bool}
    (h : ∀ d : OrderChannel, d ≠ c → s.port.wordAt (dirAddr d.number 1) = 0xFFFF) :
    orderTurns [] OrderChannel.all (s, b) = orderTurn [] c (s, b) := by
  refine (orderTurns_filter (t := (s, b)) (S := fun e => e = c) (fun e _ => lateAll_quiet e.number) ?keep h).trans ?channels
  case channels =>
    rw [channels_one]
    rfl
  case keep =>
    rintro _ rfl e he u
    exact (quietTurn_turnFrame _ u).pendingWord e fun _ ha => ha.other he

/-- The turns of a sweep that finds two channels' orders alone. -/
theorem orderTurns_two {c d : OrderChannel} (hcd : c.number < d.number) {s : State} {b : Bool}
    (h : ∀ e : OrderChannel, e ≠ c → e ≠ d → s.port.wordAt (dirAddr e.number 1) = 0xFFFF) :
    orderTurns [] OrderChannel.all (s, b) = orderTurn [] d (orderTurn [] c (s, b)) := by
  have hidle (e : OrderChannel) (he : ¬(e = c ∨ e = d)) : s.port.wordAt (dirAddr e.number 1) = 0xFFFF :=
    h e (not_or.1 he).1 (not_or.1 he).2
  refine (orderTurns_filter (t := (s, b)) (S := fun e => e = c ∨ e = d) (fun e _ => lateAll_quiet e.number) ?keep
    hidle).trans ?channels
  case channels =>
    rw [channels_two hcd]
    rfl
  case keep =>
    intro e he f hf u
    exact (quietTurn_turnFrame e u).pendingWord f fun _ ha => ha.other fun h => hf (h ▸ he)

/-! ## A sweep after its turns -/

/-- A sweep of a running part in which the turns lead to x, and what its end leaves of x (R169). -/
theorem sweep_after_turns {writes : List VcWrite} {late : List LateWrite} {s x : State} {b : Bool}
    (hrunning : s.running = true) (hturns : orderTurns late OrderChannel.all (vcWrites writes s, false) = (x, b)) :
    exec (.intakeSweep writes late) s = .next (sweepEnd b x) := by
  rw [execIntakeSweep_running writes late hrunning, intakeSweep_eq, hturns]

end Sys2Proof.Machine
end

section
/-! PROOF. The examination of one order: what decides it, and what a refusal and a take leave (R170 to R174). -/

namespace Sys2Proof.Machine

open Sys2Proof

/-! ## EXC's own changes -/

section
variable {s : State}

theorem setRamWord_excOnly (a : Nat) (w : Word) (s : State) : ExcOnly s (setRamWord a w s) := rfl

theorem rewriteChannel_excOnly (c : OrderChannel) (k : CellIndex) (s : State) : ExcOnly s (rewriteChannel c k s) :=
  .ite (fun _ => rfl) fun _ => rfl

theorem recordOutcome_excOnly (c : OrderChannel) (cell : Nat) (sequence : Word) (code : OutcomeCode) (f : DetailFlags)
    (s : State) : ExcOnly s (recordOutcome c cell sequence code f s) := rfl

theorem refuseOrder_excOnly (c : OrderChannel) (k : CellIndex) (h : CellHeader) (code : OutcomeCode) (f : DetailFlags)
    (s : State) : ExcOnly s (refuseOrder c k h code f s).1 :=
  (recordOutcome_excOnly _ _ _ _ _ _).after (.ite (fun _ => rfl) fun _ => rfl)

theorem takeCell_excOnly (c : OrderChannel) (k : CellIndex) (code : OutcomeCode) (s : State) :
    ExcOnly s (takeCell c k code s) := by
  have hreturned (o : Option CellIndex) (u : State) : ExcOnly u (returnPrevious o u) := by cases o <;> rfl
  have hstamped : ExcOnly s (setRamWord (headerAddr k 5) s.exc.frameNumber (setCell k cellTaken code.code s)) := rfl
  have hrow (r : OrderRow) (u : State) : ExcOnly u (setOrderRow c r u) := rfl
  unfold takeCell
  exact (setRamWord_excOnly _ _ _).after ((hreturned _ _).after ((setRamWord_excOnly _ _ _).after
    ((hrow _ _).after hstamped)))

theorem clearPending_excOnly (c : OrderChannel) (w : Word) (s : State) : ExcOnly s (clearPending c w s) :=
  .ite (fun _ => rfl) fun _ => rfl

/-! ## The pending word's clearing leaves the table and the headers -/

theorem clearPending_exc (c : OrderChannel) (w : Word) (s : State) : (clearPending c w s).exc = s.exc := by
  unfold clearPending
  split <;> rfl

theorem clearPending_wordAt (c : OrderChannel) (w : Word) (s : State) {a : Nat} (ha : 0x80 ≤ a) :
    (clearPending c w s).port.wordAt a = s.port.wordAt a := by
  have := pendingAddr_lt c
  unfold clearPending
  split
  · exact s.port.wordAt_setWord_other _ (.inr (by omega))
  · rfl

theorem clearPending_byteAt (c : OrderChannel) (w : Word) (s : State) {a : Nat} (ha : 0x80 ≤ a) :
    (clearPending c w s).port.byteAt a = s.port.byteAt a := by
  have := pendingAddr_lt c
  unfold clearPending
  split
  · exact s.port.byteAt_setWord_other _ (by omega) (by omega)
  · rfl

end

/-! ## A directory word's write leaves the headers -/

theorem Port.wordAt_setDirectory_header (p : Port) (c : OrderChannel) {i j : Nat} (hi : i < 4) (k : CellIndex) (hj : j < 6)
    (w : Word) : (p.setWord (dirAddr c.number i) w).wordAt (headerAddr k j) = p.wordAt (headerAddr k j) := by
  have := headerAddr_inside k hj
  exact p.wordAt_setWord_other w (.inr (by unfold dirAddr; omega))

/-- Recording an outcome writes the directory alone. -/
theorem recordOutcome_header (c : OrderChannel) (cell : Nat) (sequence : Word) (code : OutcomeCode) (f : DetailFlags)
    (s : State) (k : CellIndex) {j : Nat} (hj : j < 6) :
    (recordOutcome c cell sequence code f s).port.wordAt (headerAddr k j) = s.port.wordAt (headerAddr k j) :=
  s.port.wordAt_setDirectory_header c (by decide) k hj _

/-! ## Refusal (R173) -/

section
variable {c : OrderChannel} {k : CellIndex} {hd : CellHeader} {code : OutcomeCode} {f : DetailFlags} {s : State}

theorem refuseOrder_row :
    (refuseOrder c k hd code f s).1.orderRow c = (s.orderRow c).withOutcome c k.val hd.sequence code f := by
  have hrow : (refuseCell k hd code s).orderRow c = s.orderRow c := by
    unfold State.orderRow
    rw [refuseCell_exc]
  unfold refuseOrder
  rw [recordOutcome_row_same, hrow]

/-- A FILLED cell that the table does not name becomes RETURNED with the code. -/
theorem refuseOrder_returned (hwf : MemoryInv s) (hfilled : hd.state = cellFilled) (hunnamed : s.exc.names k = false) :
    (refuseOrder c k hd code f s).1.port.wordAt (headerAddr k 1) = packBytes cellReturned code.code := by
  have hcell : refuseCell k hd code s = setCell k cellReturned code.code s := if_pos ⟨hfilled, hunnamed⟩
  unfold refuseOrder
  rw [recordOutcome_header _ _ _ _ _ _ _ (by decide), hcell]
  exact s.port.wordAt_setCell_same k _ _ hwf

/-- Another refused cell keeps its state and its outcome code. -/
theorem refuseOrder_left (h : hd.state ≠ cellFilled ∨ s.exc.names k = true) :
    (refuseOrder c k hd code f s).1.port.wordAt (headerAddr k 1) = s.port.wordAt (headerAddr k 1) := by
  have hcell : refuseCell k hd code s = s := by
    refine if_neg fun hboth => h.elim (fun hstate => hstate hboth.1) fun hnamed => ?_
    exact nomatch hnamed.symm.trans hboth.2
  unfold refuseOrder
  rw [recordOutcome_header _ _ _ _ _ _ _ (by decide), hcell]

end

/-! ## Take (R172) -/

section
variable {c : OrderChannel} {k : CellIndex} {code : OutcomeCode} {s : State}

theorem returnPrevious_header {o : Option CellIndex} (h : o ≠ some k) {j : Nat} (hj : j < 6) :
    (returnPrevious o s).port.wordAt (headerAddr k j) = s.port.wordAt (headerAddr k j) := by
  cases o with
  | none => rfl
  | some p => exact s.port.wordAt_setCell_other _ _ hj (.inl fun e => h (congrArg some e))

/-- The taken cell, unless it was the current one before, is TAKEN with the code and bears the frame number. -/
theorem takeCell_header (hwf : MemoryInv s) (hprevious : (s.orderRow c).current ≠ some k) :
    (takeCell c k code s).port.wordAt (headerAddr k 1) = packBytes cellTaken code.code ∧
      (takeCell c k code s).port.wordAt (headerAddr k 5) = s.exc.frameNumber := by
  have hcell : MemoryInv (setCell k cellTaken code.code s) := setCell_memoryInv k _ _ hwf
  have hdirectory (u : State) (i : Nat) (hi : i < 4) (w : Word) {j : Nat} (hj : j < 6) :
      (setRamWord (dirAddr c.number i) w u).port.wordAt (headerAddr k j) = u.port.wordAt (headerAddr k j) :=
    u.port.wordAt_setDirectory_header c hi k hj w
  have hheader {j : Nat} (hj : j < 6) : (takeCell c k code s).port.wordAt (headerAddr k j) =
      (setRamWord (headerAddr k 5) s.exc.frameNumber (setCell k cellTaken code.code s)).port.wordAt (headerAddr k j) := by
    unfold takeCell
    dsimp only
    rw [hdirectory _ 2 (by decide) _ hj, returnPrevious_header hprevious hj, hdirectory _ 0 (by decide) _ hj]
    rfl
  rw [hheader (by decide), hheader (by decide)]
  constructor
  · exact (Port.wordAt_setHeader_other _ _ (by decide) (by decide) (.inr (by decide))).trans
      (s.port.wordAt_setCell_same k _ _ hwf)
  · exact Port.wordAt_setHeader_same _ k _ (by decide) hcell

/-- The header of a cell that is neither taken nor was the current one stays. -/
theorem takeCell_header_other {l : CellIndex} (hlk : l ≠ k) (hl : (s.orderRow c).current ≠ some l) {j : Nat} (hj : j < 6) :
    (takeCell c k code s).port.wordAt (headerAddr l j) = s.port.wordAt (headerAddr l j) := by
  have hdirectory (u : State) (i : Nat) (hi : i < 4) (w : Word) :
      (setRamWord (dirAddr c.number i) w u).port.wordAt (headerAddr l j) = u.port.wordAt (headerAddr l j) :=
    u.port.wordAt_setDirectory_header c hi l hj w
  have hstamped : (setRamWord (headerAddr k 5) s.exc.frameNumber (setCell k cellTaken code.code s)).port.wordAt
      (headerAddr l j) = s.port.wordAt (headerAddr l j) :=
    (Port.wordAt_setHeader_other _ _ (by decide) hj (.inl hlk.symm)).trans
      (s.port.wordAt_setCell_other _ _ hj (.inl hlk.symm))
  unfold takeCell
  dsimp only
  rw [hdirectory _ 2 (by decide), returnPrevious_header hl hj, hdirectory _ 0 (by decide)]
  exact hstamped

/-- The cell that was the current one becomes RETURNED. -/
theorem takeCell_previous (hwf : MemoryInv s) {p : CellIndex} (hprevious : (s.orderRow c).current = some p) :
    (takeCell c k code s).port.cellState p = cellReturned := by
  have hstamped : MemoryInv (setRamWord (headerAddr k 5) s.exc.frameNumber (setCell k cellTaken code.code s)) :=
    setRamWord_memoryInv _ _ (setCell_memoryInv k _ _ hwf)
  unfold takeCell
  dsimp only
  rw [hprevious]
  refine (Port.cellState_congr (Port.wordAt_setDirectory_header _ c (by decide) p (by decide) _)).trans ?_
  exact Port.cellState_setCellState_same _ p (by decide) (setRamWord_memoryInv (dirAddr c.number 0) _ hstamped)

end

/-! ## What decides an order (R170 to R172) -/

section
variable (c : OrderChannel) (k : CellIndex) (s : State)

/-- The fixed length of the order in a cell. -/
def orderLength : Nat := c.fixedLength (s.port.wordAt (dataAddr (s.port.offsetOf k))).toNat

/-- CHANNEL and LENGTH, where header and channel differ. -/
def orderFlags : DetailFlags :=
  { DetailFlags.none with
    channel := channelDiffers c (s.port.header k),
    length := decide (orderLength c k s < (s.port.header k).length) }

/-- The owner's answer to the order in a cell. -/
def orderAnswer : Answer :=
  c.answer (s.port.wordsAt (dataAddr (s.port.offsetOf k)) (min (orderLength c k s) 64)) (s.port.header k).sequence
    (rewriteChannel c k s)

/-- The code and the flags with which an order is refused, by the common checks or by its owner. -/
def orderRefusal : Option (OutcomeCode × DetailFlags) :=
  if blockInside k (s.port.offsetOf k) = false ∨ s.exc.names k = true then some (.badCell, DetailFlags.none)
  else if s.port.cellState k ≠ cellFilled then some (.notFilled, DetailFlags.none)
  else if isLong k ≠ c.long then some (.cellClass, DetailFlags.none)
  else if (s.port.header k).length < orderLength c k s then
    some (.short, { DetailFlags.none with channel := channelDiffers c (s.port.header k) })
  else
    match orderAnswer c k s with
    | .refused code => some (code, orderFlags c k s)
    | .taken _ _ => none

/-- The rewrite of a header's channel field leaves the data area. -/
theorem rewriteChannel_byteAt {a : Nat} (ha : 0x580 ≤ a ∨ a < 0x100) :
    (rewriteChannel c k s).port.byteAt a = s.port.byteAt a := by
  have := headerAddr_inside k (j := 0) (by decide)
  unfold rewriteChannel
  split
  · exact s.port.byteAt_setWord_other _ (by omega) (by omega)
  · rfl

/-- The rewrite of a header's channel field leaves every header's other words. -/
theorem rewriteChannel_header (l : CellIndex) {j : Nat} (hj : j < 6) (hj0 : j ≠ 0) :
    (rewriteChannel c k s).port.wordAt (headerAddr l j) = s.port.wordAt (headerAddr l j) := by
  unfold rewriteChannel
  split
  · exact s.port.wordAt_setHeader_other _ (by decide) hj (.inr (Ne.symm hj0))
  · rfl

variable {k} in
/-- The rewrite of a header's channel field leaves every other header. -/
theorem rewriteChannel_header_other {l : CellIndex} (hlk : l ≠ k) {j : Nat} (hj : j < 6) :
    (rewriteChannel c k s).port.wordAt (headerAddr l j) = s.port.wordAt (headerAddr l j) := by
  unfold rewriteChannel
  split
  · exact s.port.wordAt_setHeader_other _ (by decide) hj (.inl hlk.symm)
  · rfl

theorem rewriteChannel_wordsAt (w n : Nat) :
    (rewriteChannel c k s).port.wordsAt (dataAddr w) n = s.port.wordsAt (dataAddr w) n :=
  Port.wordsAt_congr fun a ha _ => rewriteChannel_byteAt c k s (.inl (by unfold dataAddr at ha; omega))

theorem fixedLengthAt_rewriteChannel :
    fixedLengthAt c (s.port.header k) (rewriteChannel c k s).port = orderLength c k s := by
  have hword : (rewriteChannel c k s).port.wordAt (dataAddr (s.port.offsetOf k)) =
      s.port.wordAt (dataAddr (s.port.offsetOf k)) :=
    Port.wordAt_congr fun a ha => rewriteChannel_byteAt c k s (.inl (by unfold dataAddr at ha; omega))
  exact congrArg (fun w : Word => c.fixedLength w.toNat) hword

end

section
variable {c : OrderChannel} {k : CellIndex} {s : State}

/-- An order that is not refused passed the first three checks. -/
theorem orderRefusal_none_checks (h : orderRefusal c k s = none) :
    blockInside k (s.port.offsetOf k) = true ∧ s.exc.names k = false ∧ s.port.cellState k = cellFilled ∧
      isLong k = c.long ∧ ¬(s.port.header k).length < orderLength c k s := by
  unfold orderRefusal at h
  split_ifs at h with hbad hstate hclass hshort
  obtain ⟨hblock, hnamed⟩ := not_or.1 hbad
  exact ⟨Bool.eq_true_of_not_eq_false hblock, Bool.eq_false_of_not_eq_true hnamed, not_not.1 hstate, not_not.1 hclass, hshort⟩

/-- The examination of an order that passes the common checks is its owner's. -/
theorem examineCell_passed (hblock : blockInside k (s.port.offsetOf k) = true) (hunnamed : s.exc.names k = false)
    (hfilled : s.port.cellState k = cellFilled) (hclass : isLong k = c.long)
    (hlength : ¬(s.port.header k).length < orderLength c k s) :
    examineCell [] c k s =
      handToOwner c k (s.port.header k) (orderFlags c k s) (min (orderLength c k s) 64) (rewriteChannel c k s) := by
  have hfirst : firstRefusal c k (s.port.header k) s.exc = none :=
    firstRefusal_eq_none_iff.2 ⟨hblock, hunnamed, hfilled, hclass⟩
  unfold examineCell
  dsimp only
  rw [hfirst]
  dsimp only
  rw [vcWrites_nil, fixedLengthAt_rewriteChannel, lengthCheck, if_neg hlength]
  rfl

/-- The payload is handed over as it stood when the header was read. -/
theorem handedAnswer_eq :
    c.answer ((rewriteChannel c k s).port.wordsAt (dataAddr (s.port.header k).offset) (min (orderLength c k s) 64))
      (s.port.header k).sequence (rewriteChannel c k s) = orderAnswer c k s := by
  rw [rewriteChannel_wordsAt]
  rfl

theorem handToOwner_refused (f : DetailFlags) {code : OutcomeCode} (h : orderAnswer c k s = .refused code) :
    handToOwner c k (s.port.header k) f (min (orderLength c k s) 64) (rewriteChannel c k s) =
      refuseOrder c k (s.port.header k) code f (rewriteChannel c k s) := by
  unfold handToOwner
  rw [handedAnswer_eq, h]

theorem handToOwner_taken (f : DetailFlags) {added : DetailFlags} {t : State} (h : orderAnswer c k s = .taken added t) :
    handToOwner c k (s.port.header k) f (min (orderLength c k s) 64) (rewriteChannel c k s) =
      (recordOutcome c k.val (s.port.header k).sequence (takenCode (f.join added)) (f.join added)
        (takeCell c k (takenCode (f.join added)) t), entryWritten c (takenCode (f.join added))) := by
  unfold handToOwner
  rw [handedAnswer_eq, h]

/-- A refused order, in the state in which it is refused: before or after the rewrite of the header's channel field. -/
theorem examineCell_refused {code : OutcomeCode} {f : DetailFlags} (h : orderRefusal c k s = some (code, f)) :
    ∃ u, (u = s ∨ u = rewriteChannel c k s) ∧ examineCell [] c k s = refuseOrder c k (s.port.header k) code f u := by
  have hearly {x : OutcomeCode} (hx : firstRefusal c k (s.port.header k) s.exc = some x) :
      examineCell [] c k s = refuseOrder c k (s.port.header k) x DetailFlags.none s := by
    unfold examineCell
    dsimp only
    rw [hx]
    rfl
  have hoffset : (s.port.header k).offset = s.port.offsetOf k := rfl
  have hstate : (s.port.header k).state = s.port.cellState k := rfl
  by_cases hbad : blockInside k (s.port.offsetOf k) = false ∨ s.exc.names k = true
  · rw [orderRefusal, if_pos hbad] at h
    cases h
    refine ⟨s, .inl rfl, hearly ?_⟩
    unfold firstRefusal
    rw [hoffset, if_pos]
    simpa using hbad
  obtain ⟨hblock, hunnamed⟩ := not_or.1 hbad
  have hblock := Bool.eq_true_of_not_eq_false hblock
  have hunnamed := Bool.eq_false_of_not_eq_true hunnamed
  by_cases hfilled : s.port.cellState k = cellFilled
  case neg =>
    rw [orderRefusal, if_neg hbad, if_pos hfilled] at h
    cases h
    exact ⟨s, .inl rfl, hearly (by simp [firstRefusal, hoffset, hstate, hblock, hunnamed, hfilled])⟩
  by_cases hclass : isLong k = c.long
  case neg =>
    rw [orderRefusal, if_neg hbad, if_neg (not_not.2 hfilled), if_pos hclass] at h
    cases h
    exact ⟨s, .inl rfl, hearly (by simp [firstRefusal, hoffset, hstate, hblock, hunnamed, hfilled, hclass])⟩
  rw [orderRefusal, if_neg hbad, if_neg (not_not.2 hfilled), if_neg (not_not.2 hclass)] at h
  refine ⟨rewriteChannel c k s, .inr rfl, ?_⟩
  by_cases hshort : (s.port.header k).length < orderLength c k s
  · rw [if_pos hshort] at h
    cases h
    have hfirst : firstRefusal c k (s.port.header k) s.exc = none :=
      firstRefusal_eq_none_iff.2 ⟨hblock, hunnamed, hfilled, hclass⟩
    unfold examineCell
    dsimp only
    rw [hfirst]
    dsimp only
    rw [vcWrites_nil, fixedLengthAt_rewriteChannel, lengthCheck, if_pos hshort]
  · rw [if_neg hshort] at h
    rw [examineCell_passed hblock hunnamed hfilled hclass hshort]
    cases hanswer : orderAnswer c k s with
    | refused x =>
      rw [hanswer] at h
      cases h
      exact handToOwner_refused _ hanswer
    | taken added t =>
      rw [hanswer] at h
      cases h

/-- A taken order. -/
theorem examineCell_taken {added : DetailFlags} {t : State} (h : orderRefusal c k s = none)
    (hanswer : orderAnswer c k s = .taken added t) :
    examineCell [] c k s =
      (recordOutcome c k.val (s.port.header k).sequence (takenCode ((orderFlags c k s).join added))
        ((orderFlags c k s).join added) (takeCell c k (takenCode ((orderFlags c k s).join added)) t),
        entryWritten c (takenCode ((orderFlags c k s).join added))) := by
  obtain ⟨hblock, hunnamed, hfilled, hclass, hlength⟩ := orderRefusal_none_checks h
  rw [examineCell_passed hblock hunnamed hfilled hclass hlength, handToOwner_taken _ hanswer]

/-- A refusal never bears the code of a take. -/
theorem answer_refused_ne_accepted {p : List Word} {n : Word} {code : OutcomeCode} (h : c.answer p n s = .refused code) :
    entryWritten c code = true := by
  cases c
  case demand =>
    have hdemand : checkDemand p n s = .refused code := h
    unfold checkDemand at hdemand
    split at hdemand
    · cases hdemand; rfl
    · cases hdemand
  case mode =>
    have hmode : checkMode p s = .refused code := h
    unfold checkMode at hmode
    split at hmode
    · cases hmode
    · cases hmode; rfl
  all_goals rfl

/-- Every refusal writes the ORDER_RESULT entry (R174). -/
theorem orderRefusal_entryWritten {code : OutcomeCode} {f : DetailFlags} (h : orderRefusal c k s = some (code, f)) :
    entryWritten c code = true := by
  have hother {x : OutcomeCode} (hx : x ≠ .accepted) : entryWritten c x = true := by cases c <;> simp [entryWritten, hx]
  unfold orderRefusal at h
  split_ifs at h
  case pos => cases h; exact hother nofun
  case pos => cases h; exact hother nofun
  case pos => cases h; exact hother nofun
  case pos => cases h; exact hother nofun
  case neg =>
    split at h
    case h_1 hanswer => cases h; exact answer_refused_ne_accepted hanswer
    case h_2 => cases h

end

end Sys2Proof.Machine
end

section
/-! PROOF. A sweep that finds one order, a bad index, or two orders (R169 to R174). -/

namespace Sys2Proof.Machine

open Sys2Proof

/-! ## The index a pending word names -/

theorem indexWord_toNat (k : CellIndex) : (indexWord (some k)).toNat = k.val := by
  have := k.isLt
  unfold indexWord
  rw [BitVec.toNat_ofNat]
  omega

theorem cellOf_indexWord (k : CellIndex) : cellOf (indexWord (some k)) = some k := by
  have hlt : (indexWord (some k)).toNat < 96 := by rw [indexWord_toNat]; exact k.isLt
  unfold cellOf
  rw [dif_pos hlt]
  exact congrArg some (Fin.ext (indexWord_toNat k))

theorem indexWord_ne_none (k : CellIndex) : indexWord (some k) ≠ 0xFFFF := by
  intro h
  have hval := indexWord_toNat k
  have := k.isLt
  rw [h] at hval
  have : (0xFFFF : Word).toNat = 65535 := rfl
  omega

theorem examine_cell (k : CellIndex) (mid : List VcWrite) (c : OrderChannel) (s : State) :
    examine mid c (indexWord (some k)) s = examineCell mid c k s := by
  unfold examine
  rw [cellOf_indexWord]

theorem examine_beyond {v : Word} (h : 96 ≤ v.toNat) (mid : List VcWrite) (c : OrderChannel) (s : State) :
    examine mid c v s = (recordOutcome c 255 0 .badCell DetailFlags.none (vcWrites mid s), true) := by
  have hnone : cellOf v = none := dif_neg (by omega)
  unfold examine
  rw [hnone]

/-! ## The turn of an order -/

/-- An entry is written unless a DEMAND or MODE take is ACCEPTED (R174). -/
theorem ite_entryWritten {α : Type} (c : OrderChannel) (code : OutcomeCode) (x y : α) :
    (if entryWritten c code then x else y) = if (c = .demand ∨ c = .mode) ∧ code = .accepted then y else x := by
  by_cases h : code = .accepted
  · subst h
    cases c <;> rfl
  · have hwritten : entryWritten c code = true := by cases c <;> simp [entryWritten, h]
    rw [if_pos hwritten, if_neg fun hboth => h hboth.2]

/-- A row with an outcome recorded whose entry is written. -/
theorem OrderRow.withOutcome_written {c : OrderChannel} {code : OutcomeCode} (h : entryWritten c code = true) (r : OrderRow)
    (cell : Nat) (sequence : Word) (f : DetailFlags) :
    r.withOutcome c cell sequence code f =
      { r with
        lastCode := code, lastFlags := f, result := { cell := cell, sequence := sequence, code := code, flags := f } } := by
  unfold OrderRow.withOutcome
  rw [if_pos h]

section
variable {s : State} {c : OrderChannel} {k : CellIndex}

/-- The turn of a channel whose order is refused. -/
theorem refused_turn (hwf : MemoryInv s) (hpending : s.port.wordAt (dirAddr c.number 1) = indexWord (some k))
    {code : OutcomeCode} {f : DetailFlags} (h : orderRefusal c k s = some (code, f)) :
    ∃ x, orderTurn [] c (s, false) = (x, true) ∧
      x.orderRow c =
        { s.orderRow c with
          lastCode := code, lastFlags := f,
          result := { cell := k.val, sequence := s.port.wordAt (headerAddr k 2), code := code, flags := f } } ∧
      (s.port.cellState k = cellFilled → s.exc.names k = false →
        x.port.wordAt (headerAddr k 1) = packBytes cellReturned code.code) ∧
      (s.port.cellState k ≠ cellFilled ∨ s.exc.names k = true →
        x.port.wordAt (headerAddr k 1) = s.port.wordAt (headerAddr k 1)) ∧
      ExcOnly s x := by
  obtain ⟨u, hu, hexamined⟩ := examineCell_refused h
  have hexc : u.exc = s.exc := by
    rcases hu with rfl | rfl
    · rfl
    · exact rewriteChannel_exc c s k
  have hfrom : MemoryInv u ∧ ExcOnly s u ∧ u.port.wordAt (headerAddr k 1) = s.port.wordAt (headerAddr k 1) := by
    rcases hu with rfl | rfl
    · exact ⟨hwf, .refl _, rfl⟩
    · exact ⟨rewriteChannel_memoryInv c k hwf, rewriteChannel_excOnly c k s,
        rewriteChannel_header c k s k (by decide) (by decide)⟩
  obtain ⟨hmemory, honly, hheader⟩ := hfrom
  have hturn : orderTurn [] c (s, false) =
      (clearPending c (indexWord (some k)) (refuseOrder c k (s.port.header k) code f u).1, true) := by
    rw [orderTurn_pending hpending (indexWord_ne_none k), examine_cell, hexamined]
    rfl
  refine ⟨_, hturn, ?row, fun hfilled hunnamed => ?returned, fun hleft => ?left, ?only⟩
  case row =>
    have hrow : u.orderRow c = s.orderRow c := by
      unfold State.orderRow
      rw [hexc]
    have hcleared (v : State) : (clearPending c (indexWord (some k)) v).orderRow c = v.orderRow c := by
      unfold State.orderRow
      rw [clearPending_exc]
    rw [hcleared, refuseOrder_row, hrow]
    exact OrderRow.withOutcome_written (orderRefusal_entryWritten h) _ _ _ _
  all_goals have hinside := headerAddr_inside k (j := 1) (by decide)
  case returned =>
    rw [clearPending_wordAt _ _ _ (by omega)]
    exact refuseOrder_returned hmemory hfilled (hexc ▸ hunnamed)
  case left =>
    rw [clearPending_wordAt _ _ _ (by omega), refuseOrder_left, hheader]
    rw [hexc]
    exact hleft
  case only => exact (honly.trans (refuseOrder_excOnly _ _ _ _ _ u)).trans (clearPending_excOnly _ _ _)

/-- The turn of a channel whose order its owner takes. -/
theorem taken_turn (hwf : MemoryInv s) (hpending : s.port.wordAt (dirAddr c.number 1) = indexWord (some k))
    (h : orderRefusal c k s = none) {added : DetailFlags} {t : State} (hanswer : orderAnswer c k s = .taken added t)
    {f : DetailFlags} (hf : f = (orderFlags c k s).join added) :
    ∃ x, orderTurn [] c (s, false) = (x, entryWritten c (takenCode f)) ∧ ExcOnly t x ∧
      x.orderRow c =
        { s.orderRow c with
          current := some k, takeCount := (s.orderRow c).takeCount + 1, lastCode := takenCode f, lastFlags := f,
          result :=
            if (c = .demand ∨ c = .mode) ∧ takenCode f = .accepted then (s.orderRow c).result
            else { cell := k.val, sequence := s.port.wordAt (headerAddr k 2), code := takenCode f, flags := f } } ∧
      x.port.wordAt (headerAddr k 1) = packBytes cellTaken (takenCode f).code ∧
      x.port.wordAt (headerAddr k 5) = s.exc.frameNumber ∧
      (∀ p : CellIndex, (s.orderRow c).current = some p → x.port.cellState p = cellReturned) ∧
      ∀ l : CellIndex, l ≠ k → (s.orderRow c).current ≠ some l → ∀ j < 6,
        x.port.wordAt (headerAddr l j) = s.port.wordAt (headerAddr l j) := by
  subst hf
  obtain ⟨-, hunnamed, -⟩ := orderRefusal_none_checks h
  obtain ⟨hcurrents, -⟩ := (names_false_iff s k).1 hunnamed
  have hframe := answer_frame hanswer
  have hmemory : MemoryInv t := (answer_kept hanswer).memory (rewriteChannel_memoryInv c k hwf)
  have hrow : t.orderRow c = s.orderRow c := by
    rw [hframe.table.orderRow]
    unfold State.orderRow
    rw [rewriteChannel_exc]
  have hnumber : t.exc.frameNumber = s.exc.frameNumber := by rw [hframe.table.frameNumber, rewriteChannel_exc]
  have hturn := orderTurn_pending (b := false) hpending (indexWord_ne_none k)
  rw [examine_cell, examineCell_taken h hanswer, Bool.false_or] at hturn
  have hword (p : CellIndex) {j : Nat} (hj : j < 6) (u : State) (cell : Nat) (n : Word) (code : OutcomeCode)
      (g : DetailFlags) : (clearPending c (indexWord (some k)) (recordOutcome c cell n code g u)).port.wordAt (headerAddr p j) =
        u.port.wordAt (headerAddr p j) := by
    have hinside := headerAddr_inside p hj
    rw [clearPending_wordAt _ _ _ (by omega), recordOutcome_header _ _ _ _ _ _ _ hj]
  refine ⟨_, hturn, ?only, ?row, ?taken, ?stamped, fun p hp => ?returned, fun l hlk hl j hj => ?others⟩
  case only =>
    exact ((takeCell_excOnly c k _ t).trans (recordOutcome_excOnly _ _ _ _ _ _)).trans (clearPending_excOnly _ _ _)
  case row =>
    have hcleared (v : State) : (clearPending c (indexWord (some k)) v).orderRow c = v.orderRow c := by
      unfold State.orderRow
      rw [clearPending_exc]
    rw [hcleared, recordOutcome_row_same, takeCell_row_same, hrow, OrderRow.withOutcome, ite_entryWritten]
    rfl
  case taken =>
    rw [hword k (by decide)]
    exact (takeCell_header hmemory (hrow ▸ hcurrents c)).1
  case stamped =>
    rw [hword k (by decide), (takeCell_header hmemory (hrow ▸ hcurrents c)).2, hnumber]
  case returned =>
    exact (Port.cellState_congr (hword p (by decide) _ _ _ _ _)).trans (takeCell_previous hmemory (hrow ▸ hp))
  case others =>
    have hinside := headerAddr_inside l hj
    rw [hword l hj, takeCell_header_other hlk (hrow ▸ hl) hj, hframe.wordAt (by omega) (.inr (by omega)),
      rewriteChannel_header_other c s hlk hj]

end

/-! ## What every sweep with one order leaves -/

section
variable {s : State} {c : OrderChannel}

/-- The pending word cleared, the sweep counted, and the rows of the other order channels, after the turn of the one channel
with an order and the end of the sweep. -/
theorem sweepEnd_turn (hwf : MemoryInv s) {x : State} {b : Bool} (hturn : orderTurn [] c (s, false) = (x, b)) (w : Bool) :
    (sweepEnd w x).port.wordAt (dirAddr c.number 1) = 0xFFFF ∧ (sweepEnd w x).exc.sweepCount = s.exc.sweepCount + 1 ∧
      ∀ d : OrderChannel, d ≠ c → (sweepEnd w x).orderRow d = s.orderRow d := by
  have hx : (orderTurn [] c (s, false)).1 = x := by rw [hturn]
  have hframe := quietTurn_turnFrame c (s, false)
  have hcleared := quietTurn_cleared c hwf false
  have hmemory := orderTurn_memoryInv [] c (t := (s, false)) hwf
  rw [hx] at hframe hcleared hmemory
  refine ⟨(sweepEnd_pendingWord w hmemory c).trans hcleared, ?_, fun d hd => ?_⟩
  · rw [sweepEnd_sweepCount, hframe.sweepCount]
  · rw [sweepEnd_orderRow, hframe.orders d hd]

/-- The header of a cell that no report channel holds is, after the sweep, what the turn left of it. -/
theorem sweepEnd_turn_header (hwf : MemoryInv s) {x : State} {b : Bool} (hturn : orderTurn [] c (s, false) = (x, b))
    {k : CellIndex} (hk : ∀ i : Fin 8, (s.reportRow i).held ≠ some k) {j : Nat} (hj : j < 6) (w : Bool) :
    (sweepEnd w x).port.wordAt (headerAddr k j) = x.port.wordAt (headerAddr k j) := by
  have hx : (orderTurn [] c (s, false)).1 = x := by rw [hturn]
  have hframe := quietTurn_turnFrame c (s, false)
  have hmemory := orderTurn_memoryInv [] c (t := (s, false)) hwf
  rw [hx] at hframe hmemory
  exact sweepEnd_header w hmemory (fun i => by rw [hframe.held]; exact hk i) hj

end

/-- The cells the table does not name are held by no report channel. -/
theorem not_held_of_unnamed {s : State} {k : CellIndex} (h : s.exc.names k = false) (i : Fin 8) :
    (s.reportRow i).held ≠ some k := (((names_iff s k).1 h).2 i).2

section
variable {s : State} {c : OrderChannel} {k : CellIndex} {writes : List VcWrite}

/-- A sweep with one refused order. -/
theorem sweep_refused (hrunning : s.running = true) (hmemory : MemoryInv s)
    (hidle : ∀ d : OrderChannel, d ≠ c → (vcWrites writes s).port.wordAt (dirAddr d.number 1) = 0xFFFF)
    (hpending : (vcWrites writes s).port.wordAt (dirAddr c.number 1) = indexWord (some k)) {code : OutcomeCode}
    {f : DetailFlags} (h : orderRefusal c k (vcWrites writes s) = some (code, f)) :
    ∃ t, exec (.intakeSweep writes []) s = .next t ∧
      t.orderRow c =
        { s.orderRow c with
          lastCode := code, lastFlags := f,
          result :=
            { cell := k.val, sequence := (vcWrites writes s).port.wordAt (headerAddr k 2), code := code, flags := f } } ∧
      ((vcWrites writes s).port.cellState k = cellFilled → (vcWrites writes s).exc.names k = false →
        t.port.wordAt (headerAddr k 1) = packBytes cellReturned code.code) ∧
      ((vcWrites writes s).port.cellState k ≠ cellFilled ∨ (vcWrites writes s).exc.names k = true →
        (∀ i : Fin 8, (s.reportRow i).held ≠ some k) →
        t.port.wordAt (headerAddr k 1) = (vcWrites writes s).port.wordAt (headerAddr k 1)) ∧
      (t.reportRow 5).changePending = true ∧ ExcOnly s t ∧ t.port.wordAt (dirAddr c.number 1) = 0xFFFF ∧
      t.exc.sweepCount = s.exc.sweepCount + 1 ∧ ∀ d : OrderChannel, d ≠ c → t.orderRow d = s.orderRow d := by
  have hwf : MemoryInv (vcWrites writes s) := vcWrites_memoryInv writes hmemory
  obtain ⟨x, hturn, hrow, hreturned, hleft, honly⟩ := refused_turn hwf hpending h
  have hheader (hk : ∀ i : Fin 8, (s.reportRow i).held ≠ some k) :=
    sweepEnd_turn_header hwf hturn hk (j := 1) (by decide) true
  have hvc : ExcOnly s (vcWrites writes s) := rfl
  refine ⟨sweepEnd true x, sweep_after_turns hrunning ((orderTurns_one hidle).trans hturn),
    (sweepEnd_orderRow true x c).trans hrow, fun hfilled hunnamed => ?_, fun hother hk => ?_, sweepEnd_asks x,
    (hvc.trans honly).trans (sweepEnd_excOnly true x), sweepEnd_turn hwf hturn true⟩
  · rw [hheader (not_held_of_unnamed hunnamed), hreturned hfilled hunnamed]
  · rw [hheader hk, hleft hother]

/-- A sweep with one order that its owner takes. -/
theorem sweep_taken (hrunning : s.running = true) (hmemory : MemoryInv s)
    (hidle : ∀ d : OrderChannel, d ≠ c → (vcWrites writes s).port.wordAt (dirAddr d.number 1) = 0xFFFF)
    (hpending : (vcWrites writes s).port.wordAt (dirAddr c.number 1) = indexWord (some k))
    (h : orderRefusal c k (vcWrites writes s) = none) {added : DetailFlags} {u : State}
    (hanswer : orderAnswer c k (vcWrites writes s) = .taken added u) {f : DetailFlags}
    (hf : f = (orderFlags c k (vcWrites writes s)).join added) :
    ∃ t, exec (.intakeSweep writes []) s = .next t ∧
      t.orderRow c =
        { s.orderRow c with
          current := some k, takeCount := (s.orderRow c).takeCount + 1, lastCode := takenCode f, lastFlags := f,
          result :=
            if (c = .demand ∨ c = .mode) ∧ takenCode f = .accepted then (s.orderRow c).result
            else
              { cell := k.val, sequence := (vcWrites writes s).port.wordAt (headerAddr k 2), code := takenCode f,
                flags := f } } ∧
      ExcOnly u t ∧ t.port.wordAt (headerAddr k 1) = packBytes cellTaken (takenCode f).code ∧
      t.port.wordAt (headerAddr k 5) = s.exc.frameNumber ∧
      (∀ p : CellIndex, (s.orderRow c).current = some p → (∀ i : Fin 8, (s.reportRow i).held ≠ some p) →
        t.port.cellState p = cellReturned) ∧
      (t.supply = s.supply ∧ t.sent = s.sent ∧ t.pending = s.pending) ∧
      t.port.wordAt (dirAddr c.number 1) = 0xFFFF ∧ t.exc.sweepCount = s.exc.sweepCount + 1 ∧
      ∀ d : OrderChannel, d ≠ c → t.orderRow d = s.orderRow d := by
  have hwf : MemoryInv (vcWrites writes s) := vcWrites_memoryInv writes hmemory
  obtain ⟨x, hturn, honly, hrow, htaken, hstamped, hprevious, -⟩ := taken_turn hwf hpending h hanswer hf
  obtain ⟨-, hunnamed, -⟩ := orderRefusal_none_checks h
  have hheader {p : CellIndex} (hp : ∀ i : Fin 8, (s.reportRow i).held ≠ some p) {j : Nat} (hj : j < 6) :=
    sweepEnd_turn_header hwf hturn hp hj (entryWritten c (takenCode f))
  have hall : ExcOnly u (sweepEnd (entryWritten c (takenCode f)) x) := honly.trans (sweepEnd_excOnly _ x)
  have hrewritten := rewriteChannel_excOnly c k (vcWrites writes s)
  have hframe := answer_frame hanswer
  refine ⟨sweepEnd (entryWritten c (takenCode f)) x, sweep_after_turns hrunning ((orderTurns_one hidle).trans hturn),
    (sweepEnd_orderRow _ x c).trans hrow, hall, ?_, ?_, fun p hp hheld => ?_, ?_, sweepEnd_turn hwf hturn _⟩
  · rw [hheader (not_held_of_unnamed hunnamed) (by decide), htaken]
  · rw [hheader (not_held_of_unnamed hunnamed) (by decide), hstamped]
    rfl
  · exact (Port.cellState_congr (hheader hheld (by decide))).trans (hprevious p hp)
  · rw [hall]
    refine ⟨hframe.supply.trans ?_, hframe.sent.trans ?_, hframe.pending.trans ?_⟩ <;> rw [hrewritten] <;> rfl

/-- The turn of a channel whose pending word names no cell (R170). -/
theorem beyond_turn {s : State} {v : Word} (hpending : s.port.wordAt (dirAddr c.number 1) = v) (hv : v ≠ 0xFFFF)
    (hbeyond : 96 ≤ v.toNat) :
    ∃ x, orderTurn [] c (s, false) = (x, true) ∧
      x.orderRow c =
        { s.orderRow c with
          lastCode := .badCell, lastFlags := DetailFlags.none,
          result := { cell := 255, sequence := 0, code := .badCell, flags := DetailFlags.none } } ∧
      ExcOnly s x ∧ (∀ i : Fin 8, x.reportRow i = s.reportRow i) ∧
      ∀ a : Nat, 0x100 ≤ a → x.port.byteAt a = s.port.byteAt a := by
  have hturn := orderTurn_pending (b := false) hpending hv
  rw [examine_beyond hbeyond, vcWrites_nil] at hturn
  have hentry : entryWritten c .badCell = true := by cases c <;> rfl
  have hcleared (u : State) : (clearPending c v u).orderRow c = u.orderRow c := by
    unfold State.orderRow
    rw [clearPending_exc]
  refine ⟨_, hturn, ?row, (recordOutcome_excOnly _ _ _ _ _ s).trans (clearPending_excOnly _ _ _), fun i => ?reports,
    fun a ha => ?bytes⟩
  case row => rw [hcleared, recordOutcome_row_same, OrderRow.withOutcome_written hentry]
  case reports =>
    unfold State.reportRow
    rw [clearPending_exc]
    rfl
  case bytes =>
    rw [clearPending_byteAt _ _ _ (by omega)]
    exact s.port.byteAt_setWord_other _ (by unfold dirAddr; omega) (by unfold dirAddr; omega)

/-- A sweep with a pending word that names no cell (R170). -/
theorem sweep_beyond (hrunning : s.running = true) (hmemory : MemoryInv s)
    (hidle : ∀ d : OrderChannel, d ≠ c → (vcWrites writes s).port.wordAt (dirAddr d.number 1) = 0xFFFF) {v : Word}
    (hpending : (vcWrites writes s).port.wordAt (dirAddr c.number 1) = v) (hv : v ≠ 0xFFFF) (hbeyond : 96 ≤ v.toNat) :
    ∃ t, exec (.intakeSweep writes []) s = .next t ∧
      t.orderRow c =
        { s.orderRow c with
          lastCode := .badCell, lastFlags := DetailFlags.none,
          result := { cell := 255, sequence := 0, code := .badCell, flags := DetailFlags.none } } ∧
      (t.reportRow 5).changePending = true ∧ ExcOnly s t ∧ t.port.wordAt (dirAddr c.number 1) = 0xFFFF ∧
      t.exc.sweepCount = s.exc.sweepCount + 1 ∧
      ((∀ i : Fin 8, (s.reportRow i).held = none) →
        ∀ a : Nat, 0x100 ≤ a → t.port.byteAt a = (vcWrites writes s).port.byteAt a) ∧
      ∀ d : OrderChannel, d ≠ c → t.orderRow d = s.orderRow d := by
  have hwf : MemoryInv (vcWrites writes s) := vcWrites_memoryInv writes hmemory
  have hvc : ExcOnly s (vcWrites writes s) := rfl
  obtain ⟨x, hturn, hrow, honly, hreports, hbytes⟩ := beyond_turn hpending hv hbeyond
  have hafter : MemoryInv x := by
    have h := orderTurn_memoryInv [] c (t := (vcWrites writes s, false)) hwf
    rwa [hturn] at h
  obtain ⟨hcleared, hcount, hothers⟩ := sweepEnd_turn hwf hturn true
  refine ⟨sweepEnd true x, sweep_after_turns hrunning ((orderTurns_one hidle).trans hturn),
    (sweepEnd_orderRow true x c).trans hrow, sweepEnd_asks x, (hvc.trans honly).trans (sweepEnd_excOnly true x), hcleared,
    hcount, fun hheld a ha => ?_, hothers⟩
  refine (sweepEnd_byteAt true hafter (by omega) (.inl (by omega)) fun i k hk => ?_).trans (hbytes a ha)
  obtain ⟨hk, -⟩ := hk
  rw [hreports] at hk
  exact nomatch (hheld i).symm.trans hk

end

end Sys2Proof.Machine
end

section
/-! PROOF. A MODE order that enters PRECHARGE has a LIMITS order of the same sweep refused (R169, R171). -/

namespace Sys2Proof.Machine

open Sys2Proof

section
variable {c : OrderChannel} {k : CellIndex} {s : State}

/-- The common checks that a cell passes on a channel (R170), the length apart. -/
structure CellPasses (c : OrderChannel) (k : CellIndex) (s : State) : Prop where
  pending : s.port.wordAt (dirAddr c.number 1) = indexWord (some k)
  block : blockInside k (s.port.offsetOf k) = true
  unnamed : s.exc.names k = false
  filled : s.port.cellState k = cellFilled
  cls : isLong k = c.long

/-- An order that passes the common checks is refused where its owner refuses it. -/
theorem CellPasses.refusal (h : CellPasses c k s) (hlength : orderLength c k s ≤ (s.port.wordAt (headerAddr k 3)).toNat)
    {code : OutcomeCode} (hanswer : orderAnswer c k s = .refused code) :
    orderRefusal c k s = some (code, orderFlags c k s) := by
  have hshort : ¬(s.port.header k).length < orderLength c k s := Nat.not_lt.2 hlength
  rw [orderRefusal, if_neg (by simp [h.block, h.unnamed]), if_neg (not_not.2 h.filled), if_neg (not_not.2 h.cls),
    if_neg hshort, hanswer]

/-- An order that passes the common checks is not refused where its owner takes it. -/
theorem CellPasses.taken (h : CellPasses c k s) (hlength : orderLength c k s ≤ (s.port.wordAt (headerAddr k 3)).toNat)
    {f : DetailFlags} {t : State} (hanswer : orderAnswer c k s = .taken f t) : orderRefusal c k s = none := by
  have hshort : ¬(s.port.header k).length < orderLength c k s := Nat.not_lt.2 hlength
  rw [orderRefusal, if_neg (by simp [h.block, h.unnamed]), if_neg (not_not.2 h.filled), if_neg (not_not.2 h.cls),
    if_neg hshort, hanswer]

end

/-! ## The MODE order -/

section
variable {k : CellIndex} {s : State}

/-- A MODE order with the key ON in STANDBY is taken, and DSV enters PRECHARGE with its limits as they are. -/
theorem orderAnswer_mode_precharge (h0 : word (s.port.wordsAt (dataAddr (s.port.offsetOf k)) 5) 0 = 1)
    (h1 : word (s.port.wordsAt (dataAddr (s.port.offsetOf k)) 5) 1 ≤ 2)
    (h3 : word (s.port.wordsAt (dataAddr (s.port.offsetOf k)) 5) 3 ≤ 1)
    (h4 : word (s.port.wordsAt (dataAddr (s.port.offsetOf k)) 5) 4 ≤ 1) (hstate : s.dsv.state = .standby)
    (hcool : s.dsv.cooldownTimer = none) (hrank : s.faults.highest.rank < 3) :
    ∃ f t, orderAnswer .mode k s = .taken f t ∧ t.dsv.state = .precharge ∧ t.dsv.limits = s.dsv.limits := by
  have honly := rewriteChannel_excOnly .mode k s
  have hdsv : (rewriteChannel .mode k s).dsv = s.dsv := by rw [honly]
  have hfaults : (rewriteChannel .mode k s).faults = s.faults := by rw [honly]
  generalize hp : s.port.wordsAt (dataAddr (s.port.offsetOf k)) 5 = p at h0 h1 h3 h4
  have hanswer : orderAnswer .mode k s = checkMode p (rewriteChannel .mode k s) := hp ▸ rfl
  refine ⟨_, _, hanswer.trans (checkMode_taken (by omega) h1 h3 h4), ?_⟩
  rw [takeMode_standby _ _ _ _ (decide_eq_true h0) (hdsv ▸ hstate) (hdsv ▸ hcool) (hfaults ▸ hrank), enterPrecharge_dsv,
    modeStored_dsv, hdsv]
  exact ⟨rfl, rfl⟩

/-- A LIMITS order is refused with STATE in PRECHARGE. -/
theorem orderAnswer_limits_precharge (h : s.dsv.state = .precharge) : orderAnswer .limits k s = .refused .state := by
  have honly := rewriteChannel_excOnly .limits k s
  have hdsv : (rewriteChannel .limits k s).dsv = s.dsv := by rw [honly]
  have hneither : ¬((rewriteChannel .limits k s).dsv.state = .standby ∨ (rewriteChannel .limits k s).dsv.state = .ready) := by
    rw [hdsv, h]
    decide
  exact if_neg hneither

end

/-- What passed the common checks before a take of another channel's order of another class passes them after it. -/
theorem CellPasses.after_take {c d : OrderChannel} {j k : CellIndex} {s x : State} (h : CellPasses d j s) (hdc : d ≠ c)
    (hjk : j ≠ k) (hframe : TurnFrame c (PendingByte c) s x) (hcurrent : (x.orderRow c).current = some k)
    (hheader : ∀ i < 6, x.port.wordAt (headerAddr j i) = s.port.wordAt (headerAddr j i)) : CellPasses d j x where
  pending := (hframe.pendingWord d fun _ ha => ha.other hdc).trans h.pending
  block := by
    have hoffset : x.port.offsetOf j = s.port.offsetOf j := congrArg BitVec.toNat (hheader 4 (by decide))
    rw [hoffset]
    exact h.block
  unnamed := by
    obtain ⟨horders, hreports⟩ := (names_false_iff s j).1 h.unnamed
    refine (names_false_iff x j).2 ⟨fun e => ?_, fun hr => hreports ((hframe.reported j).1 hr)⟩
    by_cases hec : e = c
    · subst hec
      rw [hcurrent]
      exact fun hk => hjk (Option.some.inj hk).symm
    · rw [hframe.orders e hec]
      exact horders e
  filled := (Port.cellState_congr (hheader 1 (by decide))).trans h.filled
  cls := h.cls

/-- A MODE order and a LIMITS order in one sweep: the first enters PRECHARGE, and the second is refused with STATE (R169). -/
theorem sweep_mode_limits {k j : CellIndex} {writes : List VcWrite} {s : State} (hrunning : s.running = true)
    (hmemory : MemoryInv s)
    (hidle : ∀ e : OrderChannel, e ≠ .mode → e ≠ .limits → (vcWrites writes s).port.wordAt (dirAddr e.number 1) = 0xFFFF)
    (hmode : CellPasses .mode k (vcWrites writes s)) (hlimits : CellPasses .limits j (vcWrites writes s))
    (hshort : 5 ≤ ((vcWrites writes s).port.wordAt (headerAddr k 3)).toNat)
    (hlong : 25 ≤ ((vcWrites writes s).port.wordAt (headerAddr j 3)).toNat) {f : DetailFlags} {u : State}
    (hanswer : orderAnswer .mode k (vcWrites writes s) = .taken f u) (hstate : u.dsv.state = .precharge)
    (hsettings : u.dsv.limits = s.dsv.limits) :
    ∃ t, exec (.intakeSweep writes []) s = .next t ∧ t.dsv.state = .precharge ∧ t.dsv.limits = s.dsv.limits ∧
      (t.orderRow .mode).current = some k ∧ (t.orderRow .limits).lastCode = .state ∧
      (t.orderRow .limits).current = (s.orderRow .limits).current := by
  have hwf : MemoryInv (vcWrites writes s) := vcWrites_memoryInv writes hmemory
  have hjk : j ≠ k := by
    intro e
    have hclass := hlimits.cls
    rw [e, hmode.cls] at hclass
    exact nomatch hclass
  obtain ⟨x, hturn, honly, hrow, -, -, -, hothers⟩ :=
    taken_turn hwf hmode.pending (hmode.taken hshort hanswer) hanswer rfl
  have hx : (orderTurn [] .mode (vcWrites writes s, false)).1 = x := by rw [hturn]
  have hframe := quietTurn_turnFrame .mode (vcWrites writes s, false)
  have hafter := orderTurn_memoryInv [] .mode (t := (vcWrites writes s, false)) hwf
  rw [hx] at hframe hafter
  have hcurrent : (x.orderRow .mode).current = some k := by rw [hrow]
  have hheader := hothers j hjk (((names_false_iff _ j).1 hlimits.unnamed).1 .mode)
  have hpasses : CellPasses .limits j x := hlimits.after_take (by decide) hjk hframe hcurrent hheader
  have hxstate : x.dsv.state = .precharge := by rw [honly]; exact hstate
  have hlength : orderLength .limits j x ≤ (x.port.wordAt (headerAddr j 3)).toNat := by
    rw [hheader 3 (by decide)]
    exact hlong
  obtain ⟨y, hturn', hrow', -, -, honly'⟩ :=
    refused_turn hafter hpasses.pending (hpasses.refusal hlength (orderAnswer_limits_precharge hxstate))
  have hy : (orderTurn [] .limits (x, false)).1 = y := by rw [hturn']
  have hframe' := quietTurn_turnFrame .limits (x, false)
  rw [hy] at hframe'
  have hturns : (orderTurns [] OrderChannel.all (vcWrites writes s, false)).1 = y := by
    rw [orderTurns_two (c := .mode) (d := .limits) (by decide) hidle, hturn, orderTurn_state [] .limits x _ false, hy]
  have hall (w : Bool) : ExcOnly u (sweepEnd w y) := honly.trans (honly'.trans (sweepEnd_excOnly w y))
  refine ⟨_, sweep_after_turns hrunning (Prod.ext hturns rfl), ?_, ?_, ?_, ?_, ?_⟩
  · rw [hall]
    exact hstate
  · rw [hall]
    exact hsettings
  · rw [sweepEnd_orderRow, hframe'.orders .mode (by decide)]
    exact hcurrent
  · rw [sweepEnd_orderRow, hrow']
  · rw [sweepEnd_orderRow, hrow', hframe.orders .limits (by decide)]
    rfl

end Sys2Proof.Machine
end

section
/-! PROOF. A pending word that the vehicle controller overwrites while an order is examined (R169; log 4). -/

namespace Sys2Proof.Machine

open Sys2Proof

/-! ## Ports that agree, and words written to them -/

theorem Port.byteAt_setWord_low (p : Port) {a : Nat} (w : Word) (ha : a < ramBytes) (h : Memory.wf p.ram = true) :
    (p.setWord a w).byteAt a = w.setWidth 8 :=
  ((p.setByte a _).byteAt_setByte_other _ (by omega)).trans (p.byteAt_setByte_same _ ha h)

namespace Port.Agree

variable {A : Nat → Prop} {p q : Port}

theorem refl (h : Memory.wf p.ram = true) : p.Agree A p := ⟨h, h, rfl, fun _ _ => rfl⟩

theorem trans {r : Port} (h : p.Agree A q) (k : q.Agree A r) : p.Agree A r :=
  ⟨h.left, k.right, k.attn.trans h.attn, fun a ha => (k.bytes a ha).trans (h.bytes a ha)⟩

/-- A word written to both makes them agree in its bytes. -/
theorem narrow (h : p.Agree A q) {a : Nat} (ha : a + 1 < ramBytes) (hA : ∀ x, A x → x = a ∨ x = a + 1) (w : Word) :
    (p.setWord a w).Agree NoByte (q.setWord a w) where
  left := p.wf_setWord a w h.left
  right := q.wf_setWord a w h.right
  attn := h.attn
  bytes x _ := by
    by_cases hlow : x = a
    · subst hlow
      rw [p.byteAt_setWord_low w (by omega) h.left, q.byteAt_setWord_low w (by omega) h.right]
    · by_cases hhigh : x = a + 1
      · subst hhigh
        rw [p.byteAt_setWord_high w ha h.left, q.byteAt_setWord_high w ha h.right]
      · rw [p.byteAt_setWord_other w hlow hhigh, q.byteAt_setWord_other w hlow hhigh]
        exact h.bytes x fun hx => (hA x hx).elim hlow hhigh

/-- A word written again where it stands. -/
theorem rewritten (h : Memory.wf p.ram = true) {a : Nat} (ha : a + 1 < ramBytes) {w : Word}
    (hlow : p.byteAt a = w.setWidth 8) (hhigh : p.byteAt (a + 1) = (w >>> 8).setWidth 8) : (p.setWord a w).Agree A p where
  left := p.wf_setWord a w h
  right := h
  attn := rfl
  bytes x _ := by
    by_cases hx : x = a
    · subst hx
      rw [p.byteAt_setWord_low w (by omega) h, hlow]
    · by_cases hx1 : x = a + 1
      · subst hx1
        rw [p.byteAt_setWord_high w ha h, hhigh]
      · exact (p.byteAt_setWord_other w hx hx1).symm

/-- Words written at two places that do not overlap may be written in either order. -/
theorem swapped (h : Memory.wf p.ram = true) {a b : Nat} (ha : a + 1 < ramBytes) (hb : b + 1 < ramBytes)
    (hab : a + 1 < b ∨ b + 1 < a) (v w : Word) : ((p.setWord a v).setWord b w).Agree A ((p.setWord b w).setWord a v) where
  left := Port.wf_setWord _ _ _ (p.wf_setWord a v h)
  right := Port.wf_setWord _ _ _ (p.wf_setWord b w h)
  attn := rfl
  bytes x _ := by
    have hwa := p.wf_setWord a v h
    have hwb := p.wf_setWord b w h
    by_cases hxa : x = a ∨ x = a + 1
    · rw [Port.byteAt_setWord_other (p.setWord a v) w (by omega) (by omega)]
      obtain rfl | rfl := hxa
      · rw [Port.byteAt_setWord_low _ v (by omega) hwb, Port.byteAt_setWord_low _ v (by omega) h]
      · rw [Port.byteAt_setWord_high _ v ha hwb, Port.byteAt_setWord_high _ v ha h]
    · rw [Port.byteAt_setWord_other (p.setWord b w) v (by omega) (by omega)]
      by_cases hxb : x = b ∨ x = b + 1
      · obtain rfl | rfl := hxb
        · rw [Port.byteAt_setWord_low _ w (by omega) hwa, Port.byteAt_setWord_low _ w (by omega) h]
        · rw [Port.byteAt_setWord_high _ w hb hwa, Port.byteAt_setWord_high _ w hb h]
      · rw [Port.byteAt_setWord_other _ _ (by omega) (by omega), Port.byteAt_setWord_other _ _ (by omega) (by omega),
          Port.byteAt_setWord_other _ _ (by omega) (by omega)]

end Port.Agree

/-! ## An examination reads no directory word (R170) -/

/-- The bytes lie in the directory. -/
def InDirectory (A : Nat → Prop) : Prop := ∀ a, A a → a < 0x80

namespace AgreeBut

variable {A : Nat → Prop} {s s' : State}

theorem exc (h : AgreeBut A s s') : s'.exc = s.exc := by rw [h.records]

theorem orderRow (h : AgreeBut A s s') (c : OrderChannel) : s'.orderRow c = s.orderRow c := by
  unfold State.orderRow
  rw [h.exc]

/-- An operation on the port. -/
theorem of_port {B : Nat → Prop} (h : AgreeBut A s s') {p q : Port} (hp : p.Agree B q) :
    AgreeBut B { s with port := p } { s' with port := q } := by
  refine ⟨?_, hp⟩
  have hrecords : s' = { s with port := s'.port } := h.records
  unfold SameRecords
  rw [hrecords]

theorem setRamWord (h : AgreeBut A s s') (a : Nat) (w : Word) : AgreeBut A (setRamWord a w s) (Machine.setRamWord a w s') :=
  h.of_port (h.port.setWord a w)

theorem setCell (h : AgreeBut A s s') (k : CellIndex) (x y : Nat) : AgreeBut A (setCell k x y s) (Machine.setCell k x y s') :=
  h.of_port (h.port.setWord _ _)

theorem setOrderRow (h : AgreeBut A s s') (c : OrderChannel) (r : OrderRow) :
    AgreeBut A (setOrderRow c r s) (Machine.setOrderRow c r s') := by
  refine ⟨?_, h.port⟩
  have hrecords : s' = { s with port := s'.port } := h.records
  unfold SameRecords
  rw [hrecords]
  rfl

theorem wordAt (h : AgreeBut A s s') (hA : InDirectory A) {a : Nat} (ha : 0x80 ≤ a) :
    s'.port.wordAt a = s.port.wordAt a :=
  h.port.wordAt (fun hx => by have := hA _ hx; omega) fun hx => by have := hA _ hx; omega

theorem headerWord (h : AgreeBut A s s') (hA : InDirectory A) (k : CellIndex) {j : Nat} (hj : j < 6) :
    s'.port.wordAt (headerAddr k j) = s.port.wordAt (headerAddr k j) :=
  h.wordAt hA (by have := headerAddr_inside k hj; omega)

theorem header (h : AgreeBut A s s') (hA : InDirectory A) (k : CellIndex) : s'.port.header k = s.port.header k := by
  unfold Port.header Port.cellState Port.offsetOf
  rw [h.headerWord hA k (j := 0) (by decide), h.headerWord hA k (j := 1) (by decide),
    h.headerWord hA k (j := 2) (by decide), h.headerWord hA k (j := 3) (by decide),
    h.headerWord hA k (j := 4) (by decide)]

theorem setCellState (h : AgreeBut A s s') (hA : InDirectory A) (k : CellIndex) (x : Nat) :
    AgreeBut A (setCellState k x s) (Machine.setCellState k x s') := by
  have hcode := h.headerWord hA k (j := 1) (by decide)
  refine h.of_port ?_
  unfold Port.setCellState
  rw [hcode]
  exact h.port.setWord _ _

theorem recordOutcome (h : AgreeBut A s s') (c : OrderChannel) (cell : Nat) (n : Word) (code : OutcomeCode)
    (f : DetailFlags) : AgreeBut A (recordOutcome c cell n code f s) (Machine.recordOutcome c cell n code f s') := by
  unfold Machine.recordOutcome
  dsimp only
  rw [h.orderRow c]
  exact (h.setOrderRow c _).setRamWord _ _

theorem refuseOrder (h : AgreeBut A s s') (c : OrderChannel) (k : CellIndex) (hd : CellHeader) (code : OutcomeCode)
    (f : DetailFlags) : AgreeBut A (refuseOrder c k hd code f s).1 (Machine.refuseOrder c k hd code f s').1 := by
  refine recordOutcome ?_ c _ _ _ _
  unfold refuseCell
  rw [h.exc]
  split
  · exact h.setCell k _ _
  · exact h

theorem rewriteChannel (h : AgreeBut A s s') (hA : InDirectory A) (c : OrderChannel) (k : CellIndex) :
    AgreeBut A (rewriteChannel c k s) (Machine.rewriteChannel c k s') := by
  unfold Machine.rewriteChannel
  rw [h.header hA k]
  split
  · exact h.setRamWord _ _
  · exact h

theorem returnPrevious (h : AgreeBut A s s') (hA : InDirectory A) (o : Option CellIndex) :
    AgreeBut A (returnPrevious o s) (Machine.returnPrevious o s') := by
  cases o with
  | none => exact h
  | some k => exact h.setCellState hA k _

/-- The order row of a channel replaced by what is formed from it. -/
theorem mapOrderRow (h : AgreeBut A s s') (c : OrderChannel) (g : OrderRow → OrderRow) :
    AgreeBut A (Machine.setOrderRow c (g (s.orderRow c)) s) (Machine.setOrderRow c (g (s'.orderRow c)) s') := by
  rw [h.orderRow c]
  exact h.setOrderRow c _

theorem stampFrame (h : AgreeBut A s s') (a : Nat) :
    AgreeBut A (Machine.setRamWord a s.exc.frameNumber s) (Machine.setRamWord a s'.exc.frameNumber s') := by
  rw [h.exc]
  exact h.setRamWord a _

theorem showTakeCount (h : AgreeBut A s s') (a : Nat) (c : OrderChannel) :
    AgreeBut A (Machine.setRamWord a (s.orderRow c).takeCount s) (Machine.setRamWord a (s'.orderRow c).takeCount s') := by
  rw [h.orderRow c]
  exact h.setRamWord a _

theorem takeCell (h : AgreeBut A s s') (hA : InDirectory A) (c : OrderChannel) (k : CellIndex) (code : OutcomeCode) :
    AgreeBut A (takeCell c k code s) (Machine.takeCell c k code s') := by
  have hstamped := (h.setCell k cellTaken code.code).stampFrame (headerAddr k 5)
  have hrow := hstamped.mapOrderRow c fun r => { r with current := some k, takeCount := r.takeCount + 1 }
  have hreturned := (hrow.setRamWord (dirAddr c.number 0) (indexWord (some k))).returnPrevious hA (s.orderRow c).current
  have hcounted := hreturned.showTakeCount (dirAddr c.number 2) c
  unfold Machine.takeCell
  dsimp only
  rw [h.orderRow c]
  exact hcounted

theorem handToOwner (h : AgreeBut A s s') (hA : InDirectory A) (c : OrderChannel) (k : CellIndex) (hd : CellHeader)
    (f : DetailFlags) (n : Nat) :
    AgreeBut A (handToOwner c k hd f n s).1 (Machine.handToOwner c k hd f n s').1 ∧
      (Machine.handToOwner c k hd f n s').2 = (Machine.handToOwner c k hd f n s).2 := by
  have hpayload : s'.port.wordsAt (dataAddr hd.offset) n = s.port.wordsAt (dataAddr hd.offset) n :=
    h.port.wordsAt fun x hx hAx => by
      have := hA x hAx
      unfold dataAddr at hx
      omega
  have hanswers := answer_parallel (s.port.wordsAt (dataAddr hd.offset) n) s s'.port c hd.sequence
  rw [← show s' = { s with port := s'.port } from h.records] at hanswers
  unfold Machine.handToOwner
  rw [hpayload]
  generalize c.answer (s.port.wordsAt (dataAddr hd.offset) n) hd.sequence s = answer at hanswers ⊢
  generalize c.answer (s.port.wordsAt (dataAddr hd.offset) n) hd.sequence s' = answer' at hanswers ⊢
  cases hanswers with
  | refused code => exact ⟨h.refuseOrder c k hd code f, rfl⟩
  | taken added ht => exact ⟨((ht.agree h).takeCell hA c k _).recordOutcome c _ _ _ _, rfl⟩

/-- The header is read before the words written meanwhile, and the rest of the examination reads no directory word: it keeps
the agreement of the states in which the payload is read. -/
theorem examine {B : Nat → Prop} {mid mid' : List VcWrite} {c : OrderChannel} (hA : InDirectory A) (hB : InDirectory B)
    (h : AgreeBut A s s') (hwritten : AgreeBut B (vcWrites mid s) (vcWrites mid' s'))
    (hrewritten : ∀ k,
      AgreeBut B (vcWrites mid (Machine.rewriteChannel c k s)) (vcWrites mid' (Machine.rewriteChannel c k s')))
    (w : Word) :
    AgreeBut B (examine mid c w s).1 (Machine.examine mid' c w s').1 ∧
      (Machine.examine mid' c w s').2 = (Machine.examine mid c w s).2 := by
  unfold Machine.examine
  cases cellOf w with
  | none => exact ⟨hwritten.recordOutcome c _ _ _ _, rfl⟩
  | some k =>
    have hfixed : fixedLengthAt c (s.port.header k) (vcWrites mid' (Machine.rewriteChannel c k s')).port =
        fixedLengthAt c (s.port.header k) (vcWrites mid (Machine.rewriteChannel c k s)).port :=
      congrArg (fun v : Word => c.fixedLength v.toNat) ((hrewritten k).wordAt hB (by unfold dataAddr; omega))
    unfold examineCell
    dsimp only
    rw [h.header hA k, h.exc]
    cases firstRefusal c k (s.port.header k) s.exc with
    | some code => exact ⟨hwritten.refuseOrder c k _ _ _, rfl⟩
    | none =>
      dsimp only
      rw [hfixed]
      cases lengthCheck (fixedLengthAt c (s.port.header k) (vcWrites mid (Machine.rewriteChannel c k s)).port)
        (s.port.header k).length { DetailFlags.none with channel := channelDiffers c (s.port.header k) } with
      | refused code flags => exact ⟨(hrewritten k).refuseOrder c k _ _ _, rfl⟩
      | passed flags length => exact (hrewritten k).handToOwner hB c k _ _ _

/-- Two examinations with nothing written meanwhile. -/
theorem examine_quiet (h : AgreeBut A s s') (hA : InDirectory A) (c : OrderChannel) (w : Word) :
    AgreeBut A (Machine.examine [] c w s).1 (Machine.examine [] c w s').1 ∧
      (Machine.examine [] c w s').2 = (Machine.examine [] c w s).2 :=
  h.examine (mid := []) (mid' := []) hA hA h (fun k => h.rewriteChannel hA c k) w

theorem clearPending (h : AgreeBut NoByte s s') (c : OrderChannel) (w : Word) :
    AgreeBut NoByte (Machine.clearPending c w s) (Machine.clearPending c w s') := by
  unfold Machine.clearPending
  rw [h.port.wordAt id id]
  split
  · exact h.setRamWord _ _
  · exact h

/-- The turns of one channel in two states that hold the same bytes. -/
theorem quietTurn (h : AgreeBut NoByte s s') (c : OrderChannel) (b : Bool) :
    AgreeBut NoByte (orderTurn [] c (s, b)).1 (orderTurn [] c (s', b)).1 := by
  have hword := h.port.wordAt (a := dirAddr c.number 1) id id
  by_cases hidle : s.port.wordAt (dirAddr c.number 1) = 0xFFFF
  · rw [orderTurn_idle hidle, orderTurn_idle (hword.trans hidle)]
    exact h
  · rw [orderTurn_pending rfl hidle, orderTurn_pending hword hidle]
    exact (h.examine_quiet (fun _ => False.elim) c _).1.clearPending c _

theorem refl (h : MemoryInv s) : AgreeBut A s s := ⟨rfl, .refl h⟩

theorem trans {u : State} (h : AgreeBut A s s') (k : AgreeBut A s' u) : AgreeBut A s u := by
  refine ⟨?_, h.port.trans k.port⟩
  have hfirst : s' = { s with port := s'.port } := h.records
  have hsecond : u = { s' with port := u.port } := k.records
  unfold SameRecords
  rw [hsecond, hfirst]

theorem symm (h : AgreeBut A s s') : AgreeBut A s' s := by
  refine ⟨?_, h.port.right, h.port.left, h.port.attn.symm, fun a ha => (h.port.bytes a ha).symm⟩
  have hrecords : s' = { s with port := s'.port } := h.records
  unfold SameRecords
  rw [hrecords]

theorem excOnly (h : AgreeBut A s s') : ExcOnly s s' := by
  have hrecords : s' = { s with port := s'.port } := h.records
  rw [hrecords]
  exact .intro s.exc _

end AgreeBut

/-! ## A pending word written in the turn of another channel -/

/-- The write of the pending word of an order channel. -/
def pendingWrite (d : OrderChannel) (value : Word) : VcWrite :=
  { addr := BitVec.ofNat 13 (4 * d.number.val + 1), value := value }

section
variable {d : OrderChannel} {s : State}

theorem pendingWrite_addr (d : OrderChannel) (value : Word) :
    2 * (pendingWrite d value).addr.toNat = dirAddr d.number 1 := by
  unfold pendingWrite dirAddr
  rw [BitVec.toNat_ofNat]
  omega

theorem vcWrites_pendingWrite (d : OrderChannel) (value : Word) (s : State) :
    vcWrites [pendingWrite d value] s = setRamWord (dirAddr d.number 1) value s := by
  have hport : s.port.vcWrites [pendingWrite d value] = s.port.setWord (dirAddr d.number 1) value :=
    congrArg (fun a => s.port.setWord a value) (pendingWrite_addr d value)
  unfold vcWrites setRamWord
  rw [hport]

theorem within_pendingWrite (d : OrderChannel) (value : Word) : Within (PendingByte d) [pendingWrite d value] := by
  intro v hv
  rw [List.mem_singleton.1 hv, pendingWrite_addr]
  exact ⟨.inl rfl, .inr rfl⟩

theorem pendingByte_inDirectory (d : OrderChannel) : InDirectory (PendingByte d) := fun a ha => by
  have := PendingByte.lt ha
  omega

theorem noByte_inDirectory : InDirectory NoByte := fun _ => False.elim

/-- A pending word written: the states before and after agree but for its bytes. -/
theorem setPending_agree (h : MemoryInv s) (d : OrderChannel) (value : Word) :
    AgreeBut (PendingByte d) s (setRamWord (dirAddr d.number 1) value s) :=
  ⟨rfl, h, s.port.wf_setWord _ _ h, rfl, fun _ ha =>
    s.port.byteAt_setWord_other _ (fun e => ha (.inl e)) fun e => ha (.inr e)⟩

theorem pendingAddr_ram (d : OrderChannel) : dirAddr d.number 1 + 1 < ramBytes := by
  have := pendingAddr_lt d
  unfold ramBytes
  omega

/-- An examination after the write of a pending word is the write after the examination. -/
theorem examine_after_write (h : MemoryInv s) (c d : OrderChannel) (value w : Word) :
    AgreeBut NoByte (setRamWord (dirAddr d.number 1) value (examine [] c w s).1)
      (examine [] c w (setRamWord (dirAddr d.number 1) value s)).1 := by
  have hagree := ((setPending_agree h d value).examine_quiet (pendingByte_inDirectory d) c w).1
  have hwritten : MemoryInv (setRamWord (dirAddr d.number 1) value s) := setRamWord_memoryInv _ _ h
  have hmemory := examine_memoryInv [] c w hwritten
  have hnarrowed := hagree.of_port (hagree.port.narrow (pendingAddr_ram d) (fun _ => id) value)
  have hframe := examine_turnFrame (c := c) (W := NoByte) within_nil w (setRamWord (dirAddr d.number 1) value s)
  have hkept {a : Nat} (ha : PendingByte d a) := hframe.bytes a (by have := ha.lt; omega) ha.keeps id
  refine hnarrowed.trans ⟨rfl, Port.Agree.rewritten hmemory (pendingAddr_ram d) ?_ ?_⟩
  · rw [hkept (.inl rfl)]
    exact s.port.byteAt_setWord_low value (by have := pendingAddr_ram d; omega) h
  · rw [hkept (.inr rfl)]
    exact s.port.byteAt_setWord_high value (pendingAddr_ram d) h

/-- The rewrite of a header's channel field and the write of a pending word, in either order. -/
theorem rewriteChannel_write (h : MemoryInv s) (c : OrderChannel) (k : CellIndex) (d : OrderChannel) (value : Word) :
    AgreeBut NoByte (setRamWord (dirAddr d.number 1) value (rewriteChannel c k s))
      (rewriteChannel c k (setRamWord (dirAddr d.number 1) value s)) := by
  have hheader := (setPending_agree h d value).header (pendingByte_inDirectory d) k
  have hinside := headerAddr_inside k (j := 0) (by decide)
  have hlow := pendingAddr_lt d
  unfold rewriteChannel
  rw [hheader]
  split
  · exact ⟨rfl, .swapped h (by unfold ramBytes; omega) (pendingAddr_ram d) (by omega) _ _⟩
  · exact .refl (setRamWord_memoryInv _ _ h)

end

/-! ## A turn with one late write (log 4) -/

theorem lateAt_same (n : Nat) (m : Moment) (v : VcWrite) : lateAt [{ channel := n, moment := m, write := v }] n m = [v] := by
  simp [lateAt]

theorem lateAt_moment {m m' : Moment} (h : m ≠ m') (n : Nat) (v : VcWrite) :
    lateAt [{ channel := n, moment := m, write := v }] n m' = [] := by
  simp [lateAt, h]

theorem lateAt_channel {n n' : Nat} (h : n ≠ n') (m m' : Moment) (v : VcWrite) :
    lateAt [{ channel := n, moment := m, write := v }] n' m' = [] := by
  simp [lateAt, h]

section
variable {c d : OrderChannel} {s : State} {value : Word}

/-- The late write of a pending word in the turn of order channel c. -/
def lateWrite (c d : OrderChannel) (m : Moment) (value : Word) : LateWrite :=
  { channel := c.number.val, moment := m, write := pendingWrite d value }

/-- In whichever moment of the turn the word is written, the examination is the one without it, and the word stands in the
exchange RAM when the pending word is cleared. -/
theorem lateTurn_eq (h : MemoryInv s) {w : Word} (hw : s.port.wordAt (dirAddr c.number 1) = w) (hne : w ≠ 0xFFFF)
    (m : Moment) (b : Bool) :
    ∃ v, (orderTurn [lateWrite c d m value] c (s, b)).1 = clearPending c w v ∧
      AgreeBut NoByte (setRamWord (dirAddr d.number 1) value (examine [] c w s).1) v := by
  subst hw
  refine ⟨_, congrArg Prod.fst (if_neg hne), ?_⟩
  unfold lateWrite
  dsimp only
  cases m
  case early =>
    rw [lateAt_same, lateAt_moment (by decide), lateAt_moment (by decide), vcWrites_nil, vcWrites_pendingWrite]
    exact examine_after_write h c d value _
  case mid =>
    rw [lateAt_same, lateAt_moment (by decide), lateAt_moment (by decide), vcWrites_nil, vcWrites_nil]
    refine (examine_after_write h c d value _).trans (AgreeBut.symm ?_)
    refine ((setPending_agree h d value).examine (mid' := []) (pendingByte_inDirectory d) noByte_inDirectory ?_ (fun k => ?_)
      _).1
    · rw [vcWrites_pendingWrite]
      exact .refl (setRamWord_memoryInv _ _ h)
    · rw [vcWrites_pendingWrite]
      exact rewriteChannel_write h c k d value
  case end_ =>
    rw [lateAt_same, lateAt_moment (by decide), lateAt_moment (by decide), vcWrites_nil, vcWrites_pendingWrite]
    exact .refl (setRamWord_memoryInv _ _ (examine_memoryInv [] c _ h))

/-- A turn in which nothing is written. -/
theorem orderTurn_untouched {late : List LateWrite} (h : ∀ m, lateAt late c.number m = []) (t : State × Bool) :
    orderTurn late c t = orderTurn [] c t := by
  unfold orderTurn lateAll
  simp only [h]
  rfl

end

end Sys2Proof.Machine
end

section
/-! PROOF. A sweep in which a pending word is overwritten meanwhile, and the statement about sweeps that take an order
(R169). -/

namespace Sys2Proof.Machine

open Sys2Proof

/-! ## The turns of a sweep with one late write -/

/-- A byte of the pending words of two channels. -/
def PairByte (c d : OrderChannel) (a : Nat) : Prop := PendingByte c a ∨ PendingByte d a

section
variable {c d : OrderChannel} {s : State} {m : Moment} {value : Word}

theorem lateWrite_channel {e : OrderChannel} (h : e ≠ c) (m' : Moment) :
    lateAt [lateWrite c d m value] e.number.val m' = [] :=
  lateAt_channel (fun hval => h (OrderChannel.number_injective (Fin.ext hval.symm))) m m' _

theorem lateWrite_within (e : OrderChannel) (m' : Moment) :
    Within (PairByte c d) (lateAt [lateWrite c d m value] e.number.val m') := by
  by_cases he : e = c
  · subst he
    by_cases hm : m = m'
    · subst hm
      unfold lateWrite
      rw [lateAt_same]
      exact fun v hv => ⟨.inr (within_pendingWrite d value v hv).1, .inr (within_pendingWrite d value v hv).2⟩
    · unfold lateWrite
      rw [lateAt_moment hm]
      exact within_nil
  · rw [lateWrite_channel he]
    exact within_nil

/-- With one late write the turn of channel c or d writes, of the pending words, those two alone. -/
theorem lateTurn_frame {e : OrderChannel} (he : e = c ∨ e = d) (t : State × Bool) :
    TurnFrame e (PairByte c d) t.1 (orderTurn [lateWrite c d m value] e t).1 :=
  orderTurn_turnFrame (lateWrite_within e) (fun _ ha => he.imp (fun h => h ▸ ha) fun h => h ▸ ha) t

theorem lateTurn_keeps {e f : OrderChannel} (he : e = c ∨ e = d) (hf : ¬(f = c ∨ f = d)) (t : State × Bool) :
    (orderTurn [lateWrite c d m value] e t).1.port.wordAt (dirAddr f.number 1) = t.1.port.wordAt (dirAddr f.number 1) :=
  (lateTurn_frame he t).pendingWord f fun _ ha hW =>
    hW.elim (ha.other fun h => hf (.inl h)) (ha.other fun h => hf (.inr h))

/-- The turns of the sweep are those of the two channels, the lower one first. -/
theorem lateTurns_filter {S : OrderChannel → Prop} [DecidablePred S] (hS : ∀ e, S e ↔ e = c ∨ e = d)
    (hidle : ∀ e : OrderChannel, e ≠ c → s.port.wordAt (dirAddr e.number 1) = 0xFFFF) :
    orderTurns [lateWrite c d m value] OrderChannel.all (s, false) =
      orderTurns [lateWrite c d m value] (OrderChannel.all.filter fun e => decide (S e)) (s, false) := by
  refine orderTurns_filter (t := (s, false)) (S := S) (fun e he u => ?_) (fun e he f hf u => ?_) fun e he => ?_
  · have hec : e ≠ c := fun h => he ((hS e).2 (.inl h))
    unfold lateAll
    rw [lateWrite_channel hec, lateWrite_channel hec, lateWrite_channel hec]
    rfl
  · exact lateTurn_keeps ((hS e).1 he) (fun h => hf ((hS f).2 h)) u
  · exact hidle e fun h => he ((hS e).2 (.inl h))

theorem lateTurns_own (hidle : ∀ e : OrderChannel, e ≠ c → s.port.wordAt (dirAddr e.number 1) = 0xFFFF) :
    orderTurns [lateWrite c c m value] OrderChannel.all (s, false) = orderTurn [lateWrite c c m value] c (s, false) := by
  rw [lateTurns_filter (S := fun e => e = c) (fun e => (or_self_iff).symm) hidle, channels_one]
  rfl

/-- A lower channel had its turn before (R169). -/
theorem lateTurns_lower (hdc : d.number < c.number)
    (hidle : ∀ e : OrderChannel, e ≠ c → s.port.wordAt (dirAddr e.number 1) = 0xFFFF) :
    orderTurns [lateWrite c d m value] OrderChannel.all (s, false) = orderTurn [lateWrite c d m value] c (s, false) := by
  have hne : d ≠ c := fun h => lt_irrefl _ (h ▸ hdc)
  rw [lateTurns_filter (S := fun e => e = d ∨ e = c) (fun e => or_comm) hidle, channels_two hdc, orderTurns, orderTurns,
    orderTurn_untouched (lateWrite_channel hne), orderTurn_idle (hidle d hne)]
  rfl

/-- A higher channel has its turn after (R169). -/
theorem lateTurns_higher (hcd : c.number < d.number)
    (hidle : ∀ e : OrderChannel, e ≠ c → s.port.wordAt (dirAddr e.number 1) = 0xFFFF) :
    orderTurns [lateWrite c d m value] OrderChannel.all (s, false) =
      orderTurn [] d (orderTurn [lateWrite c d m value] c (s, false)) := by
  have hne : d ≠ c := fun h => lt_irrefl _ (h ▸ hcd)
  rw [lateTurns_filter (S := fun e => e = c ∨ e = d) (fun e => Iff.rfl) hidle, channels_two hcd, orderTurns, orderTurns,
    orderTurn_untouched (lateWrite_channel hne)]
  rfl

/-! ## The sweep -/

theorem ExcOnly.symm {s t : State} (h : ExcOnly s t) : ExcOnly t s := by
  have honly : t = { s with exc := t.exc, port := t.port } := h
  unfold ExcOnly
  rw [honly]

/-- The word as read stands in the exchange RAM after the examination. -/
theorem examine_pendingWord (c e : OrderChannel) (w : Word) (s : State) :
    (examine [] c w s).1.port.wordAt (dirAddr e.number 1) = s.port.wordAt (dirAddr e.number 1) :=
  (examine_turnFrame (W := NoByte) within_nil w s).pendingWord e fun _ _ => id

/-- The examination and the records after a turn with a late write are those of the turn without it. -/
theorem lateTurn_records (h : MemoryInv s) (hne : s.port.wordAt (dirAddr c.number 1) ≠ 0xFFFF) (b : Bool) :
    ExcOnly (orderTurn [] c (s, b)).1 (orderTurn [lateWrite c d m value] c (s, b)).1 ∧
      (orderTurn [lateWrite c d m value] c (s, b)).1.exc = (orderTurn [] c (s, b)).1.exc := by
  obtain ⟨v, hv, hagree⟩ := lateTurn_eq (d := d) (value := value) h rfl hne m b
  have hwritten : ExcOnly (examine [] c (s.port.wordAt (dirAddr c.number 1)) s).1 v :=
    (setRamWord_excOnly _ _ _).trans hagree.excOnly
  rw [hv, orderTurn_pending rfl hne]
  refine ⟨(clearPending_excOnly c _ _).symm.trans (hwritten.trans (clearPending_excOnly c _ v)), ?_⟩
  rw [clearPending_exc, clearPending_exc, hagree.exc]
  rfl

/-- The channel's own pending word, overwritten in its turn, is cleared only if it holds the value read (R169). -/
theorem lateTurn_own (h : MemoryInv s) {w : Word} (hw : s.port.wordAt (dirAddr c.number 1) = w) (hne : w ≠ 0xFFFF)
    (b : Bool) :
    (orderTurn [lateWrite c c m value] c (s, b)).1.port.wordAt (dirAddr c.number 1) =
      if value = w then 0xFFFF else value := by
  obtain ⟨v, hv, hagree⟩ := lateTurn_eq (d := c) (value := value) h hw hne m b
  have hword : v.port.wordAt (dirAddr c.number 1) = value :=
    (hagree.port.wordAt id id).trans
      (Port.wordAt_setWord_same _ value (pendingAddr_ram c) (examine_memoryInv [] c w h))
  rw [hv]
  by_cases hvalue : value = w
  · rw [if_pos hvalue]
    exact clearPending_same hagree.port.right (hword.trans hvalue)
  · rw [if_neg hvalue, clearPending_other (hword ▸ hvalue), hword]

/-- With another channel's pending word overwritten, the channel's own is cleared, and the other holds the word written. -/
theorem lateTurn_other (h : MemoryInv s) (hne : s.port.wordAt (dirAddr c.number 1) ≠ 0xFFFF) (hdc : d ≠ c) (b : Bool) :
    AgreeBut NoByte (setRamWord (dirAddr d.number 1) value (orderTurn [] c (s, b)).1)
      (orderTurn [lateWrite c d m value] c (s, b)).1 := by
  obtain ⟨v, hv, hagree⟩ := lateTurn_eq (d := d) (value := value) h rfl hne m b
  rw [hv, orderTurn_pending rfl hne]
  dsimp only
  generalize hw : s.port.wordAt (dirAddr c.number 1) = w at hagree ⊢
  have hexamined : MemoryInv (examine [] c w s).1 := examine_memoryInv [] c w h
  have hread : (examine [] c w s).1.port.wordAt (dirAddr c.number 1) = w := (examine_pendingWord c c w s).trans hw
  have hstands : v.port.wordAt (dirAddr c.number 1) = w :=
    (hagree.port.wordAt id id).trans ((Port.wordAt_setWord_other _ _ (pendingAddr_apart hdc.symm)).trans hread)
  have hcleared := hagree.setRamWord (dirAddr c.number 1) 0xFFFF
  have hswapped : AgreeBut NoByte
      (setRamWord (dirAddr d.number 1) value (setRamWord (dirAddr c.number 1) 0xFFFF (examine [] c w s).1))
      (setRamWord (dirAddr c.number 1) 0xFFFF (setRamWord (dirAddr d.number 1) value (examine [] c w s).1)) :=
    ⟨rfl, .swapped hexamined (pendingAddr_ram c) (pendingAddr_ram d) (pendingAddr_apart hdc.symm) _ _⟩
  unfold clearPending
  rw [if_pos hread, if_pos hstands]
  exact hswapped.trans hcleared

end

/-! ## The sweep -/

section
variable {c d : OrderChannel} {s : State} {m : Moment} {value : Word} {writes : List VcWrite}

/-- A sweep whose turns are those of channel c, with one late write, to the state z. -/
theorem sweep_late (hrunning : s.running = true) (hmemory : MemoryInv s)
    (hidle : ∀ e : OrderChannel, e ≠ c → (vcWrites writes s).port.wordAt (dirAddr e.number 1) = 0xFFFF)
    (hturns : orderTurns [lateWrite c d m value] OrderChannel.all (vcWrites writes s, false) =
      orderTurn [lateWrite c d m value] c (vcWrites writes s, false))
    (hne : (vcWrites writes s).port.wordAt (dirAddr c.number 1) ≠ 0xFFFF) :
    ∃ t, exec (.intakeSweep writes [lateWrite c d m value]) s = .next t ∧ t.exc.sweepCount = s.exc.sweepCount + 1 ∧
      (∀ e : OrderChannel, e ≠ c → e ≠ d → t.port.wordAt (dirAddr e.number 1) = 0xFFFF) ∧
      ExcOnly (orderTurn [] c (vcWrites writes s, false)).1 t ∧
      t.exc.orders = (orderTurn [] c (vcWrites writes s, false)).1.exc.orders ∧
      ∀ e : OrderChannel, t.port.wordAt (dirAddr e.number 1) =
        (orderTurn [lateWrite c d m value] c (vcWrites writes s, false)).1.port.wordAt (dirAddr e.number 1) := by
  have hwf : MemoryInv (vcWrites writes s) := vcWrites_memoryInv writes hmemory
  have hafter := orderTurn_memoryInv [lateWrite c d m value] c (t := (vcWrites writes s, false)) hwf
  have hframe := lateTurn_frame (c := c) (d := d) (m := m) (value := value) (.inl rfl) (vcWrites writes s, false)
  obtain ⟨honly, hexc⟩ := lateTurn_records (d := d) (m := m) (value := value) hwf hne false
  have hkept (e : OrderChannel) (hec : e ≠ c) (hed : e ≠ d) :=
    lateTurn_keeps (c := c) (d := d) (m := m) (value := value) (.inl rfl) (not_or.2 ⟨hec, hed⟩) (vcWrites writes s, false)
  have hexec := sweep_after_turns hrunning (hturns.trans Prod.mk.eta.symm)
  generalize orderTurn [lateWrite c d m value] c (vcWrites writes s, false) = z at *
  refine ⟨sweepEnd z.2 z.1, hexec, ?_, fun e hec hed => ?_, honly.trans (sweepEnd_excOnly _ _), ?_,
    sweepEnd_pendingWord _ hafter⟩
  · rw [sweepEnd_sweepCount, hframe.sweepCount]
    rfl
  · rw [sweepEnd_pendingWord _ hafter, hkept e hec hed]
    exact hidle e hec
  · rw [sweepEnd_orders, hexc]

/-- A higher channel's pending word is examined in the same sweep (R169). -/
theorem sweep_late_higher (hrunning : s.running = true) (hmemory : MemoryInv s)
    (hidle : ∀ e : OrderChannel, e ≠ c → (vcWrites writes s).port.wordAt (dirAddr e.number 1) = 0xFFFF)
    (hcd : c.number < d.number) (hne : (vcWrites writes s).port.wordAt (dirAddr c.number 1) ≠ 0xFFFF) {y : State}
    (hy : (orderTurn [] d (vcWrites [pendingWrite d value] (orderTurn [] c (vcWrites writes s, false)).1, false)).1 = y) :
    ∃ t, exec (.intakeSweep writes [lateWrite c d m value]) s = .next t ∧ t.exc.sweepCount = s.exc.sweepCount + 1 ∧
      (∀ e : OrderChannel, e ≠ c → e ≠ d → t.port.wordAt (dirAddr e.number 1) = 0xFFFF) ∧ ExcOnly y t ∧
      t.exc.orders = y.exc.orders ∧ t.port.wordAt (dirAddr c.number 1) = 0xFFFF ∧
      t.port.wordAt (dirAddr d.number 1) = 0xFFFF := by
  have hdc : d ≠ c := fun h => lt_irrefl _ (h ▸ hcd)
  have hwf : MemoryInv (vcWrites writes s) := vcWrites_memoryInv writes hmemory
  have hquiet := orderTurn_memoryInv [] c (t := (vcWrites writes s, false)) hwf
  have hframe := lateTurn_frame (c := c) (d := d) (m := m) (value := value) (.inl rfl) (vcWrites writes s, false)
  have hagree := lateTurn_other (m := m) (value := value) hwf hne hdc false
  have hcleared : (orderTurn [lateWrite c d m value] c (vcWrites writes s, false)).1.port.wordAt (dirAddr c.number 1) =
      0xFFFF :=
    (hagree.port.wordAt id id).trans
      ((Port.wordAt_setWord_other _ _ (pendingAddr_apart hdc.symm)).trans (quietTurn_cleared c hwf false))
  have hkept (e : OrderChannel) (hec : e ≠ c) (hed : e ≠ d) :=
    lateTurn_keeps (c := c) (d := d) (m := m) (value := value) (.inl rfl) (not_or.2 ⟨hec, hed⟩) (vcWrites writes s, false)
  have hexec := sweep_after_turns hrunning ((lateTurns_higher (m := m) (value := value) hcd hidle).trans Prod.mk.eta.symm)
  have hlast := hagree.quietTurn d false
  rw [vcWrites_pendingWrite] at hy
  rw [hy] at hlast
  generalize orderTurn [lateWrite c d m value] c (vcWrites writes s, false) = z at *
  obtain ⟨z, b⟩ := z
  have hstate : (orderTurn [] d (z, b)).1 = (orderTurn [] d (z, false)).1 := orderTurn_state [] d z b false
  have hturned := quietTurn_turnFrame d (z, b)
  have hcleared' := quietTurn_cleared d hagree.port.right b
  have hafter := orderTurn_memoryInv [] d (t := (z, b)) hagree.port.right
  rw [← hstate] at hlast
  generalize orderTurn [] d (z, b) = last at *
  have hword (e : OrderChannel) : (sweepEnd last.2 last.1).port.wordAt (dirAddr e.number 1) =
      last.1.port.wordAt (dirAddr e.number 1) := sweepEnd_pendingWord _ hafter e
  have hothers {e : OrderChannel} (he : e ≠ d) : last.1.port.wordAt (dirAddr e.number 1) = z.port.wordAt (dirAddr e.number 1) :=
    hturned.pendingWord e fun _ ha => ha.other he
  refine ⟨sweepEnd last.2 last.1, hexec, ?_, fun e hec hed => ?_, hlast.excOnly.trans (sweepEnd_excOnly _ _), ?_, ?_,
    (hword d).trans hcleared'⟩
  · rw [sweepEnd_sweepCount, hturned.sweepCount, hframe.sweepCount]
    rfl
  · rw [hword, hothers hed, hkept e hec hed]
    exact hidle e hec
  · rw [sweepEnd_orders, hlast.exc]
  · rw [hword, hothers hdc.symm, hcleared]

/-- Two orders in one sweep: the one on the lower channel first (R169). -/
theorem sweep_two (hrunning : s.running = true) (hmemory : MemoryInv s) (hcd : c.number < d.number)
    (hidle : ∀ e : OrderChannel, e ≠ c → e ≠ d → (vcWrites writes s).port.wordAt (dirAddr e.number 1) = 0xFFFF)
    {u x : State} (hu : (orderTurn [] c (vcWrites writes s, false)).1 = u) (hx : (orderTurn [] d (u, false)).1 = x) :
    u.port.wordAt (dirAddr d.number 1) = (vcWrites writes s).port.wordAt (dirAddr d.number 1) ∧
      ∃ t, exec (.intakeSweep writes []) s = .next t ∧ ExcOnly x t ∧ t.exc.orders = x.exc.orders ∧
        t.port.wordAt (dirAddr c.number 1) = 0xFFFF ∧ t.port.wordAt (dirAddr d.number 1) = 0xFFFF ∧
        t.exc.sweepCount = s.exc.sweepCount + 1 := by
  have hdc : d ≠ c := fun h => lt_irrefl _ (h ▸ hcd)
  have hwf : MemoryInv (vcWrites writes s) := vcWrites_memoryInv writes hmemory
  have hfirst := quietTurn_turnFrame c (vcWrites writes s, false)
  have hcleared := quietTurn_cleared c hwf false
  have humemory := orderTurn_memoryInv [] c (t := (vcWrites writes s, false)) hwf
  rw [hu] at hfirst hcleared humemory
  have hsecond := quietTurn_turnFrame d (u, false)
  have hcleared' := quietTurn_cleared d humemory false
  have hxmemory := orderTurn_memoryInv [] d (t := (u, false)) humemory
  rw [hx] at hsecond hcleared' hxmemory
  have hturns : (orderTurns [] OrderChannel.all (vcWrites writes s, false)).1 = x := by
    rw [orderTurns_two hcd hidle, ← hx, ← hu]
    exact orderTurn_state [] d _ _ false
  refine ⟨hfirst.pendingWord d fun _ ha => ha.other hdc, _, sweep_after_turns hrunning (Prod.ext hturns rfl),
    sweepEnd_excOnly _ x, sweepEnd_orders _ x, ?_, (sweepEnd_pendingWord _ hxmemory d).trans hcleared', ?_⟩
  · rw [sweepEnd_pendingWord _ hxmemory, hsecond.pendingWord c fun _ ha => ha.other hdc.symm, hcleared]
  · rw [sweepEnd_sweepCount, hsecond.sweepCount, hfirst.sweepCount]
    rfl

end

/-! ## The statement -/

/-- Settles O46, by the turn of a refused order, of a taken order and of an index above 95, by two turns in order, and by the
turns in which a pending word is overwritten. -/
theorem sweepTakesAnOrder : Obligations.SweepTakesAnOrder := by
  refine ⟨?one, ?word, ?two, ?precharge, ?late⟩
  case one =>
    intro c k writes s hrunning hmemory
    dsimp only
    intro hidle hpending
    refine ⟨fun code got h => sweep_refused hrunning hmemory hidle hpending h, fun added u h hanswer => ?_⟩
    obtain ⟨t, hexec, hrow, honly, htaken, hstamped, hprevious, ⟨hsupply, hsent, hqueue⟩, hrest⟩ :=
      sweep_taken hrunning hmemory hidle hpending h hanswer rfl
    have hrecords : t.dsv = u.dsv ∧ t.faults = u.faults ∧ t.sns = u.sns ∧ t.ena = u.ena ∧ t.spl = u.spl ∧ t.tqa = u.tqa ∧
        t.cpl = u.cpl ∧ t.bbl = u.bbl ∧ t.wear = u.wear ∧ t.log = u.log := by
      rw [honly]
      exact ⟨rfl, rfl, rfl, rfl, rfl, rfl, rfl, rfl, rfl, rfl⟩
    obtain ⟨hdsv, hfaults, hsns, hena, hspl, htqa, hcpl, hbbl, hwear, hlog⟩ := hrecords
    obtain ⟨hcleared, hcount, hothers⟩ := hrest
    exact ⟨t, hexec, by rw [hrow], by rw [hrow], by rw [hrow]; rfl, by rw [hrow]; rfl, by rw [hrow]; rfl, hdsv, hfaults,
      hsns, hena, hspl, htqa, hcpl, hbbl, hwear, hlog, htaken, hstamped, hprevious, hcleared, hcount, hsupply, hsent, hqueue,
      hothers⟩
  case word =>
    intro c v writes s hrunning hmemory
    dsimp only
    intro hidle hpending hv
    refine ⟨fun hbeyond => sweep_beyond hrunning hmemory hidle hpending hv hbeyond, ?_⟩
    exact ⟨_, sweep_after_turns hrunning ((orderTurns_one hidle).trans Prod.mk.eta.symm), sweepEnd_excOnly _ _,
      sweepEnd_orders _ _⟩
  case two =>
    intro c d writes s hrunning hmemory s0 hcd hidle
    exact sweep_two hrunning hmemory hcd hidle rfl rfl
  case precharge =>
    intro k j writes s hrunning hmemory
    dsimp only
    rintro hidle ⟨hpending, hblock, hunnamed, hfilled, hclass, hshort⟩ ⟨hpending', hblock', hunnamed', hfilled', hclass', hlong⟩
      h0 h1 h3 h4 hstate hcool hrank
    obtain ⟨f, u, hanswer, hprecharge, hsettings⟩ :=
      orderAnswer_mode_precharge (s := vcWrites writes s) h0 h1 h3 h4 hstate hcool hrank
    exact sweep_mode_limits hrunning hmemory hidle ⟨hpending, hblock, hunnamed, hfilled, hclass⟩
      ⟨hpending', hblock', hunnamed', hfilled', hclass'⟩ hshort hlong hanswer hprecharge hsettings
  case late =>
    intro c d m value writes s hrunning hmemory
    dsimp only
    intro hidle hne
    have hwf : MemoryInv (vcWrites writes s) := vcWrites_memoryInv writes hmemory
    have hne : (vcWrites writes s).port.wordAt (dirAddr c.number 1) ≠ 0xFFFF := hne
    obtain hlt | heq | hgt := lt_trichotomy d.number c.number
    · have hdc : d ≠ c := fun h => lt_irrefl _ (h ▸ hlt)
      have hagree := lateTurn_other (m := m) (value := value) hwf hne hdc false
      have hquiet := orderTurn_memoryInv [] c (t := (vcWrites writes s, false)) hwf
      obtain ⟨t, hexec, hcount, hothers, honly, horders, hwords⟩ :=
        sweep_late hrunning hmemory hidle (lateTurns_lower (m := m) (value := value) hlt hidle) hne
      refine ⟨t, hexec, hcount, hothers, fun h => absurd h hdc, fun _ => ⟨honly, horders, ?_, ?_⟩,
        fun h => absurd h (lt_asymm hlt)⟩
      · rw [hwords, hagree.port.wordAt id id]
        exact (Port.wordAt_setWord_other _ _ (pendingAddr_apart hdc.symm)).trans (quietTurn_cleared c hwf false)
      · rw [hwords, hagree.port.wordAt id id]
        exact Port.wordAt_setWord_same _ value (pendingAddr_ram d) hquiet
    · obtain rfl := OrderChannel.number_injective heq
      obtain ⟨t, hexec, hcount, hothers, honly, horders, hwords⟩ :=
        sweep_late hrunning hmemory hidle (lateTurns_own (m := m) (value := value) hidle) hne
      exact ⟨t, hexec, hcount, hothers, fun _ => ⟨honly, horders, (hwords d).trans (lateTurn_own hwf rfl hne false)⟩,
        fun h => absurd h (lt_irrefl _), fun h => absurd h (lt_irrefl _)⟩
    · obtain ⟨t, hexec, hcount, hothers, hhigher⟩ :=
        sweep_late_higher (m := m) (value := value) hrunning hmemory hidle hgt hne rfl
      exact ⟨t, hexec, hcount, hothers, fun h => absurd hgt (h ▸ lt_irrefl _), fun h => absurd h (lt_asymm hgt),
        fun _ => hhigher⟩

end Sys2Proof.Machine
end
